-- ==== Sys2Proof/Word.lean ====
section
/-! DEFINITION. The unit of both serial lines: one byte. Every other quantity of the manual is an integer
in a fixed unit (spec/00_scope.md, "Quantities and units") and is a `Nat` or an `Int` here. -/

namespace Sys2Proof

/-- One byte of the sample line or of the host link. -/
abbrev Byte := BitVec 8

end Sys2Proof
end

