-- ==== Sys2Proof/Syntax.lean ====
section
/-! DEFINITION. The commands of the block: one constructor per row of spec/opcode_table.json. The table
gives its rows no fields; the operands below are what the event itself brings from outside the part (bytes on
a line, the pin and its level, the number of the record that takes its own event, an outcome the manual leaves
to the event). What one block hands to another stands in State, not in an operand (notes/assumptions/3.md). -/

namespace Sys2Proof

/-- The debounced inputs of R6: EN0 to EN15, the PANEL button and the LOCK input. -/
inductive Pin where
  | en (t : Fin 16)
  | panel
  | lock
  deriving DecidableEq, Repr

/-- The rows of spec/opcode_table.json. -/
inductive Instr where
  /-- R181; `rateHigh`: the level of the RATE strap as start-up reads it. -/
  | powerOnReset (rateHigh : Bool)
  | pinReset (rateHigh : Bool)
  /-- R182. -/
  | restartReset (rateHigh : Bool)
  /-- R20: the bytes received since the last event of the line, then the 0x96 byte that closes a frame. -/
  | sampleFrame (bytes : List Byte)
  /-- R19: the bytes received since the last event of the line, then the line idle for four byte times. -/
  | sampleLineIdle (bytes : List Byte)
  | takeCurrentFrame
  | takeFieldFrame
  /-- R15: transformer `t` takes the measured second waiting for it. -/
  | measuredSecond (t : Fin 16)
  | clockSecond
  /-- R82: transformer `t` takes the clock second waiting for it. -/
  | standInSecond (t : Fin 16)
  | fieldNone
  | episodeQuietClose
  /-- R133: the tracker takes the waiting hand-off of transformer `t`. -/
  | episodeHandoff (t : Fin 16)
  /-- R146: the pending entry of channel `ch` takes the clock second that ends its wait. -/
  | captureMissed (ch : Fin 16)
  | linkSilent
  /-- R23: the silence timer of converter `c`. -/
  | silenceTimerExpiry (c : Fin 5)
  /-- R176; `now`: the oscillator's running count of milliseconds at the edge. -/
  | ppsEdge (now : Nat)
  | ppsLost
  /-- R6: the raw level of `pin` becomes `level` at millisecond `now` of the oscillator. -/
  | inputLevelChange (pin : Pin) (level : Bool) (now : Nat)
  | debounceComplete (pin : Pin)
  | energised (t : Fin 16)
  | deenergised (t : Fin 16)
  | panelPress
  | panelRelease
  | panelTestStart
  | panelTestTimeout
  | contactReport
  /-- R140: the Capture Unit takes the waiting LEVEL trigger of channel `ch`. -/
  | levelTrigger (ch : Fin 16)
  /-- R148: the Capture Unit takes the waiting disable of channel `ch`. -/
  | captureDisableReport (ch : Fin 16)
  /-- R168: bytes received on HRX, the last of them the check byte of a request frame. -/
  | requestFrame (bytes : List Byte)
  /-- R168: bytes received on HRX, then more than 10 ms without one. -/
  | hostFrameGap (bytes : List Byte)
  | unknownKindRequest
  | identify
  | readClock
  | setClock
  | readDeviceSettings
  /-- R179; `now`: the oscillator's millisecond, by which the holds in progress are judged (R6). -/
  | writeDeviceSettings (now : Nat)
  | readTransformerSettings
  | writeTransformerSettings
  | readLive
  | snapshot
  | readSnapshot
  | acknowledge
  | suppress
  | loadGroundResponse
  | readGroundResponse
  | readField
  | readContactMap
  | writeContactMap
  | fetchSummary
  | changeNoticeMask
  | fetchTransitions
  | readEpisode
  | readEpisodeEntry
  | closeEpisode
  | captureNow
  | extendCapture
  | listCaptures
  | readCaptureSamples
  | releaseCapture
  | readIntakeStatus
  | clearConverterFault
  | saveSettings
  /-- R180: the save's end; `agrees`: the read-back agrees with the copy. -/
  | saveCompletion (agrees : Bool)
  | restart
  | tenthAdvance
  | replySent
  /-- R18: bytes received on the sample line, then a byte whose stop bit is missing. -/
  | sampleDamagedByte (bytes : List Byte)
  /-- R19: bytes received on the sample line, the last of them the byte that discards the frame. -/
  | sampleFrameDiscard (bytes : List Byte)
  /-- R168: bytes received on HRX, then a byte whose stop bit is missing. -/
  | hostDamagedByte (bytes : List Byte)
  /-- R168: bytes received on HRX, the last of them the byte that discards the frame. -/
  | hostFrameDiscard (bytes : List Byte)
  deriving DecidableEq, Repr

end Sys2Proof
end

