-- ==== Sys2Proof/Decode.lean ====
section
/-! DEFINITION. spec/opcode_table.json gives none of its rows bits (its reader's count says no row has a
fixed part or a field), so no word spells a command: commands reach the block as pins, lines and events. The
byte layouts of R184 are read where the bytes arrive (Machine/Lines.lean, Machine/Operands.lean). -/

namespace Sys2Proof

/-- The command a word spells by the table's bits: none, since the table gives no row any bits. -/
def decodeTableWord (_nbits _w : Nat) : Option Instr := none

end Sys2Proof
end

