-- ==== Sys2Proof/Config.lean ====
section
/-! DEFINITION. What the manual fixes once for every part: capacities, line codes and the identity codes.
The manual leaves no value of an operation open, so there is no free value here (notes/assumptions/1.md). -/

namespace Sys2Proof.Config

/-- The sync byte of the sample line (R18). -/
def sampleSync : Byte := 0x96
/-- The SYN byte of the host link (R168). -/
def hostSyn : Byte := 0xE7
/-- Frames the intake FIFO holds (R22). -/
def fifoDepth : Nat := 8
/-- Tenths of a second that a silence timer runs from its loading (R23). -/
def silenceTenths : Nat := 10
/-- Request frames the buffer holds (R169). -/
def bufferDepth : Nat := 2
/-- Records the transition queue holds (R171). -/
def queueDepth : Nat := 64
/-- Records the capture list holds (R137). -/
def captureListDepth : Nat := 8
/-- Slots of the capture memory (R137). -/
def captureSlots : Nat := 16384
/-- Samples of a cycle, and so slots of one captured cycle (R36, R139). -/
def cycleSamples : Nat := 32
/-- Cycles a pre-history ring holds (R43). -/
def ringDepth : Nat := 4
/-- Closed episodes the history holds (R124). -/
def historyDepth : Nat := 8
/-- What a slot of capture memory that no capture has written reads as. R137 says only "contents lost";
DESIGN CHOICE, unsafe: notes/assumptions/2.md. -/
def lostCode : Int := 0
/-- Vendor code, part code and revision that Identify returns (R184). -/
def vendorCode : Nat := 0x4D4B
def partCode : Nat := 0x2160
def revision : Nat := 0x01

end Sys2Proof.Config
end

