-- ==== Sys2Proof/Machine/Types.lean ====
section
/-! DEFINITION. The records of which the state is made, one group per block of the manual (00_scope.md,
"Block overview"). All of it is plain data. -/

namespace Sys2Proof.Machine

/-! ### Enumerations of the manual -/

/-- Service states (R4, 1.5). -/
inductive ServiceState where
  | off | outOfService | inService
  deriving DecidableEq, Repr

/-- Alarm levels, lowest first (R101). -/
inductive Level where
  | normal | watch | warn | alarm
  deriving DecidableEq, Repr

/-- Quality grades, best first (R37). -/
inductive Grade where
  | good | suspect | filled | clipped | fault
  deriving DecidableEq, Repr

/-- Use made of the cross-check (R1). -/
inductive CheckMode where
  | off | report | guard
  deriving DecidableEq, Repr

/-- Lowest level whose raise triggers a capture (R1). -/
inductive CaptureLevel where
  | none | warn | alarm
  deriving DecidableEq, Repr

/-- Fill mode of a current converter (R26). -/
inductive FillMode where
  | hold | zero
  deriving DecidableEq, Repr

/-- The mains setting (R179). -/
inductive Mains where
  | hz50 | hz60
  deriving DecidableEq, Repr

/-- Quality of the latest E (R63). -/
inductive EQuality where
  | good | degraded | none
  deriving DecidableEq, Repr

/-- Contact mode (R155). -/
inductive ContactMode where
  | follow | latch
  deriving DecidableEq, Repr

/-- Contact sense (R155). -/
inductive Sense where
  | energiseOnAlarm | deenergiseOnAlarm
  deriving DecidableEq, Repr

/-- Contact states: OPEN and CLOSED of FOLLOW (R158); OPEN and the three closed states of LATCH (R159). -/
inductive ContactState where
  | open | closed | closedActive | closedHeld | closedAcked
  deriving DecidableEq, Repr

/-- Lamp states (R163). -/
inductive LampState where
  | off | steady | flashing | test
  deriving DecidableEq, Repr

/-- Panel states (R164). -/
inductive PanelState where
  | idle | pressed | test | testEnded | ignored
  deriving DecidableEq, Repr

/-- What closed an episode (R130). -/
inductive CloseCause where
  | quiet | forced
  deriving DecidableEq, Repr

/-- What started a capture (R138). -/
inductive CaptureCause where
  | level | request
  deriving DecidableEq, Repr

/-- State of a capture record (R138). -/
inductive CaptureState where
  | filling | suspended | done
  deriving DecidableEq, Repr

/-- State of pps supervision (R175). -/
inductive PpsState where
  | unused | tracking | lost
  deriving DecidableEq, Repr

/-- What the last reset was (R181). -/
inductive ResetCause where
  | powerOn | pin | restart
  deriving DecidableEq, Repr

/-- Where the settings in use at the last start-up came from (R181). -/
inductive SettingsSource where
  | stored | default
  deriving DecidableEq, Repr

/-- Status of a reply (R170). -/
inductive Status where
  | ok | clamped | busy | locked | refused | unknownKind | badLength | notFound | wrongState
  deriving DecidableEq, Repr

/-- First order that a refused settings part breaks (R2). -/
inductive Violation where
  | thresholds | breakpoints | thermal
  deriving DecidableEq, Repr

/-- Categories of transitions (R172). -/
inductive Category where
  | level | sensor | episode | capture | device | queueFull
  deriving DecidableEq, Repr

/-- Kinds of transition (R171). -/
inductive TransitionKind where
  | levelUp | levelDown | reminder | outOfService | inService
  | doubtOn | doubtOff | lostOn | lostOff | offsetLearned | offsetFault
  | converterResync | converterFault | converterAbsent | fieldNone
  | episodeOpen | episodeClose
  | captureDone | captureMissed
  | clockSet | ppsLost | settingsSaved | settingsSaveFailed | linkSilent | restarted
  deriving DecidableEq, Repr

/-- Restart arming (R182); `due`: the second Restart has been taken and its reply is still going out. -/
inductive RestartState where
  | disarmed | armed | due
  deriving DecidableEq, Repr

/-! ### Time -/

/-- A time stamp (00_scope.md, "Time stamps"). -/
structure Stamp where
  day : Nat
  second : Nat
  tenth : Nat
  deriving DecidableEq, Repr

/-- The Time Base (R175). `lastEdge` is the oscillator's millisecond of the last pps edge taken. -/
structure TimeBase where
  now : Stamp
  pendingSet : Option (Nat × Nat)
  pps : PpsState
  lastEdge : Option Nat
  deriving DecidableEq, Repr

/-! ### Settings -/

/-- One pair of the steady-rise curve (R1). -/
structure Breakpoint where
  x : Nat
  r : Nat
  deriving DecidableEq, Repr

/-- The settings part of a transformer record (R1). -/
structure Settings where
  enabled : Bool
  gain : Nat
  offsetSet : Int
  learning : Bool
  iWatch : Nat
  iWarn : Nat
  iAlarm : Nat
  hyst : Nat
  dWatch : Nat
  dWarn : Nat
  dAlarm : Nat
  dFall : Nat
  breakpoints : Vector Breakpoint 8
  tauHeat : Nat
  tauCool : Nat
  tWarn : Nat
  tAlarm : Nat
  tHys : Nat
  checkMode : CheckMode
  coefA : Int
  coefB : Int
  wAbs : Nat
  wPct : Nat
  doubtD : Nat
  reminder : Nat
  latched : Bool
  captureLevel : CaptureLevel
  capturePre : Nat
  capturePost : Nat
  deriving DecidableEq, Repr

/-- A set of categories: bit 0 LEVEL to bit 5 QUEUE_FULL (R172, R184). -/
abbrev CategorySet := BitVec 6

/-- A set of transformers: bit `i` names transformer `i` (R184). -/
abbrev TransformerSet := BitVec 16

/-- The device settings (R179). -/
structure DeviceSettings where
  mains : Mains
  fill : Vector FillMode 4
  debounce : Nat
  quietTime : Nat
  eStart : Nat
  linkSilence : Nat
  panelLock : Bool
  ppsUse : Bool
  noticeMask : CategorySet
  deriving DecidableEq, Repr

/-- Device sources of a contact map (R155): bit 0 ANY_DOUBT, 1 ANY_LOST, 2 CONVERTER_FAULT,
3 LINK_SILENT, 4 EPISODE_ACTIVE (R184). -/
abbrev SourceSet := BitVec 5

/-- A contact map (R155). -/
structure ContactMap where
  transformers : TransformerSet
  minLevel : Level
  sources : SourceSet
  mode : ContactMode
  sense : Sense
  testEnable : Bool
  deriving DecidableEq, Repr

/-- Everything the Settings Store keeps (R180), as it stands in use. `taps` is the ground response table (R56). -/
structure SettingsSet where
  device : DeviceSettings
  transformers : Vector Settings 16
  taps : List Int
  maps : Vector ContactMap 4
  deriving DecidableEq, Repr

/-- The Settings Store (R180): the non-volatile image, whether its CRC agrees, and the copy of a save in progress. -/
structure Store where
  image : SettingsSet
  valid : Bool
  save : Option SettingsSet
  deriving DecidableEq, Repr

/-! ### The live part -/

/-- M with its quality (R4). -/
structure Measured where
  m : Int
  quality : Grade
  deriving DecidableEq, Repr

/-- The live part of a transformer record (R4). `heat` is T and `steady` is S. -/
structure Live where
  service : ServiceState
  level : Level
  measured : Option Measured
  offsetEff : Int
  offsetFault : Bool
  age : Nat
  predicted : Option Int
  basis : Option Nat
  doubt : Bool
  outsideRun : Nat
  insideRun : Nat
  lost : Bool
  heat : Nat
  steady : Nat
  riseAge : Nat
  calmAge : Nat
  unacknowledged : Bool
  reminderCount : Nat
  suppressed : Bool
  deriving DecidableEq, Repr

/-- The snapshot set (R13). -/
structure Snapshot where
  stamp : Stamp
  copies : Vector Live 16
  deriving DecidableEq, Repr

/-! ### Sample Intake -/

/-- A valid sample frame (R18, R184); of the status byte, the two indications that are used. -/
inductive Frame where
  | current (conv : Fin 4) (seq : Byte) (selftestFail refLow : Bool) (codes : Vector Int 4)
  | field (seq : Byte) (selftestFail refLow : Bool) (north east : Int)
  deriving DecidableEq, Repr

/-- A converter's state with its reference sequence, which it has exactly when it is not ABSENT (2.3). -/
inductive ConverterState where
  | absent
  | locked (ref : Byte)
  | faulted (ref : Byte)
  deriving DecidableEq, Repr

/-- What Sample Intake keeps of a converter (2.3). `timer`: while the silence timer runs, the tenths of a second that it still
has to run (R23; notes/assumptions/9.md). -/
structure Converter where
  state : ConverterState
  timer : Option Nat
  overrun : Bool
  resyncSeen : Bool
  deriving DecidableEq, Repr

/-- Sample Intake (R34). `line` holds the bytes of the frame being assembled, from its sync byte on, and is
empty while hunting. -/
structure Intake where
  line : List Byte
  fifo : List Frame
  converters : Vector Converter 5
  crcSeen : Bool
  held : Vector Int 16
  heldNorth : Int
  heldEast : Int
  deriving DecidableEq, Repr

/-! ### Status Inputs -/

/-- One debounced input (R6). `hold` is the oscillator's millisecond at which the running hold began. -/
structure Input where
  raw : Bool
  debounced : Bool
  hold : Option Nat
  deriving DecidableEq, Repr

/-- The eighteen inputs (R6). -/
structure Inputs where
  en : Vector Input 16
  panel : Input
  lock : Input
  deriving DecidableEq, Repr

/-! ### Current Extractor -/

/-- A cycle in progress (R36): its raw codes in the order taken, its worst grade, the latched gain and offset.
The count of samples and Σs are read off the codes. -/
structure PartialCycle where
  codes : List Int
  grade : Grade
  gain : Nat
  offset : Int
  deriving DecidableEq, Repr

/-- A block in progress (R36); an empty one has count 0, sum 0 and the best grade. -/
structure PartialBlock where
  count : Nat
  sum : Int
  grade : Grade
  deriving DecidableEq, Repr

/-- A second in progress (R36), with the sum and the number of the raw codes it took. -/
structure PartialSecond where
  count : Nat
  sum : Int
  grade : Grade
  rawSum : Int
  rawCount : Nat
  deriving DecidableEq, Repr

/-- The learning accumulation (R36). -/
structure Learning where
  seconds : Nat
  sum : Int
  codes : Nat
  deriving DecidableEq, Repr

/-- What the Current Extractor keeps of a channel (R36); the ring is oldest first. -/
structure Channel where
  cycle : Option PartialCycle
  block : PartialBlock
  second : PartialSecond
  ring : List (List Int)
  deenergisedTime : Nat
  learning : Learning
  deriving DecidableEq, Repr

/-! ### Field Estimator -/

/-- A field second in progress (R56). -/
structure PartialField where
  count : Nat
  north : Int
  east : Int
  sound : Bool
  deriving DecidableEq, Repr

/-- The means of the last completed field second (R56). -/
structure FieldMeans where
  north : Int
  east : Int
  sound : Bool
  stamp : Stamp
  deriving DecidableEq, Repr

/-- An entry of the rate history (R56). -/
structure RateEntry where
  dN : Int
  dE : Int
  gap : Bool
  clamp : Bool
  deriving DecidableEq, Repr

/-- The latest E (R56); `formed` is the L it was formed with and its stamp. -/
structure FieldEstimate where
  north : Int
  east : Int
  quality : EQuality
  saturated : Bool
  formed : Option (Nat × Stamp)
  deriving DecidableEq, Repr

/-- The Field Estimator (R56); the ground response table is among the settings. -/
structure FieldEstimator where
  partialField : PartialField
  lastMeans : Option FieldMeans
  linked : Bool
  history : Vector RateEntry 64
  latest : FieldEstimate
  age : Nat
  deriving DecidableEq, Repr

/-! ### Episode Tracker -/

/-- An entry of an episode record (R124). -/
structure EpisodeEntry where
  peak : Option (Nat × Stamp)
  highest : Level
  charge : Nat
  maxT : Nat
  deriving DecidableEq, Repr

/-- An episode record (R124); `closed` holds end stamp and close cause. -/
structure Episode where
  number : Nat
  start : Stamp
  closed : Option (Stamp × CloseCause)
  maxE : Option (Nat × Stamp)
  entries : Vector EpisodeEntry 16
  deriving DecidableEq, Repr

/-- The Episode Tracker (R124); it is ACTIVE exactly when an episode is open. History oldest first. -/
structure EpisodeTracker where
  openEpisode : Option Episode
  quietTimer : Nat
  history : List Episode
  nextNumber : Nat
  deriving DecidableEq, Repr

/-! ### Capture Unit -/

/-- A capture record (R138); its length is computed from its counts (`CaptureRecord.length`). -/
structure CaptureRecord where
  number : Nat
  channel : Fin 16
  cause : CaptureCause
  stamp : Stamp
  startDelay : Option Nat
  state : CaptureState
  preCount : Nat
  postTarget : Nat
  postStored : Nat
  firstSlot : Nat
  gap : Option (Nat × Nat)
  truncated : Bool
  extensions : Nat
  deriving DecidableEq, Repr

/-- A pending entry (R137). `expiry` is the clock second, still to be taken by the entry's own event, that brings
its wait count to 60 (R146). -/
structure PendingEntry where
  channel : Fin 16
  cause : CaptureCause
  stamp : Stamp
  pre : Nat
  post : Nat
  wait : Nat
  cycles : Nat
  expiry : Option Stamp
  deriving DecidableEq, Repr

/-- Capture memory (R137): (slot, code) pairs in one canonical form, slots strictly rising and no code
equal to `Config.lostCode`. -/
abbrev SlotMemory := List (Nat × Int)

/-- The Capture Unit (R137). -/
structure CaptureUnit where
  memory : SlotMemory
  writePos : Nat
  records : List CaptureRecord
  waiting : List PendingEntry
  nextNumber : Nat
  deriving DecidableEq, Repr

/-! ### Contact Driver -/

/-- A contact (R157 to R161): its state, its source as last judged, and whether its driver is on. -/
structure Contact where
  state : ContactState
  source : Bool
  driver : Bool
  deriving DecidableEq, Repr

/-- The Contact Driver (10.2 to 10.8). `panelTimer`: the panel timer is running. `linkTimer`: absent while stopped. -/
structure ContactDriver where
  contacts : Vector Contact 4
  lamp : LampState
  panel : PanelState
  panelTimer : Bool
  linkTimer : Option Nat
  linkSilent : Bool
  deriving DecidableEq, Repr

/-! ### Message Link -/

/-- A valid request frame (R168). -/
structure Request where
  kind : Byte
  tag : Byte
  body : List Byte
  deriving DecidableEq, Repr

/-- A transition record (R171); source absent stands for DEVICE. -/
structure Transition where
  stamp : Stamp
  source : Option (Fin 16)
  kind : TransitionKind
  levels : Option (Level × Level)
  x : Option Nat
  t : Option Nat
  detail : Option Nat
  suppressed : Bool
  deriving DecidableEq, Repr

/-- The Message Link (R168 to R174, R182). `line`: the bytes of the request frame being assembled, from SYN on.
`sending`: the bytes of the reply being sent. `kept`: the TAG and the frame of the last Fetch Transitions reply. `attn`:
the line is asserted (driven low). -/
structure MessageLink where
  baud : Nat
  line : List Byte
  buffer : List Request
  sending : Option (List Byte)
  kept : Option (Byte × List Byte)
  restart : RestartState
  transitions : List Transition
  summary : CategorySet
  attn : Bool
  deriving DecidableEq, Repr

/-! ### What one block has handed to another and the other has not taken yet -/

/-- A measured second on its way to its transformer record (R41). -/
structure SecondHandOff where
  channel : Fin 16
  m : Int
  quality : Grade
  fullScale : Nat
  rawSum : Int
  rawCount : Nat
  deriving DecidableEq, Repr

/-- An evaluation on its way to the Episode Tracker (R121). -/
structure EvaluationHandOff where
  transformer : Fin 16
  basis : Option Nat
  level : Level
  heat : Nat
  stamp : Stamp
  deriving DecidableEq, Repr

/-- A LEVEL trigger on its way to the Capture Unit (R120). -/
structure TriggerHandOff where
  channel : Fin 16
  stamp : Stamp
  pre : Nat
  post : Nat
  deriving DecidableEq, Repr

/-- A report on its way to the Contact Driver (R157), by what it tells of. -/
inductive ContactReport where
  | transformer (t : Fin 16)
  | converter (c : Fin 5)
  | tracker
  | linkSilence
  | map (k : Fin 4)
  deriving DecidableEq, Repr

/-- A debounced change on its way from the Status Inputs (R6): EN to the Transformer Table, PANEL to the Contact
Driver. -/
structure EnReport where
  transformer : Fin 16
  level : Bool
  deriving DecidableEq, Repr

/-- Events made and not yet taken, oldest first. `recordTicks`, `fieldTick`, `trackerTick` and `linkTick`: the clock
second that a block has still to take in an event of its own row (STAND_IN_SECOND, FIELD_NONE, EPISODE_QUIET_CLOSE,
LINK_SILENT). -/
structure HandOffs where
  seconds : List SecondHandOff
  evaluations : List EvaluationHandOff
  triggers : List TriggerHandOff
  disables : List (Fin 16)
  reports : List ContactReport
  enReports : List EnReport
  panelReports : List Bool
  recordTicks : Vector (Option Stamp) 16
  fieldTick : Option Stamp
  trackerTick : Option Stamp
  linkTick : Option Stamp
  deriving DecidableEq, Repr

end Sys2Proof.Machine
end

