-- ==== Sys2Proof/Machine/Arith.lean ====
section
/-! DEFINITION. The arithmetic the manual fixes once: rounding, clamping, saturating counts, the CRC-8, the bytes of
multi-byte fields, the orders of levels, grades and stamps, and modular sequence difference. -/

namespace Sys2Proof.Machine

/-- Division rounding to the nearest integer, halves away from zero (00_scope.md, "Rounding"). -/
def roundDiv (n : Int) (d : Nat) : Int :=
  n.sign * (((2 * n.natAbs + d) / (2 * d) : Nat) : Int)

/-- The same for a quotient that is not negative. -/
def roundDivNat (n d : Nat) : Nat := (2 * n + d) / (2 * d)

/-- A result beyond the range takes the nearest end of the range (00_scope.md). -/
def clampInt (lo hi n : Int) : Int := max lo (min hi n)

def clampNat (lo hi n : Nat) : Nat := max lo (min hi n)

/-- One more, saturating at `limit`. -/
def satSucc (limit n : Nat) : Nat := min limit (n + 1)

/-! ### CRC-8 (R21) -/

/-- One shift of the register with the polynomial's lower eight coefficients 0x07 (R21). -/
def crcShift (r : Byte) : Byte := if r.msb then (r <<< 1) ^^^ 0x07 else r <<< 1

/-- A byte combined into the register and shifted eight times (R21). -/
def crcByte (r b : Byte) : Byte :=
  crcShift (crcShift (crcShift (crcShift (crcShift (crcShift (crcShift (crcShift (r ^^^ b))))))))

/-- The CRC-8 of bytes in the order they travel (R21). -/
def crc8 (bytes : List Byte) : Byte := bytes.foldl crcByte 0

/-! ### Bytes of multi-byte fields (R184: most significant byte first, two's complement) -/

/-- The low `8 * n` bits of `v`, most significant byte first. -/
def beBytes : Nat → Nat → List Byte
  | 0, _ => []
  | n + 1, v => BitVec.ofNat 8 (v / 256 ^ n) :: beBytes n v

/-- The two's complement of `v` in `n` bytes. -/
def beInt (n : Nat) (v : Int) : List Byte := beBytes n (v % (256 ^ n : Nat)).toNat

/-- The byte at offset `k` of a body, 0 beyond its end. -/
def u8 (body : List Byte) (k : Nat) : Nat := (body.getD k 0).toNat

def u16 (body : List Byte) (k : Nat) : Nat := u8 body k * 256 + u8 body (k + 1)

def u24 (body : List Byte) (k : Nat) : Nat := u16 body k * 256 + u8 body (k + 2)

/-- The signed value of an unsigned field of `bits` bits. -/
def signed (bits v : Nat) : Int := if v < 2 ^ (bits - 1) then v else (v : Int) - (2 ^ bits : Nat)

def s16 (body : List Byte) (k : Nat) : Int := signed 16 (u16 body k)

def s24 (body : List Byte) (k : Nat) : Int := signed 24 (u24 body k)

/-- A flag or yes/no field: 0 for clear or no, 1 for set or yes (R184). -/
def flagByte (b : Bool) : Byte := if b then 1 else 0

/-- Bits packed with bit 0 first. -/
def packBits : List Bool → Nat
  | [] => 0
  | b :: rest => (if b then 1 else 0) + 2 * packBits rest

/-! ### Orders -/

/-- NORMAL < WATCH < WARN < ALARM (R101); also the level codes of R184. -/
def Level.rank : Level → Nat
  | .normal => 0
  | .watch => 1
  | .warn => 2
  | .alarm => 3

/-- Rank of a grade, best first (R37); also the codes of R184. -/
def Grade.rank : Grade → Nat
  | .good => 0
  | .suspect => 1
  | .filled => 2
  | .clipped => 3
  | .fault => 4

/-- The worse of two grades (R37). -/
def Grade.worse (a b : Grade) : Grade := if a.rank < b.rank then b else a

/-- The earlier-or-equal order of stamps: day, then second, then tenth. -/
def Stamp.le (a b : Stamp) : Bool :=
  a.day < b.day || (a.day == b.day && (a.second < b.second || (a.second == b.second && a.tenth ≤ b.tenth)))

/-! ### Lists -/

/-- The first element that `p` picks, with the rest in order; none where `p` picks none. -/
def takeFirst {α : Type} (p : α → Bool) : List α → Option (α × List α)
  | [] => none
  | a :: rest =>
    if p a then some (a, rest)
    else
      match takeFirst p rest with
      | some (b, others) => some (b, a :: others)
      | none => none

/-- The sixteen numbers of transformers and channels, in order. -/
def allSixteen : List (Fin 16) := [0, 1, 2, 3, 4, 5, 6, 7, 8, 9, 10, 11, 12, 13, 14, 15]

/-- Channel of position `p` of current converter `c`: 4c + p (R18). -/
def channelOf (c : Fin 4) (p : Fin 4) : Fin 16 := ⟨4 * c.val + p.val, by omega⟩

/-- Current converter of a channel: ⌊i / 4⌋ (00_scope.md). -/
def converterOf (ch : Fin 16) : Fin 4 := ⟨ch.val / 4, by omega⟩

/-- The index of a current converter among the five converters. -/
def currentConverter (c : Fin 4) : Fin 5 := ⟨c.val, by omega⟩

/-- Converter 4 is the field converter (00_scope.md). -/
def fieldConverter : Fin 5 := 4

end Sys2Proof.Machine
end

