-- ==== Sys2Proof/Machine/Defaults.lean ====
section
/-! DEFINITION. The values every block takes at the end of start-up (R4, R34, R36, R56, R124, R137, R155,
R164, R175, R181) and the defaults of the settings (R1, R155, R179, R181). -/

namespace Sys2Proof.Machine

/-- Default breakpoints (R1). -/
def defaultBreakpoints : Vector Breakpoint 8 :=
  #v[⟨100, 50⟩, ⟨200, 200⟩, ⟨400, 800⟩, ⟨700, 2200⟩, ⟨1000, 4000⟩, ⟨1500, 7000⟩, ⟨2000, 10000⟩, ⟨3000, 15000⟩]

/-- Default settings part (R1, last column). -/
def defaultSettings : Settings where
  enabled := false
  gain := 10000
  offsetSet := 0
  learning := false
  iWatch := 100
  iWarn := 300
  iAlarm := 600
  hyst := 20
  dWatch := 10
  dWarn := 30
  dAlarm := 60
  dFall := 300
  breakpoints := defaultBreakpoints
  tauHeat := 600
  tauCool := 1200
  tWarn := 3000
  tAlarm := 6000
  tHys := 200
  checkMode := .off
  coefA := 0
  coefB := 0
  wAbs := 50
  wPct := 20
  doubtD := 60
  reminder := 0
  latched := false
  captureLevel := .none
  capturePre := 2
  capturePost := 20

/-- Default device settings (R179). -/
def defaultDevice : DeviceSettings where
  mains := .hz50
  fill := Vector.replicate 4 .hold
  debounce := 20
  quietTime := 3600
  eStart := 300
  linkSilence := 0
  panelLock := false
  ppsUse := false
  noticeMask := 0x3F

/-- Default contact map (R155). -/
def defaultMap : ContactMap where
  transformers := 0
  minLevel := .warn
  sources := 0
  mode := .follow
  sense := .energiseOnAlarm
  testEnable := false

/-- The settings that apply when the image is invalid (R181, step 2). -/
def defaultSet : SettingsSet where
  device := defaultDevice
  transformers := Vector.replicate 16 defaultSettings
  taps := [0]
  maps := Vector.replicate 4 defaultMap

/-- The live part after start-up (R4, last column), for the service state R5 gives. -/
def initialLive (service : ServiceState) (offsetSet : Int) : Live where
  service := service
  level := .normal
  measured := none
  offsetEff := offsetSet
  offsetFault := false
  age := 0
  predicted := none
  basis := none
  doubt := false
  outsideRun := 0
  insideRun := 0
  lost := false
  heat := 0
  steady := 0
  riseAge := 0
  calmAge := 0
  unacknowledged := false
  reminderCount := 0
  suppressed := false

/-- Day 0, 00:00:00.0 (R175). -/
def timeZero : Stamp := ⟨0, 0, 0⟩

/-- The Time Base after start-up (R175): UNUSED or LOST by the loaded pps use. -/
def initialTime (ppsUse : Bool) : TimeBase where
  now := timeZero
  pendingSet := none
  pps := if ppsUse then .lost else .unused
  lastEdge := none

/-- A converter after start-up (R34). -/
def initialConverter : Converter := ⟨.absent, none, false, false⟩

/-- Sample Intake after start-up (R34), for the O_eff each channel starts with. -/
def initialIntake (offsets : Vector Int 16) : Intake where
  line := []
  fifo := []
  converters := Vector.replicate 5 initialConverter
  crcSeen := false
  held := offsets
  heldNorth := 0
  heldEast := 0

def emptyBlock : PartialBlock := ⟨0, 0, .good⟩
def emptySecond : PartialSecond := ⟨0, 0, .good, 0, 0⟩
def emptyLearning : Learning := ⟨0, 0, 0⟩

/-- A channel after start-up (R36). -/
def initialChannel : Channel := ⟨none, emptyBlock, emptySecond, [], 0, emptyLearning⟩

def emptyField : PartialField := ⟨0, 0, 0, true⟩

/-- The gap entry (R56, R59). -/
def gapEntry : RateEntry := ⟨0, 0, true, false⟩

/-- The Field Estimator after start-up (R56). -/
def initialField : FieldEstimator where
  partialField := emptyField
  lastMeans := none
  linked := false
  history := Vector.replicate 64 gapEntry
  latest := ⟨0, 0, .none, false, none⟩
  age := 0

/-- The Episode Tracker after start-up (R124). -/
def initialTracker : EpisodeTracker := ⟨none, 0, [], 1⟩

/-- The Capture Unit after start-up (R137): contents lost. -/
def initialCapture : CaptureUnit := ⟨[], 0, [], [], 1⟩

/-- A contact after start-up (R161): OPEN, its source false, its driver by its sense. -/
def initialContact (map : ContactMap) : Contact := ⟨.open, false, map.sense == .deenergiseOnAlarm⟩

/-- The Contact Driver after start-up (R161 to R164), for the loaded link silence time. -/
def initialDriver (maps : Vector ContactMap 4) (linkSilence : Nat) : ContactDriver where
  contacts := Vector.ofFn fun k => initialContact maps[k]
  lamp := .off
  panel := .idle
  panelTimer := false
  linkTimer := if linkSilence = 0 then none else some linkSilence
  linkSilent := false

/-- The RESTARTED record (R181, step 5): reset cause in byte 14 and settings source in byte 15 of the record. -/
def restartedRecord (causeCode sourceCode : Nat) : Transition :=
  ⟨timeZero, none, .restarted, none, none, none, some (causeCode * 256 + sourceCode), false⟩

/-- Baud rate of the host link by the RATE strap (R168). -/
def baudOf (rateHigh : Bool) : Nat := if rateHigh then 115200 else 57600

/-- The bit of DEVICE (R184). -/
def deviceBit : CategorySet := 0x10

/-- The Message Link after start-up (R181, steps 3 to 6): RESTARTED queued, DEVICE in the summary set, ATTN judged. -/
def initialLink (rateHigh : Bool) (mask : CategorySet) (first : Transition) : MessageLink where
  baud := baudOf rateHigh
  line := []
  buffer := []
  sending := none
  kept := none
  restart := .disarmed
  transitions := [first]
  summary := deviceBit
  attn := deviceBit &&& mask != 0

/-- Nothing is on its way after start-up: each of these is an event of before the reset. -/
def initialHandOffs : HandOffs where
  seconds := []
  evaluations := []
  triggers := []
  disables := []
  reports := []
  enReports := []
  panelReports := []
  recordTicks := Vector.replicate 16 none
  fieldTick := none
  trackerTick := none
  linkTick := none

/-- An input that stands at its quiet level (R6). -/
def quietInput : Input := ⟨false, false, none⟩

end Sys2Proof.Machine
end

