-- ==== Sys2Proof/Machine/State.lean ====
section
/-! DEFINITION. The state of the block, its reasons to stop, and the state right after reset. -/

namespace Sys2Proof.Machine

/-- Everything the manual gives the part (00_scope.md, "Block overview"), and the queue of commands that wait. -/
structure State where
  /-- Commands that wait, first in first out: the sender's, not the part's. -/
  pending : List Instr
  /-- The settings in use (R1, R56, R155, R179). -/
  cfg : SettingsSet
  /-- The live parts (R4). -/
  live : Vector Live 16
  /-- The snapshot set (R13). -/
  snapshots : Option Snapshot
  /-- Sample Intake (R34). -/
  intake : Intake
  /-- Status Inputs (R6). -/
  inputs : Inputs
  /-- Current Extractor (R36). -/
  channels : Vector Channel 16
  /-- Field Estimator (R56). -/
  field : FieldEstimator
  /-- Episode Tracker (R124). -/
  tracker : EpisodeTracker
  /-- Capture Unit (R137). -/
  capture : CaptureUnit
  /-- Contact Driver (chapter 10). -/
  driver : ContactDriver
  /-- Message Link (chapter 11). -/
  link : MessageLink
  /-- Time Base (R175). -/
  time : TimeBase
  /-- Settings Store (R180). -/
  store : Store
  /-- Cause of the last reset (R181). -/
  cause : ResetCause
  /-- Settings source of the last start-up (R181). -/
  source : SettingsSource
  /-- Events made by one block and not yet taken by another (R157 and throughout). -/
  handOffs : HandOffs
  deriving DecidableEq, Repr

/-- Reasons a step may stop with a fault. The manual gives this block none: damaged input is absorbed (R55) and every
request has a reply (R169). -/
inductive Fault where
  /-- Raised by no meaning; it stands so that the type is not empty. Safe: nothing ends a run with it. -/
  | neverRaised
  deriving DecidableEq, Repr

/-- Reasons a step may refuse a command. -/
inductive Refusal where
  /-- Raised by an arm of `exec` whose command has no meaning yet; no arm is left. Safe: it stops the run. -/
  | notModelled (mnemonic : String)
  deriving DecidableEq, Repr

/-- The part right after its first power-on: no valid image, so the defaults apply (R181), every input at its quiet
level and the RATE strap low (notes/assumptions/4.md). -/
def State.reset : State where
  pending := []
  cfg := defaultSet
  live := Vector.replicate 16 (initialLive .off 0)
  snapshots := none
  intake := initialIntake (Vector.replicate 16 0)
  inputs := ⟨Vector.replicate 16 quietInput, quietInput, quietInput⟩
  channels := Vector.replicate 16 initialChannel
  field := initialField
  tracker := initialTracker
  capture := initialCapture
  driver := initialDriver (Vector.replicate 4 defaultMap) 0
  link := initialLink false 0x3F (restartedRecord 0 1)
  time := initialTime false
  store := ⟨defaultSet, false, none⟩
  cause := .powerOn
  source := .default
  handOffs := initialHandOffs

end Sys2Proof.Machine
end

