-- ==== Sys2Proof/Machine/Ops.lean ====
section
/-! DEFINITION. The named operations over the state that every block uses: writing one record, making a
transition (R171, R172), handing a report on (R157), and capture memory. -/

namespace Sys2Proof.Machine

/-! ### One record of a table -/

/-- Replace transformer `i`'s live part. -/
def State.setLive (i : Fin 16) (l : Live) (s : State) : State := { s with live := s.live.set i l }

/-- Replace channel `ch`'s extractor record. -/
def State.setChannel (ch : Fin 16) (c : Channel) (s : State) : State :=
  { s with channels := s.channels.set ch c }

/-- Replace converter `c`'s intake record. -/
def State.setConverter (c : Fin 5) (v : Converter) (s : State) : State :=
  { s with intake := { s.intake with converters := s.intake.converters.set c v } }

/-- Replace the hand-offs. -/
def State.setHandOffs (h : HandOffs) (s : State) : State := { s with handOffs := h }

/-- Replace the Capture Unit. -/
def State.setCapture (c : CaptureUnit) (s : State) : State := { s with capture := c }

/-- Replace the Contact Driver. -/
def State.setDriver (d : ContactDriver) (s : State) : State := { s with driver := d }

/-- Replace the Episode Tracker. -/
def State.setTracker (t : EpisodeTracker) (s : State) : State := { s with tracker := t }

/-- Replace the Field Estimator. -/
def State.setField (f : FieldEstimator) (s : State) : State := { s with field := f }

/-- Replace the Time Base. -/
def State.setTime (t : TimeBase) (s : State) : State := { s with time := t }

/-- Replace the Message Link. -/
def State.setLink (l : MessageLink) (s : State) : State := { s with link := l }

/-! ### Transitions, the summary set and ATTN -/

/-- The category of each kind (R171). -/
def TransitionKind.category : TransitionKind → Category
  | .levelUp | .levelDown | .reminder | .outOfService | .inService => .level
  | .doubtOn | .doubtOff | .lostOn | .lostOff | .offsetLearned | .offsetFault
  | .converterResync | .converterFault | .converterAbsent | .fieldNone => .sensor
  | .episodeOpen | .episodeClose => .episode
  | .captureDone | .captureMissed => .capture
  | .clockSet | .ppsLost | .settingsSaved | .settingsSaveFailed | .linkSilent | .restarted => .device

/-- The bit of each category (R184). -/
def Category.bit : Category → CategorySet
  | .level => 0x01
  | .sensor => 0x02
  | .episode => 0x04
  | .capture => 0x08
  | .device => 0x10
  | .queueFull => 0x20

/-- ATTN is asserted exactly when the summary set and the notice mask share a category (R172). -/
def attnOf (summary mask : CategorySet) : Bool := summary &&& mask != 0

/-- The summary set after `t` is made: its category joins, and QUEUE_FULL when the queue has no room (R171, R172). -/
def summaryWith (transitions : List Transition) (summary : CategorySet) (t : Transition) : CategorySet :=
  if transitions.length < Config.queueDepth then summary ||| t.kind.category.bit
  else summary ||| t.kind.category.bit ||| Category.queueFull.bit

/-- The queue after `t` is made: it joins at the tail, or is discarded at a full queue (R171). -/
def queueWith (transitions : List Transition) (t : Transition) : List Transition :=
  if transitions.length < Config.queueDepth then transitions ++ [t] else transitions

/-- The Message Link takes a transition that a block made (R171, R172). -/
def MessageLink.withTransition (mask : CategorySet) (t : Transition) (l : MessageLink) : MessageLink :=
  { l with
    transitions := queueWith l.transitions t
    summary := summaryWith l.transitions l.summary t
    attn := attnOf (summaryWith l.transitions l.summary t) mask }

/-- A transition is made. -/
def State.emit (t : Transition) (s : State) : State :=
  { s with link := s.link.withTransition s.cfg.device.noticeMask t }

/-- A transition whose source is DEVICE: no level, no X, no T (R31, R65, R131, R162, R176, R180). -/
def State.emitDevice (kind : TransitionKind) (detail : Option Nat) (stamp : Stamp) (s : State) : State :=
  s.emit ⟨stamp, none, kind, none, none, none, detail, false⟩

/-- A transition of transformer `i`, with T and the suppressed mark as its live part has them (R171, R99). -/
def State.emitTransformer (i : Fin 16) (kind : TransitionKind) (levels : Option (Level × Level)) (x : Option Nat)
    (detail : Option Nat) (stamp : Stamp) (s : State) : State :=
  s.emit ⟨stamp, some i, kind, levels, x, some s.live[i].heat, detail, s.live[i].suppressed⟩

/-! ### Hand-offs -/

/-- A report joins those waiting for the Contact Driver (R157). -/
def State.report (r : ContactReport) (s : State) : State :=
  { s with handOffs := { s.handOffs with reports := s.handOffs.reports ++ [r] } }

/-- A report made only when something changed. -/
def State.reportIf (changed : Bool) (r : ContactReport) (s : State) : State :=
  if changed then s.report r else s

/-! ### Capture memory -/

/-- The code a slot holds; `Config.lostCode` where no capture has written (R137). -/
def slotRead : SlotMemory → Nat → Int
  | [], _ => Config.lostCode
  | (k, v) :: rest, n => if k = n then v else slotRead rest n

/-- A slot of capture memory with code `v`: the pair, or nothing where `v` is what an unlisted slot reads as. -/
def slotCell (n : Nat) (v : Int) : SlotMemory := if v = Config.lostCode then [] else [(n, v)]

/-- Store `v` at slot `n`, keeping the canonical form. -/
def slotWrite : SlotMemory → Nat → Int → SlotMemory
  | [], n, v => slotCell n v
  | (k, w) :: rest, n, v =>
    if n < k then slotCell n v ++ (k, w) :: rest
    else if n = k then slotCell n v ++ rest
    else (k, w) :: slotWrite rest n v

/-- The canonical form: slots strictly rising, no entry equal to what an unlisted slot reads as. -/
def Memory.wf : SlotMemory → Bool
  | [] => true
  | (k, v) :: rest => v != Config.lostCode && rest.all (fun c => k < c.1) && Memory.wf rest

/-- Store codes in order from slot `pos` on, wrapping behind slot 16383 (R139). -/
def storeCodes (m : SlotMemory) (pos : Nat) : List Int → SlotMemory
  | [] => m
  | c :: rest => storeCodes (slotWrite m (pos % Config.captureSlots) c) (pos + 1) rest

/-- Read `n` codes in order from slot `pos` on (R152). -/
def readCodes (m : SlotMemory) (pos : Nat) : Nat → List Int
  | 0 => []
  | n + 1 => slotRead m (pos % Config.captureSlots) :: readCodes m (pos + 1) n

end Sys2Proof.Machine
end

