-- ==== Sys2Proof/Machine/CaptureOps.lean ====
section
/-! DEFINITION. The Capture Unit's operations (chapter 9): room, start, filling, end, the pending set. -/

namespace Sys2Proof.Machine

/-- Slots a record holds: 32 for each cycle (R138). -/
def CaptureRecord.length (r : CaptureRecord) : Nat := Config.cycleSamples * (r.preCount + r.postStored)

/-- A record is active while FILLING or SUSPENDED (R140). -/
def CaptureRecord.active (r : CaptureRecord) : Bool := r.state != .done

/-- Slots held by the list. -/
def usedSlots (records : List CaptureRecord) : Nat := (records.map CaptureRecord.length).sum

/-- Free slots: 16384 less the sum of the lengths (R139). -/
def CaptureUnit.freeSlots (c : CaptureUnit) : Nat := Config.captureSlots - usedSlots c.records

/-- The active capture, if any (R140). -/
def CaptureUnit.activeRecord (c : CaptureUnit) : Option CaptureRecord := c.records.find? CaptureRecord.active

/-- Room for the pre cycles and one stored cycle (R140, R141). -/
def CaptureUnit.hasRoom (c : CaptureUnit) (pre : Nat) : Bool :=
  c.records.length < Config.captureListDepth && Config.cycleSamples * (pre + 1) ≤ c.freeSlots

/-- A change of the active record. -/
def CaptureUnit.updateActive (f : CaptureRecord → CaptureRecord) (c : CaptureUnit) : CaptureUnit :=
  { c with records := c.records.map fun r => if r.active then f r else r }

/-- After number 255 comes 1, so 0 is never used (R141). -/
def nextCaptureNumber (n : Nat) : Nat := if 255 ≤ n then 1 else n + 1

/-- The most recent cycles of a ring, at most `pre` of them, oldest first (R141). -/
def recentCycles (ring : List (List Int)) (pre : Nat) : List (List Int) := ring.drop (ring.length - pre)

/-- The unit stores a cycle's codes at the write position and advances it by 32 (R139, R142). -/
def CaptureUnit.storeCycle (codes : List Int) (c : CaptureUnit) : CaptureUnit :=
  { c with
    memory := storeCodes c.memory c.writePos codes
    writePos := (c.writePos + Config.cycleSamples) % Config.captureSlots }

/-- The record that a start creates (R141, steps 1 and 3). -/
def startedRecord (c : CaptureUnit) (ch : Fin 16) (cause : CaptureCause) (stamp : Stamp) (preCount post : Nat)
    (delay : Option Nat) : CaptureRecord where
  number := c.nextNumber
  channel := ch
  cause := cause
  stamp := stamp
  startDelay := delay
  state := .filling
  preCount := preCount
  postTarget := post
  postStored := 0
  firstSlot := c.writePos
  gap := none
  truncated := false
  extensions := 0

/-- The unit after a capture starts on a channel whose ring is `ring` (R141). -/
def CaptureUnit.started (ring : List (List Int)) (ch : Fin 16) (cause : CaptureCause) (stamp : Stamp) (pre post : Nat)
    (delay : Option Nat) (c : CaptureUnit) : CaptureUnit :=
  let cycles := recentCycles ring pre
  let filled := cycles.foldl (fun u codes => u.storeCycle codes) c
  { filled with
    nextNumber := nextCaptureNumber c.nextNumber
    records := c.records ++ [startedRecord c ch cause stamp cycles.length post delay] }

/-- A capture starts (R141). -/
def State.startCapture (ch : Fin 16) (cause : CaptureCause) (stamp : Stamp) (pre post : Nat) (delay : Option Nat)
    (s : State) : State :=
  s.setCapture (s.capture.started s.channels[ch].ring ch cause stamp pre post delay)

/-- Entry `a` is served before entry `b`: the earlier trigger stamp, and among equal stamps the lower channel (R145). -/
def PendingEntry.before (a b : PendingEntry) : Bool :=
  if a.stamp = b.stamp then a.channel.val < b.channel.val else a.stamp.le b.stamp

/-- The pending set in serving order (R145, R151). -/
def insertPending (e : PendingEntry) : List PendingEntry → List PendingEntry
  | [] => [e]
  | f :: rest => if e.before f then e :: f :: rest else f :: insertPending e rest

def servingOrder (waiting : List PendingEntry) : List PendingEntry := waiting.foldr insertPending []

/-- The pending set is served: the first entry in serving order starts if there is room; no other starts in its
place (R145, step 3). -/
def State.serve (s : State) : State :=
  match servingOrder s.capture.waiting with
  | [] => s
  | e :: _ =>
    if s.capture.hasRoom e.pre then
      (s.setCapture { s.capture with waiting := s.capture.waiting.filter fun f => f.channel != e.channel }).startCapture
        e.channel e.cause e.stamp e.pre e.post (some e.cycles)
    else s

/-- The active capture becomes DONE: state set, CAPTURE_DONE made, pending set served (R145, R154). -/
def State.endCapture (truncated : Bool) (stamp : Stamp) (s : State) : State :=
  match s.capture.activeRecord with
  | none => s
  | some r =>
    ((s.setCapture (s.capture.updateActive fun q => { q with state := .done, truncated := truncated })).emitTransformer
      r.channel .captureDone none none (some r.number) stamp).serve

/-- A completed cycle counts towards the pending entries of its channel (R142). -/
def CaptureUnit.countCycle (ch : Fin 16) (c : CaptureUnit) : CaptureUnit :=
  { c with waiting := c.waiting.map fun e => if e.channel = ch then { e with cycles := satSucc 65535 e.cycles } else e }

/-- A cycle offered to an active capture of its channel is stored, skipped, or suspends or ends the capture (R142,
R144). -/
def State.fillCapture (r : CaptureRecord) (codes : List Int) (s : State) : State :=
  match r.state with
  | .filling =>
    if Config.cycleSamples ≤ s.capture.freeSlots then
      let stored := s.setCapture ((s.capture.storeCycle codes).updateActive fun q => { q with postStored := q.postStored + 1 })
      if r.postStored + 1 = r.postTarget then stored.endCapture false s.time.now else stored
    else
      match r.gap with
      | none =>
        s.setCapture (s.capture.updateActive fun q =>
          { q with state := .suspended, gap := some (q.preCount + q.postStored, 1) })
      | some _ => s.endCapture true s.time.now
  | .suspended =>
    s.setCapture (s.capture.updateActive fun q =>
      { q with gap := q.gap.map fun g => (g.1, satSucc 65535 g.2) })
  | .done => s

/-- The Current Extractor offers a completed cycle (R142). -/
def State.offerCycle (ch : Fin 16) (codes : List Int) (s : State) : State :=
  let counted := s.setCapture (s.capture.countCycle ch)
  match counted.capture.activeRecord with
  | none => counted
  | some r => if r.channel = ch then counted.fillCapture r codes else counted

/-- An abandon notice naming channels (R147): an active capture of a named channel becomes DONE and truncated. -/
def State.captureNotice (named : Fin 16 → Bool) (s : State) : State :=
  match s.capture.activeRecord with
  | none => s
  | some r => if named r.channel then s.endCapture true s.time.now else s

/-- The post target is raised to `target`, at most 250, and the extension counted (R143). -/
def CaptureUnit.raiseTarget (target : Nat) (c : CaptureUnit) : CaptureUnit :=
  c.updateActive fun q => { q with postTarget := min 250 target, extensions := satSucc 255 q.extensions }

/-- What a retrigger with `post` asks of the active record: the larger of its target and post stored plus `post`
(R143). -/
def retriggerTarget (r : CaptureRecord) (post : Nat) : Nat := max r.postTarget (r.postStored + post)

/-- The entry of a channel in the pending set. -/
def CaptureUnit.entryOf (ch : Fin 16) (c : CaptureUnit) : Option PendingEntry :=
  c.waiting.find? fun e => e.channel == ch

/-- A new entry joins the pending set (R146). -/
def CaptureUnit.addPending (ch : Fin 16) (cause : CaptureCause) (stamp : Stamp) (pre post : Nat) (c : CaptureUnit) :
    CaptureUnit :=
  { c with waiting := c.waiting ++ [⟨ch, cause, stamp, pre, post, 0, 0, none⟩] }

/-- A LEVEL trigger merges into the entry of its channel (R140, third row). -/
def CaptureUnit.mergePending (ch : Fin 16) (pre post : Nat) (c : CaptureUnit) : CaptureUnit :=
  { c with
    waiting := c.waiting.map fun e =>
      if e.channel = ch then { e with cause := .level, pre := max e.pre pre, post := max e.post post } else e }

/-- The first two rows of R140 aside, a trigger starts at once where it can and else joins the set. -/
def State.startOrWait (ch : Fin 16) (cause : CaptureCause) (stamp : Stamp) (pre post : Nat) (s : State) : State :=
  if s.capture.activeRecord.isNone && s.capture.hasRoom pre then s.startCapture ch cause stamp pre post none
  else s.setCapture (s.capture.addPending ch cause stamp pre post)

/-- A LEVEL trigger handled by the first row of R140 that holds. -/
def State.levelTriggered (t : TriggerHandOff) (s : State) : State :=
  if s.live[t.channel].service = .off then s
  else
    match s.capture.activeRecord.filter fun r => r.channel == t.channel with
    | some r => s.setCapture (s.capture.raiseTarget (retriggerTarget r t.post))
    | none =>
      if (s.capture.entryOf t.channel).isSome then s.setCapture (s.capture.mergePending t.channel t.pre t.post)
      else s.startOrWait t.channel .level t.stamp t.pre t.post

/-- The entry of `ch` leaves the pending set. -/
def CaptureUnit.dropPending (ch : Fin 16) (c : CaptureUnit) : CaptureUnit :=
  { c with waiting := c.waiting.filter fun e => e.channel != ch }

/-- A disable reaches the unit: the entry leaves first, then an active capture of the channel ends truncated (R148). -/
def State.captureDisabled (ch : Fin 16) (s : State) : State :=
  (s.setCapture (s.capture.dropPending ch)).captureNotice fun c => c == ch

/-! ### The clock second -/

/-- An entry leaves with CAPTURE_MISSED (R146, R154). -/
def State.missCapture (ch : Fin 16) (stamp : Stamp) (s : State) : State :=
  (s.setCapture (s.capture.dropPending ch)).emitTransformer ch .captureMissed none none none stamp

/-- An entry whose clock second still waits takes it before another is made; several do so in the order in which they
joined the set (DESIGN CHOICE: R146 gives the entries no order; notes/assumptions/6.md). -/
def State.missOverdue (s : State) : State :=
  s.capture.waiting.foldl
    (fun u e =>
      match e.expiry with
      | some stamp => u.missCapture e.channel stamp
      | none => u) s

/-- The wait count of an entry grows by one; a growth to 60 is left to the entry's own event, CAPTURE_MISSED (R146). -/
def PendingEntry.tick (stamp : Stamp) (e : PendingEntry) : PendingEntry :=
  if 60 ≤ e.wait + 1 then { e with expiry := some stamp } else { e with wait := e.wait + 1 }

/-- The Capture Unit takes a clock second (R146). -/
def State.captureSecond (stamp : Stamp) (s : State) : State :=
  let u := s.missOverdue
  u.setCapture { u.capture with waiting := u.capture.waiting.map (PendingEntry.tick stamp) }

end Sys2Proof.Machine
end

