-- ==== Sys2Proof/Machine/ExtractorOps.lean ====
section
/-! DEFINITION. The Current Extractor's operations (chapter 3): grading, cycles, blocks, measured seconds, the
pre-history ring and the abandon of partial work. -/

namespace Sys2Proof.Machine

/-- Tag of a sample as Sample Intake hands it on (R29). -/
inductive Tag where
  | good | suspect | filled | fault
  deriving DecidableEq, Repr

/-- A code at the sensor's limit (R37). -/
def clippedCode (code : Int) : Bool := code == 32767 || code == -32768

/-- Grade of a sample: the first condition of R37 that holds. -/
def gradeOf (tag : Tag) (code : Int) : Grade :=
  if tag = .fault then .fault
  else if clippedCode code then .clipped
  else if tag = .filled then .filled
  else if tag = .suspect then .suspect
  else .good

/-- Cycles in a block (R36). -/
def Mains.cycles : Mains → Nat
  | .hz50 => 5
  | .hz60 => 6

/-- Σs of a cycle (R36). -/
def PartialCycle.sum (c : PartialCycle) : Int := c.codes.foldl (· + ·) 0

/-- Cycle value C (R39). -/
def PartialCycle.value (c : PartialCycle) : Int :=
  clampInt (-30000) 30000 (roundDiv ((c.sum - 32 * c.offset) * c.gain) 3200000)

/-- Full scale of a channel at a gain (R42). -/
def fullScale (gain : Nat) : Nat := min 30000 (roundDivNat (32767 * gain) 100000)

/-- A cycle joins the ring; the oldest is dropped from a full ring (R43). -/
def ringWith (ring : List (List Int)) (codes : List Int) : List (List Int) :=
  (if ring.length < Config.ringDepth then ring else ring.drop (ring.length + 1 - Config.ringDepth)) ++ [codes]

/-- The partial cycle after a sample (R38): one that is empty latches the channel's gain and O_eff. -/
def takenCycle (gain : Nat) (offset : Int) (code : Int) (grade : Grade) : Option PartialCycle → PartialCycle
  | none => ⟨[code], grade, gain, offset⟩
  | some c => { c with codes := c.codes ++ [code], grade := c.grade.worse grade }

/-- The partial second's raw sum and code count after a sample (R38). -/
def PartialSecond.withCode (code : Int) (p : PartialSecond) : PartialSecond :=
  { p with rawSum := p.rawSum + code, rawCount := p.rawCount + 1 }

/-- A cycle added to the partial block (R39, step 4). -/
def PartialBlock.withCycle (c : PartialCycle) (b : PartialBlock) : PartialBlock :=
  ⟨b.count + 1, b.sum + c.value, b.grade.worse c.grade⟩

/-- A block added to the partial second (R40): B = round(ΣC / n). -/
def PartialSecond.withBlock (n : Nat) (b : PartialBlock) (p : PartialSecond) : PartialSecond :=
  { p with count := p.count + 1, sum := p.sum + roundDiv b.sum n, grade := p.grade.worse b.grade }

/-- The hand-off of a completed measured second (R41): M, quality, FS, raw sum and code count. -/
def completedSecond (ch : Fin 16) (gain : Nat) (p : PartialSecond) : SecondHandOff :=
  ⟨ch, roundDiv p.sum 10, p.grade, fullScale gain, p.rawSum, p.rawCount⟩

/-- The measured second completes: it is handed to the transformer's record and the partial second is emptied (R41). -/
def State.completeSecond (ch : Fin 16) (gain : Nat) (s : State) : State :=
  let c := s.channels[ch]
  (s.setHandOffs { s.handOffs with seconds := s.handOffs.seconds ++ [completedSecond ch gain c.second] }).setChannel ch
    { c with second := emptySecond }

/-- The block completes (R40); its tenth block completes the second. -/
def State.completeBlock (ch : Fin 16) (gain : Nat) (s : State) : State :=
  let c := s.channels[ch]
  let second := c.second.withBlock s.cfg.device.mains.cycles c.block
  let next := s.setChannel ch { c with block := emptyBlock, second := second }
  if 10 ≤ second.count then next.completeSecond ch gain else next

/-- The cycle completes (R39): ring, offer to the Capture Unit, block. -/
def State.completeCycle (ch : Fin 16) (cyc : PartialCycle) (s : State) : State :=
  let c := s.channels[ch]
  let offered := (s.setChannel ch { c with ring := ringWith c.ring cyc.codes, cycle := none }).offerCycle ch cyc.codes
  let d := offered.channels[ch]
  let block := d.block.withCycle cyc
  let next := offered.setChannel ch { d with block := block }
  if s.cfg.device.mains.cycles ≤ block.count then next.completeBlock ch cyc.gain else next

/-- The extractor takes one sample of a channel (R38). -/
def State.takeSample (ch : Fin 16) (code : Int) (tag : Tag) (s : State) : State :=
  let c := s.channels[ch]
  let cyc := takenCycle s.cfg.transformers[ch].gain s.live[ch].offsetEff code (gradeOf tag code) c.cycle
  let second := c.second.withCode code
  if Config.cycleSamples ≤ cyc.codes.length then (s.setChannel ch { c with second := second }).completeCycle ch cyc
  else s.setChannel ch { c with cycle := some cyc, second := second }

/-- A channel's partial work is thrown away (R45): cycle, block, second and ring. -/
def Channel.abandoned (c : Channel) : Channel :=
  { c with cycle := none, block := emptyBlock, second := emptySecond, ring := [] }

/-- The partial work of the named channels is thrown away (R45, R46). -/
def State.abandonChannels (named : Fin 16 → Bool) (s : State) : State :=
  { s with channels := Vector.ofFn fun ch => if named ch then s.channels[ch].abandoned else s.channels[ch] }

/-- An abandon notice for channels: the extractor's part (R45), then the Capture Unit's (R147). -/
def State.abandon (named : Fin 16 → Bool) (s : State) : State := (s.abandonChannels named).captureNotice named

/-- A change of the learning accumulation or the de-energised time of a channel (R48, R50). -/
def State.clearLearning (ch : Fin 16) (s : State) : State :=
  s.setChannel ch { s.channels[ch] with learning := emptyLearning }

/-- The de-energised time is set to 0, on entering and on leaving OUT_OF_SERVICE (R48). -/
def State.clearDeenergisedTime (ch : Fin 16) (s : State) : State :=
  s.setChannel ch { s.channels[ch] with deenergisedTime := 0 }

/-- The learned offset of an accumulation (R51). -/
def Learning.offset (l : Learning) : Int := clampInt (-2047) 2047 (roundDiv l.sum l.codes)

/-- An attempt completes (R51, R52): the result is accepted within 256 codes of O_set, or rejected. -/
def State.completeLearning (i : Fin 16) (l : Learning) (s : State) : State :=
  let live := s.live[i]
  let emptied := s.clearLearning i
  if (l.offset - s.cfg.transformers[i].offsetSet).natAbs ≤ 256 then
    let next := emptied.setLive i { live with offsetEff := l.offset, offsetFault := false }
    if live.offsetEff ≠ l.offset ∨ live.offsetFault = true then next.emitTransformer i .offsetLearned none none none s.time.now
    else next
  else
    let next := emptied.setLive i { live with offsetFault := true }
    if live.offsetFault then next else next.emitTransformer i .offsetFault none none none s.time.now

/-- A measured second handed to an OUT_OF_SERVICE transformer is offered to offset learning (R49). -/
def State.offerLearning (h : SecondHandOff) (s : State) : State :=
  let c := s.channels[h.channel]
  if s.cfg.transformers[h.channel].learning && 60 ≤ c.deenergisedTime then
    if h.quality = .good then
      let l : Learning := ⟨c.learning.seconds + 1, c.learning.sum + h.rawSum, c.learning.codes + h.rawCount⟩
      if 30 ≤ l.seconds then s.completeLearning h.channel l
      else s.setChannel h.channel { c with learning := l }
    else s.clearLearning h.channel
  else s

end Sys2Proof.Machine
end

