-- ==== Sys2Proof/Machine/FieldOps.lean ====
section
/-! DEFINITION. The Field Estimator's operations (chapter 4). -/

namespace Sys2Proof.Machine

/-- The first field second and the first after an abandon, an unsound one and the one after it make a gap entry; any
other is differenced (R59). -/
def rateEntry (linked : Bool) (last : Option FieldMeans) (north east : Int) (sound : Bool) : RateEntry :=
  match last with
  | none => gapEntry
  | some l =>
    if linked && sound && l.sound then
      let dN := clampInt (-32767) 32767 (north - l.north)
      let dE := clampInt (-32767) 32767 (east - l.east)
      ⟨dN, dE, false, dN != north - l.north || dE != east - l.east⟩
    else gapEntry

/-- An entry joins at the head, every entry moves one place towards the tail and the 64th falls out (R60). -/
def historyWith (e : RateEntry) (h : Vector RateEntry 64) : Vector RateEntry 64 :=
  Vector.ofFn fun j : Fin 64 => if j.val = 0 then e else h[j.val - 1]

/-- The sum over the taps of tap times rate, position by position (R61). -/
def tapSum (rate : RateEntry → Int) : List Int → List RateEntry → Int
  | k :: taps, e :: entries => k * rate e + tapSum rate taps entries
  | _, _ => 0

/-- The latest E formed from a history and a table (R61 to R63). -/
def formEstimate (taps : List Int) (h : Vector RateEntry 64) (stamp : Stamp) : FieldEstimate :=
  let entries := h.toList
  let north := roundDiv (tapSum RateEntry.dE taps entries) 1000
  let east := roundDiv (-(tapSum RateEntry.dN taps entries)) 1000
  let eN := clampInt (-32767) 32767 north
  let eE := clampInt (-32767) 32767 east
  { north := eN
    east := eE
    quality := if (entries.take taps.length).any RateEntry.gap then .degraded else .good
    saturated := eN != north || eE != east
    formed := some (taps.length, stamp) }

/-- The tenth group completes the field second (R58, steps 1 to 7). -/
def State.completeField (p : PartialField) (s : State) : State :=
  let f := s.field
  let north := roundDiv p.north 10
  let east := roundDiv p.east 10
  let history := historyWith (rateEntry f.linked f.lastMeans north east p.sound) f.history
  s.setField
    { partialField := emptyField
      lastMeans := some ⟨north, east, p.sound, s.time.now⟩
      linked := true
      history := history
      latest := formEstimate s.cfg.taps history s.time.now
      age := 0 }

/-- The estimator takes a field group (R57). -/
def State.takeFieldGroup (north east : Int) (tag : Tag) (s : State) : State :=
  let p := s.field.partialField
  let q : PartialField := ⟨p.count + 1, p.north + north, p.east + east, p.sound && tag != .fault⟩
  if 10 ≤ q.count then s.completeField q else s.setField { s.field with partialField := q }

/-- An abandon notice naming converter 4 (R66). -/
def State.abandonField (s : State) : State :=
  s.setField { s.field with partialField := emptyField, linked := false }

/-- A clock second that would bring E age to 10 with a grade to lose is left to FIELD_NONE (R64). -/
def FieldEstimator.losesGrade (f : FieldEstimator) : Bool :=
  10 ≤ satSucc 65535 f.age && f.latest.quality != .none

/-- The estimator takes a clock second stamped `stamp` (R64, R65). -/
def State.fieldSecond (stamp : Stamp) (s : State) : State :=
  let aged := s.setField { s.field with age := satSucc 65535 s.field.age }
  if s.field.losesGrade then
    (aged.setField { aged.field with latest := { aged.field.latest with quality := .none } }).emitDevice
      .fieldNone (some 4) stamp
  else aged

end Sys2Proof.Machine
end

