-- ==== Sys2Proof/Machine/Lines.lean ====
section
/-! DEFINITION. The byte level of the two serial lines: how sample frames (R18 to R20) and request frames (R168) are
found in the bytes received. A line's state is the bytes of the frame being assembled, from its sync byte on; none
while hunting. Receiving bytes appends them and looks again from that sync byte, which is what hunting does byte by
byte: a frame that cannot be is left at the byte the rules name, and what follows it is examined again. -/

namespace Sys2Proof.Machine

/-! ### Sample line -/

/-- What a passing header announces: a current frame of a converter 0 to 3, or a field frame of converter 4 (R19). -/
inductive FrameKind where
  | current (conv : Fin 4)
  | field
  deriving DecidableEq, Repr

/-- The header check of R19: kind in the lower half, converter in the upper half. -/
def headerKind (h : Byte) : Option FrameKind :=
  if h.toNat % 16 = 1 then
    if hc : h.toNat / 16 < 4 then some (.current ⟨h.toNat / 16, hc⟩) else none
  else if h = 0x42 then some .field
  else none

/-- Expected length, from the sync byte (R19). -/
def FrameKind.bytes : FrameKind → Nat
  | .current _ => 13
  | .field => 11

/-- The frame of a complete run of bytes (R184). -/
def frameOf (kind : FrameKind) (bytes : List Byte) : Frame :=
  let seq := bytes.getD 2 0
  let status := bytes.getD 3 0
  match kind with
  | .current conv =>
    .current conv seq (status.getLsbD 7) (status.getLsbD 6) #v[s16 bytes 4, s16 bytes 6, s16 bytes 8, s16 bytes 10]
  | .field => .field seq (status.getLsbD 7) (status.getLsbD 6) (s24 bytes 4) (s24 bytes 7)

/-- The check byte agrees with the CRC-8 of header to last sample byte (R20). -/
def frameCrcOk (kind : FrameKind) (bytes : List Byte) : Bool :=
  crc8 ((bytes.take (kind.bytes - 1)).drop 1) == bytes.getD (kind.bytes - 1) 0

/-- What the intake makes of the bytes it has: a valid frame, or a frame that failed its CRC (R20). -/
inductive LineEvent where
  | valid (f : Frame)
  | crcFailed
  deriving DecidableEq, Repr

/-- Hunt and assemble over bytes (R19, R20), `fuel` bounding the number of looks. Answers what was closed, in order,
and the bytes still being assembled. -/
def scanSample : Nat → List Byte → List LineEvent × List Byte
  | 0, bytes => ([], bytes)
  | _ + 1, [] => ([], [])
  | fuel + 1, b :: rest =>
    if b ≠ Config.sampleSync then scanSample fuel rest
    else
      match rest with
      | [] => ([], [b])
      | h :: _ =>
        match headerKind h with
        | none => scanSample fuel rest
        | some kind =>
          match (b :: rest).drop kind.bytes with
          | [] => ([], b :: rest)
          | c :: after =>
            if c ≠ Config.sampleSync then scanSample fuel (c :: after)
            else if frameCrcOk kind (b :: rest) then
              let r := scanSample fuel (c :: after)
              (.valid (frameOf kind (b :: rest)) :: r.1, r.2)
            else
              let r := scanSample fuel rest
              (.crcFailed :: r.1, r.2)

/-- The line has gone idle over the bytes of a frame being assembled (R19, R20): a complete frame is closed, a short one
is discarded; a frame that fails its CRC is hunted again from the byte after its sync byte, with the line still idle. -/
def idleSample : Nat → List Byte → List LineEvent
  | 0, _ => []
  | _ + 1, [] => []
  | _ + 1, [_] => []
  | fuel + 1, b :: h :: rest =>
    match headerKind h with
    | none => []
    | some kind =>
      if (b :: h :: rest).length < kind.bytes then []
      else if frameCrcOk kind (b :: h :: rest) then [.valid (frameOf kind (b :: h :: rest))]
      else
        let r := scanSample (h :: rest).length (h :: rest)
        .crcFailed :: (r.1 ++ idleSample fuel r.2)

/-- Bytes received on the sample line. -/
def receiveSample (line bytes : List Byte) : List LineEvent × List Byte :=
  scanSample ((line ++ bytes).length + 1) (line ++ bytes)

/-! ### Host link -/

/-- Hunt and assemble request frames over bytes (R168). Answers the valid request frames, in order, and the bytes still
being assembled. -/
def scanHost : Nat → List Byte → List Request × List Byte
  | 0, bytes => ([], bytes)
  | _ + 1, [] => ([], [])
  | fuel + 1, b :: rest =>
    if b ≠ Config.hostSyn then scanHost fuel rest
    else
      match rest with
      | [] => ([], [b])
      | len :: more =>
        if len.toNat < 2 ∨ 238 < len.toNat then scanHost fuel rest
        else
          match more.drop len.toNat with
          | [] => ([], b :: rest)
          | check :: after =>
            let payload := more.take len.toNat
            if crc8 (len :: payload) = check then
              let r := scanHost fuel after
              (⟨payload.getD 0 0, payload.getD 1 0, payload.drop 2⟩ :: r.1, r.2)
            else scanHost fuel rest

/-- Bytes received on HRX. -/
def receiveHost (line bytes : List Byte) : List Request × List Byte :=
  scanHost ((line ++ bytes).length + 1) (line ++ bytes)

end Sys2Proof.Machine
end

