-- ==== Sys2Proof/Machine/IntakeOps.lean ====
section
/-! DEFINITION. Sample Intake's operations (chapter 2): arrival, the FIFO, sequence following, fill, status, resync. -/

namespace Sys2Proof.Machine

def Frame.converter : Frame → Fin 5
  | .current c _ _ _ _ => currentConverter c
  | .field _ _ _ _ _ => fieldConverter

def Frame.seq : Frame → Byte
  | .current _ q _ _ _ => q
  | .field q _ _ _ _ => q

def Frame.selftestFail : Frame → Bool
  | .current _ _ f _ _ => f
  | .field _ f _ _ _ => f

def Frame.isCurrent : Frame → Bool
  | .current _ _ _ _ _ => true
  | .field _ _ _ _ _ => false

def ConverterState.isFaulted : ConverterState → Bool
  | .faulted _ => true
  | _ => false

def ConverterState.isLocked : ConverterState → Bool
  | .locked _ => true
  | _ => false

/-- The reference sequence, present exactly while not ABSENT. -/
def ConverterState.ref? : ConverterState → Option Byte
  | .absent => none
  | .locked r => some r
  | .faulted r => some r

/-- The same state with another reference sequence. -/
def ConverterState.withRef (q : Byte) : ConverterState → ConverterState
  | .absent => .absent
  | .locked _ => .locked q
  | .faulted _ => .faulted q

/-- Converter `c`'s record as it stands. -/
def State.converter (c : Fin 5) (s : State) : Converter := s.intake.converters[c]

/-- A change of a converter's state; a change into or out of FAULTED is reported to the contacts (R157). -/
def State.setConverterState (c : Fin 5) (v : ConverterState) (s : State) : State :=
  (s.setConverter c { s.converter c with state := v }).reportIf ((s.converter c).state.isFaulted != v.isFaulted)
    (.converter c)

/-- A valid frame arrives: it joins the FIFO or is discarded with OVERRUN; the silence timer is reloaded either way
(R20, R22, R23). -/
def State.arrive (f : Frame) (s : State) : State :=
  let conv := s.converter f.converter
  if s.intake.fifo.length < Config.fifoDepth then
    State.setConverter f.converter { conv with timer := some Config.silenceTenths }
      { s with intake := { s.intake with fifo := s.intake.fifo ++ [f] } }
  else s.setConverter f.converter { conv with timer := some Config.silenceTenths, overrun := true }

/-- What the line assembler closed is dealt with in order (R20). -/
def State.lineEvent (e : LineEvent) (s : State) : State :=
  match e with
  | .valid f => s.arrive f
  | .crcFailed => { s with intake := { s.intake with crcSeen := true } }

def State.lineEvents (es : List LineEvent) (s : State) : State := es.foldl (fun u e => u.lineEvent e) s

/-- Bytes received on the sample line (R19, R20). -/
def State.sampleBytes (bytes : List Byte) (s : State) : State :=
  let r := receiveSample s.intake.line bytes
  State.lineEvents r.1 { s with intake := { s.intake with line := r.2 } }

/-- The line goes idle (R19). -/
def State.sampleIdle (s : State) : State :=
  State.lineEvents (idleSample (s.intake.line.length + 1) s.intake.line)
    { s with intake := { s.intake with line := [] } }

/-- A damaged byte on the sample line (R18). -/
def State.sampleDamaged (s : State) : State :=
  if s.intake.line.isEmpty then s else { s with intake := { s.intake with line := [], crcSeen := true } }

/-! ### Handing on -/

/-- Tag of a fill sample (R26). -/
def fillTag (v : ConverterState) : Tag := if v.isFaulted then .fault else .filled

/-- Fill sample of a channel (R26): HOLD repeats the held value, ZERO places O_eff. -/
def State.fillCode (c : Fin 4) (ch : Fin 16) (s : State) : Int :=
  match s.cfg.device.fill[c] with
  | .hold => s.intake.held[ch]
  | .zero => s.live[ch].offsetEff

/-- A group of samples as Sample Intake hands it on (R29): the converter's number (4 where it is a field group), the sequence
of the frame it stands for, and its samples, each a code and its tag; those of a current group in the order of positions. -/
inductive SampleGroup where
  | current (c : Fin 4) (seq : Byte) (samples : Vector (Int × Tag) 4)
  | field (seq : Byte) (north east : Int) (tag : Tag)
  deriving DecidableEq, Repr

/-- The block of its kind takes a group: the Current Extractor sample by sample (R38, R41), the Field Estimator whole (R57).
Of a group's contents they use the samples. -/
def State.takeGroup (g : SampleGroup) (s : State) : State :=
  match g with
  | .current c _ x =>
    (((s.takeSample (channelOf c 0) x[0].1 x[0].2).takeSample (channelOf c 1) x[1].1 x[1].2).takeSample
      (channelOf c 2) x[2].1 x[2].2).takeSample (channelOf c 3) x[3].1 x[3].2
  | .field _ north east tag => s.takeFieldGroup north east tag

/-- The group of a fill frame that stands for the frame with sequence `seq` of `f`'s converter, as fills are formed now
(R26, R29). -/
def State.fillGroup (f : Frame) (seq : Byte) (s : State) : SampleGroup :=
  let tag := fillTag (s.converter f.converter).state
  match f with
  | .current c _ _ _ _ => .current c seq (Vector.ofFn fun p => (s.fillCode c (channelOf c p), tag))
  | .field _ _ _ _ _ => .field seq s.intake.heldNorth s.intake.heldEast tag

/-- The group of a frame's own samples (R29): SUSPECT those of a current frame with REF_LOW, GOOD all others. -/
def Frame.group (f : Frame) : SampleGroup :=
  match f with
  | .current c q _ refLow codes => .current c q (codes.map fun code => (code, if refLow then .suspect else .good))
  | .field q _ _ north east => .field q north east .good

/-- A frame's own samples become the held values (R29). -/
def Intake.holding (f : Frame) (v : Intake) : Intake :=
  match f with
  | .current c _ _ _ codes =>
    { v with held := Vector.ofFn fun ch => if converterOf ch = c then codes[ch.val % 4] else v.held[ch] }
  | .field _ _ _ north east => { v with heldNorth := north, heldEast := east }

/-- A fill frame for the sequence `seq` is handed on. -/
def State.handFill (f : Frame) (seq : Byte) (s : State) : State := s.takeGroup (s.fillGroup f seq)

/-- `n` fill frames, one after another, for the sequences from `seq` on (R25, R26, R29). -/
def State.handFills (f : Frame) (seq : Byte) : Nat → State → State
  | 0, s => s
  | n + 1, s => State.handFills f (seq + 1) n (s.handFill f seq)

/-- SELFTEST_FAIL of a frame taken (R28): a LOCKED converter becomes FAULTED with CONVERTER_FAULT. -/
def State.handleStatus (f : Frame) (s : State) : State :=
  match (s.converter f.converter).state with
  | .locked r =>
    if f.selftestFail then
      (s.setConverterState f.converter (.faulted r)).emitDevice .converterFault (some f.converter.val) s.time.now
    else s
  | _ => s

/-- A frame's own samples are handed on, or fills in their place while the converter is FAULTED (R28, R29). -/
def State.handOwn (f : Frame) (s : State) : State :=
  if (s.converter f.converter).state.isFaulted then s.handFill f f.seq
  else State.takeGroup f.group { s with intake := s.intake.holding f }

/-- The reference sequence becomes the frame's (R25, R27). -/
def State.followRef (f : Frame) (s : State) : State :=
  s.setConverterState f.converter ((s.converter f.converter).state.withRef f.seq)

/-- The channels of a current converter. -/
def ofConverter (c : Fin 5) (ch : Fin 16) : Bool := (currentConverter (converterOf ch)) == c

/-- An abandon notice for a converter (R27, step 1; R23). -/
def State.abandonConverter (c : Fin 5) (s : State) : State :=
  if c = fieldConverter then s.abandonField else s.abandon (ofConverter c)

/-- A resync (R27). -/
def State.resync (f : Frame) (s : State) : State :=
  let c := f.converter
  let noticed := (s.abandonConverter c).emitDevice .converterResync (some c.val) s.time.now
  let seen := noticed.setConverter c { noticed.converter c with resyncSeen := true }
  ((seen.followRef f).handleStatus f).handOwn f

/-- The first frame taken of an ABSENT converter becomes its reference; its silence timer starts if it ran out before (R24),
which it has once its expiry is taken: one at 0 tenths whose expiry still waits is left at 0 (DESIGN CHOICE;
notes/assumptions/32.md). -/
def State.firstFrame (f : Frame) (s : State) : State :=
  let c := f.converter
  let started := s.setConverter c { s.converter c with timer := some ((s.converter c).timer.getD Config.silenceTenths) }
  if f.selftestFail then
    ((started.setConverterState c (.faulted f.seq)).emitDevice .converterFault (some c.val) s.time.now).handOwn f
  else (started.setConverterState c (.locked f.seq)).handOwn f

/-- Sequence difference d of R25. -/
def seqDiff (seq ref : Byte) : Nat := (seq - ref).toNat

/-- A frame is judged as it is taken (R24, R25). -/
def State.judge (f : Frame) (s : State) : State :=
  match (s.converter f.converter).state.ref? with
  | none => s.firstFrame f
  | some ref =>
    let d := seqDiff f.seq ref
    if d = 0 then s
    else if d ≤ 9 then (((s.handFills f (ref + 1) (d - 1)).handleStatus f).followRef f).handOwn f
    else s.resync f

/-- The head of the FIFO is taken if the block asking for it is the block of its kind (R22). -/
def State.takeHead (wanted : Frame → Bool) (s : State) : State :=
  match s.intake.fifo with
  | [] => s
  | f :: rest =>
    if wanted f then State.judge f { s with intake := { s.intake with fifo := rest } } else s

/-- A running silence timer has one tenth of a second less to run. -/
def Converter.tenthPassed (c : Converter) : Converter := { c with timer := c.timer.map (· - 1) }

/-- A tenth of a second passes for the silence timers (R23; notes/assumptions/9.md). -/
def State.tenthPasses (s : State) : State :=
  { s with intake := { s.intake with converters := s.intake.converters.map Converter.tenthPassed } }

/-- A silence timer runs out (R23); one that a frame has reloaded since, and one that is stopped, does not. -/
def State.silenceExpired (c : Fin 5) (s : State) : State :=
  let conv := s.converter c
  if conv.timer ≠ some 0 then s
  else
    let stopped := s.setConverter c { conv with timer := none }
    match conv.state with
    | .absent => stopped
    | _ =>
      ((stopped.setConverterState c .absent).emitDevice .converterAbsent (some c.val) s.time.now).abandonConverter c

end Sys2Proof.Machine
end

