-- ==== Sys2Proof/Machine/EvaluationOps.lean ====
section
/-! DEFINITION. The evaluation of a transformer (R16): basis selection (chapter 5), heating update (chapter 6), level
evaluation (chapter 7), and what it hands on. -/

namespace Sys2Proof.Machine

/-! ### Stage 1: basis selection -/

/-- What stage 1 reads of the field (R74): validity of P, the latest E and whether E quality is GOOD. -/
structure FieldView where
  valid : Bool
  north : Int
  east : Int
  good : Bool
  deriving DecidableEq, Repr

/-- P is valid when converter 4 is LOCKED, E age is 3 or less and E quality is GOOD or DEGRADED (R75). -/
def State.fieldView (s : State) : FieldView where
  valid := (s.converter fieldConverter).state.isLocked && s.field.age ≤ 3 && s.field.latest.quality != .none
  north := s.field.latest.north
  east := s.field.latest.east
  good := s.field.latest.quality == .good

/-- The predicted current (R76). -/
def predict (cfg : Settings) (north east : Int) : Int :=
  clampInt (-30000) 30000 (roundDiv (cfg.coefA * north + cfg.coefB * east) 1000)

/-- P of an evaluation: formed when valid, else absent (R75). -/
def predictionOf (cfg : Settings) (v : FieldView) : Option Int :=
  if v.valid then some (predict cfg v.north v.east) else none

/-- Half-width of the band (R77). -/
def bandWidth (cfg : Settings) (p : Int) : Nat := max cfg.wAbs (roundDivNat (p.natAbs * cfg.wPct) 100)

/-- How a second stands to the band (R77, R78). -/
inductive SecondClass where
  | inside | outside | notQualifying
  deriving DecidableEq, Repr

/-- Class of an evaluation's second (R77, R78); a stand-in second never qualifies. -/
def classify (cfg : Settings) (v : FieldView) (p : Option Int) (ev : Option SecondHandOff) : SecondClass :=
  match ev, p with
  | some h, some q =>
    if cfg.checkMode != .off && v.good && (h.quality == .good || h.quality == .filled) then
      if (h.m - q).natAbs ≤ bandWidth cfg q then .inside else .outside
    else .notQualifying
  | _, _ => .notQualifying

/-- Runs and DOUBT by the class of the second (R79), or cleared in mode OFF (R80). -/
def updateDoubt (cfg : Settings) (c : SecondClass) (l : Live) : Live :=
  if cfg.checkMode = .off then { l with outsideRun := 0, insideRun := 0, doubt := false }
  else
    match c with
    | .outside =>
      { l with
        outsideRun := satSucc 3600 l.outsideRun
        insideRun := 0
        doubt := l.doubt || cfg.doubtD ≤ satSucc 3600 l.outsideRun }
    | .inside =>
      { l with
        outsideRun := 0
        insideRun := satSucc 3600 l.insideRun
        doubt := l.doubt && !(cfg.doubtD ≤ satSucc 3600 l.insideRun : Bool) }
    | .notQualifying => l

/-- LOST after an evaluation: set by a stand-in second (R82), by a FAULT second, cleared by any other (R81). -/
def lostAfter (ev : Option SecondHandOff) : Bool :=
  match ev with
  | none => true
  | some h => h.quality == .fault

/-- The basis X: the first row of R84 whose condition holds. -/
def chooseBasis (cfg : Settings) (p : Option Int) (doubtOrLost : Bool) (ev : Option SecondHandOff) : Option Nat :=
  match (if cfg.checkMode = .guard ∧ doubtOrLost = true then p else none) with
  | some q => some q.natAbs
  | none =>
    match ev with
    | none => none
    | some h =>
      match h.quality with
      | .good | .filled | .suspect => some h.m.natAbs
      | .clipped => some h.fullScale
      | .fault => none

/-- Stage 1 (R83): the live part after steps 1 to 5. -/
def basisSelection (cfg : Settings) (v : FieldView) (ev : Option SecondHandOff) (l : Live) : Live :=
  let p := predictionOf cfg v
  let judged := updateDoubt cfg (classify cfg v p ev) l
  { judged with
    predicted := p
    lost := lostAfter ev
    basis := chooseBasis cfg p (judged.doubt || lostAfter ev) ev }

/-- The DOUBT transition between two live parts. -/
def doubtKinds (before after : Live) : List TransitionKind :=
  if before.doubt = after.doubt then [] else if after.doubt then [.doubtOn] else [.doubtOff]

/-- The LOST transition between two live parts. -/
def lostKinds (before after : Live) : List TransitionKind :=
  if before.lost = after.lost then [] else if after.lost then [.lostOn] else [.lostOff]

/-- Transitions of stage 1 in the order of its steps (R83): a stand-in second settles LOST first, a measured second
last. -/
def stageOneKinds (ev : Option SecondHandOff) (before after : Live) : List TransitionKind :=
  match ev with
  | none => lostKinds before after ++ doubtKinds before after
  | some _ => doubtKinds before after ++ lostKinds before after

/-! ### Stage 2: heating update -/

/-- S(X) from a point (x, r) on, through the points after it (R90). -/
def steadyFrom (x r X : Nat) : List Breakpoint → Nat
  | [] => r
  | b :: rest =>
    if X < b.x then r + roundDivNat ((X - x) * (b.r - r)) (b.x - x) else steadyFrom b.x b.r X rest

/-- The steady value of a basis (R90): below the first point a straight line through the origin. -/
def steadyValue (points : Vector Breakpoint 8) (X : Nat) : Nat := steadyFrom 0 0 X points.toList

/-- The step of T for a difference and a time constant, at least one unit unless the difference is 0 (R92). -/
def heatStep (d : Int) (tau : Nat) : Int :=
  if roundDiv d tau = 0 then d.sign else roundDiv d tau

/-- T after one step towards a steady value (R92). -/
def heatTowards (cfg : Settings) (heat steady : Nat) : Nat :=
  let d : Int := (steady : Int) - heat
  ((heat : Int) + heatStep d (if 0 < d then cfg.tauHeat else cfg.tauCool)).toNat

/-- S of an evaluation: from its basis, or held (R91). -/
def steadyOf (cfg : Settings) (l : Live) : Nat :=
  match l.basis with
  | some X => steadyValue cfg.breakpoints X
  | none => l.steady

/-- Stage 2 (R93): S is settled, then T takes one step. -/
def heatingUpdate (cfg : Settings) (l : Live) : Live :=
  { l with steady := steadyOf cfg l, heat := heatTowards cfg l.heat (steadyOf cfg l) }

/-! ### Stage 3: level evaluation -/

/-- The on threshold of an upper level (R1). -/
def onThreshold (cfg : Settings) : Level → Nat
  | .normal => 0
  | .watch => cfg.iWatch
  | .warn => cfg.iWarn
  | .alarm => cfg.iAlarm

/-- Thermal on-condition (R98); WATCH and NORMAL have none. -/
def thermalOn (cfg : Settings) (heat : Nat) : Level → Bool
  | .warn => cfg.tWarn ≤ heat
  | .alarm => cfg.tAlarm ≤ heat
  | _ => false

/-- Thermal hold-condition (R98): the clear value is floored at 0. -/
def thermalHold (cfg : Settings) (heat : Nat) : Level → Bool
  | .warn => cfg.tWarn - cfg.tHys ≤ heat
  | .alarm => cfg.tAlarm - cfg.tHys ≤ heat
  | _ => false

/-- On-condition of an upper level at a basis (R102). -/
def onCondition (cfg : Settings) (X heat : Nat) (l : Level) : Bool :=
  onThreshold cfg l ≤ X || thermalOn cfg heat l

/-- Hold-condition of an upper level at a basis (R103): the off threshold is the on threshold less H, floored at 0. -/
def holdCondition (cfg : Settings) (X heat : Nat) (l : Level) : Bool :=
  onThreshold cfg l - cfg.hyst ≤ X || thermalHold cfg heat l

/-- The highest of ALARM, WARN and WATCH for which `p` holds; NORMAL if none. -/
def highestLevel (p : Level → Bool) : Level :=
  if p .alarm then .alarm else if p .warn then .warn else if p .watch then .watch else .normal

/-- The candidate C (R102; R109 with no basis). -/
def candidate (cfg : Settings) (basis : Option Nat) (heat : Nat) : Level :=
  match basis with
  | some X => highestLevel (onCondition cfg X heat)
  | none => highestLevel (thermalOn cfg heat)

/-- The fall target F of an evaluation with a basis (R103). -/
def fallTarget (cfg : Settings) (X heat : Nat) : Level := highestLevel (holdCondition cfg X heat)

/-- The rise delay of an upper level (R105). -/
def riseDelay (cfg : Settings) : Level → Nat
  | .normal => 0
  | .watch => cfg.dWatch
  | .warn => cfg.dWarn
  | .alarm => cfg.dAlarm

/-- The highest level above `lv` and at most `c` whose delay the age meets; `lv` if there is none (R105). -/
def raisedLevel (cfg : Settings) (lv c : Level) (age : Nat) : Level :=
  let l := highestLevel fun m => lv.rank < m.rank && m.rank ≤ c.rank && riseDelay cfg m ≤ age
  if l = .normal then lv else l

/-- A WARN or ALARM is owed an answer (R106, R112). -/
def Level.owed (l : Level) : Bool := Level.rank .warn ≤ l.rank

/-- The rise branch (R104 to R106). -/
def riseBranch (cfg : Settings) (c : Level) (l : Live) : Live :=
  let age := satSucc 65535 l.riseAge
  let level := raisedLevel cfg l.level c age
  let counted := { l with riseAge := age, calmAge := 0 }
  if level = l.level then counted
  else
    { counted with
      level := level
      unacknowledged := l.unacknowledged || level.owed
      reminderCount := if level = .alarm then cfg.reminder else l.reminderCount }

/-- A latched ALARM that is owed an answer does not fall (R108). -/
def heldByLatch (cfg : Settings) (l : Live) : Bool :=
  cfg.latched && l.level == .alarm && l.unacknowledged

/-- The calm branch (R104, R107, R108). -/
def calmBranch (cfg : Settings) (f : Level) (l : Live) : Live :=
  let age := satSucc 65535 l.calmAge
  if cfg.dFall ≤ age && !heldByLatch cfg l then
    { l with
      riseAge := 0
      calmAge := 0
      level := f
      reminderCount := if l.level = .alarm then 0 else l.reminderCount }
  else { l with riseAge := 0, calmAge := age }

/-- The branch an evaluation takes (R104, R109). -/
def levelBranch (cfg : Settings) (l : Live) : Live :=
  let c := candidate cfg l.basis l.heat
  if l.level.rank < c.rank then riseBranch cfg c l
  else
    match l.basis with
    | none => l
    | some X =>
      let f := fallTarget cfg X l.heat
      if f.rank < l.level.rank then calmBranch cfg f l else { l with riseAge := 0, calmAge := 0 }

/-- The reminder count of an evaluation that begins and ends at ALARM (R115), and whether it emits REMINDER. -/
def remind (cfg : Settings) (count : Nat) : Nat × Bool :=
  if cfg.reminder = 0 then (0, false)
  else if count = 0 then (cfg.reminder, false)
  else if count = 1 then (cfg.reminder, true)
  else (count - 1, false)

/-- An evaluation begins and ends at ALARM (R115). -/
def staysAtAlarm (before after : Live) : Bool := before.level == .alarm && after.level == .alarm

/-- Stage 3 (R104 to R115): the live part it leaves. -/
def levelEvaluation (cfg : Settings) (l : Live) : Live :=
  let next := levelBranch cfg l
  if staysAtAlarm l next then { next with reminderCount := (remind cfg next.reminderCount).1 } else next

/-- The transition of stage 3, if any, with its levels (R111). -/
def stageThreeEvents (cfg : Settings) (before after : Live) : List (TransitionKind × Option (Level × Level)) :=
  if before.level.rank < after.level.rank then [(.levelUp, some (before.level, after.level))]
  else if after.level.rank < before.level.rank then [(.levelDown, some (before.level, after.level))]
  else if staysAtAlarm before after && (remind cfg before.reminderCount).2 then [(.reminder, none)]
  else []

/-- A raise whose new level is at or above the capture level triggers a capture (R120). -/
def raiseTriggers (cfg : Settings) (before after : Live) : Bool :=
  before.level.rank < after.level.rank &&
    match cfg.captureLevel with
    | .none => false
    | .warn => Level.rank .warn ≤ after.level.rank
    | .alarm => Level.rank .alarm ≤ after.level.rank

/-! ### The whole evaluation -/

/-- What the contacts read of a live part has changed (R119, R86). -/
def contactsChanged (before after : Live) : Bool :=
  before.level != after.level || before.unacknowledged != after.unacknowledged || before.doubt != after.doubt
    || before.lost != after.lost

/-- The transitions of stage 1, each with the basis chosen and T as it stood (R83). -/
def State.emitStageOne (i : Fin 16) (kinds : List TransitionKind) (x : Option Nat) (stamp : Stamp) (s : State) : State :=
  kinds.foldl (fun u k => u.emitTransformer i k none x none stamp) s

/-- The transitions of stage 3 (R111). -/
def State.emitStageThree (i : Fin 16) (events : List (TransitionKind × Option (Level × Level))) (x : Option Nat)
    (stamp : Stamp) (s : State) : State :=
  events.foldl (fun u e => u.emitTransformer i e.1 e.2 x none stamp) s

/-- The trigger of a raise joins those waiting for the Capture Unit (R120). -/
def State.handTrigger (cfg : Settings) (i : Fin 16) (stamp : Stamp) (s : State) : State :=
  s.setHandOffs
    { s.handOffs with triggers := s.handOffs.triggers ++ [⟨i, stamp, cfg.capturePre, cfg.capturePost⟩] }

/-- The evaluation joins those waiting for the Episode Tracker (R121). -/
def State.handEvaluation (i : Fin 16) (l : Live) (stamp : Stamp) (s : State) : State :=
  s.setHandOffs
    { s.handOffs with evaluations := s.handOffs.evaluations ++ [⟨i, l.basis, l.level, l.heat, stamp⟩] }

/-- One evaluation of transformer `i` (R16), on a measured second or, with none, on a stand-in second. -/
def State.evaluate (i : Fin 16) (ev : Option SecondHandOff) (stamp : Stamp) (s : State) : State :=
  let cfg := s.cfg.transformers[i]
  let l₀ := s.live[i]
  let l₁ := basisSelection cfg s.fieldView ev l₀
  let l₂ := heatingUpdate cfg l₁
  let l₃ := levelEvaluation cfg l₂
  let s₁ := (s.setLive i l₁).emitStageOne i (stageOneKinds ev l₀ l₁) l₁.basis stamp
  let s₃ := (s₁.setLive i l₃).emitStageThree i (stageThreeEvents cfg l₂ l₃) l₃.basis stamp
  let s₄ := if raiseTriggers cfg l₂ l₃ then s₃.handTrigger cfg i stamp else s₃
  (s₄.handEvaluation i l₃ stamp).reportIf (contactsChanged l₀ l₃) (.transformer i)

end Sys2Proof.Machine
end

