-- ==== Sys2Proof/Machine/TrackerOps.lean ====
section
/-! DEFINITION. The Episode Tracker's operations (chapter 8). -/

namespace Sys2Proof.Machine

/-- A transformer counts for the level test (R125): IN_SERVICE, not suppressed, at WATCH or above. -/
def Live.activeLevel (l : Live) : Bool :=
  l.service == .inService && !l.suppressed && Level.rank .watch ≤ l.level.rank

/-- The larger of |E_N| and |E_E| (R72). -/
def FieldEstimate.magnitude (e : FieldEstimate) : Nat := max e.north.natAbs e.east.natAbs

/-- The activity test of R125. -/
def State.activitySecond (s : State) : Bool :=
  allSixteen.any (fun i => s.live[i].activeLevel) ||
    (s.field.latest.quality != .none && s.cfg.device.eStart ≤ s.field.latest.magnitude)

/-- max |E| after a clock second (R128): an equal value keeps the stamp of its first occurrence. -/
def maxEWith (e : FieldEstimate) (stamp : Stamp) (held : Option (Nat × Stamp)) : Option (Nat × Stamp) :=
  if e.quality = .none then held
  else
    match held with
    | none => some (e.magnitude, stamp)
    | some m => if m.1 < e.magnitude then some (e.magnitude, stamp) else some m

/-- After episode 65535 comes 1 (R126). -/
def nextEpisodeNumber (n : Nat) : Nat := if 65535 ≤ n then 1 else n + 1

/-- An entry as an opening makes it (R126, step 2). -/
def openingEntry (l : Live) : EpisodeEntry := ⟨none, l.level, 0, l.heat⟩

/-- The record an opening creates (R126, steps 1, 2 and 4). -/
def State.openedEpisode (stamp : Stamp) (s : State) : Episode where
  number := s.tracker.nextNumber
  start := stamp
  closed := none
  maxE := maxEWith s.field.latest stamp none
  entries := Vector.ofFn fun i => openingEntry s.live[i]

/-- An opening (R126). -/
def State.openEpisode (stamp : Stamp) (s : State) : State :=
  ((s.setTracker
    { s.tracker with
      openEpisode := some (s.openedEpisode stamp)
      nextNumber := nextEpisodeNumber s.tracker.nextNumber
      quietTimer := s.cfg.device.quietTime }).emitDevice .episodeOpen (some s.tracker.nextNumber) stamp).report .tracker

/-- A record joins the newest end of the history; a full history drops its oldest first (R130, steps 2 and 3). -/
def historyAfter (history : List Episode) (e : Episode) : List Episode :=
  (if history.length < Config.historyDepth then history else history.drop (history.length + 1 - Config.historyDepth)) ++ [e]

/-- A close (R130) of the open episode `e`. -/
def State.closeEpisodeRecord (e : Episode) (stamp : Stamp) (why : CloseCause) (s : State) : State :=
  ((s.setTracker
    { s.tracker with
      openEpisode := none
      quietTimer := 0
      history := historyAfter s.tracker.history { e with closed := some (stamp, why) } }).emitDevice
        .episodeClose (some e.number) stamp).report .tracker

/-- The quiet timer would run out at this clock second (R129); that clock second is left to EPISODE_QUIET_CLOSE. -/
def State.closesQuiet (s : State) : Bool :=
  s.tracker.openEpisode.isSome && !s.activitySecond && s.tracker.quietTimer ≤ 1

/-- The tracker's next clock second would open an episode (R126). -/
def State.opensEpisode (s : State) : Bool := s.tracker.openEpisode.isNone && s.activitySecond

/-- The tracker takes a clock second (R125 to R129). -/
def State.trackerSecond (stamp : Stamp) (s : State) : State :=
  match s.tracker.openEpisode with
  | none => if s.activitySecond then s.openEpisode stamp else s
  | some e =>
    let e' := { e with maxE := maxEWith s.field.latest stamp e.maxE }
    if s.activitySecond then
      s.setTracker { s.tracker with openEpisode := some e', quietTimer := s.cfg.device.quietTime }
    else if s.tracker.quietTimer ≤ 1 then s.closeEpisodeRecord e' stamp .quiet
    else s.setTracker { s.tracker with openEpisode := some e', quietTimer := s.tracker.quietTimer - 1 }

/-- Largest charge an entry holds (R133). -/
def maxCharge : Nat := 4294967295

/-- An entry after an evaluation's hand-off (R133). -/
def EpisodeEntry.withEvaluation (h : EvaluationHandOff) (e : EpisodeEntry) : EpisodeEntry where
  peak :=
    match h.basis, e.peak with
    | none, p => p
    | some X, none => some (X, h.stamp)
    | some X, some p => if p.1 < X then some (X, h.stamp) else some p
  highest := if e.highest.rank < h.level.rank then h.level else e.highest
  charge :=
    match h.basis with
    | none => e.charge
    | some X => min maxCharge (e.charge + X)
  maxT := max e.maxT h.heat

/-- A change of one entry of the open episode. -/
def EpisodeTracker.updateEntry (i : Fin 16) (f : EpisodeEntry → EpisodeEntry) (t : EpisodeTracker) : EpisodeTracker :=
  { t with openEpisode := t.openEpisode.map fun e => { e with entries := e.entries.set i (f e.entries[i]) } }

/-- The tracker takes an evaluation's hand-off (R133); QUIET, it changes nothing. -/
def State.trackEvaluation (h : EvaluationHandOff) (s : State) : State :=
  s.setTracker (s.tracker.updateEntry h.transformer (EpisodeEntry.withEvaluation h))

/-- A cooling update reaches the tracker (R134): the new T is compared with max T as R133 does. Where an evaluation whose T is
not below it has its hand-off on the way, that T counts in the comparison, so that cooling does not raise max T (R17, R126;
DEDUCED, notes/assumptions/29.md). -/
def State.trackCooling (i : Fin 16) (heat : Nat) (s : State) : State :=
  if s.handOffs.evaluations.any fun h => h.transformer == i && heat ≤ h.heat then s
  else s.setTracker (s.tracker.updateEntry i fun e => { e with maxT := max e.maxT heat })

end Sys2Proof.Machine
end

