-- ==== Sys2Proof/Machine/ContactOps.lean ====
section
/-! DEFINITION. The Contact Driver's operations (chapter 10): sources, modes, drives, lamp, link silence, panel. -/

namespace Sys2Proof.Machine

/-- Transformer part of a source (R156). -/
def State.transformerPart (map : ContactMap) (s : State) : Bool :=
  allSixteen.any fun i =>
    map.transformers.getLsbD i && s.live[i].service == .inService && !s.live[i].suppressed
      && map.minLevel.rank ≤ s.live[i].level.rank

/-- ANY_DOUBT (R156). -/
def State.anyDoubt (s : State) : Bool :=
  allSixteen.any fun i => s.live[i].service == .inService && !s.live[i].suppressed && s.live[i].doubt

/-- ANY_LOST (R156). -/
def State.anyLost (s : State) : Bool :=
  allSixteen.any fun i => s.live[i].service == .inService && !s.live[i].suppressed && s.live[i].lost

/-- CONVERTER_FAULT (R156): some converter is FAULTED. -/
def State.anyFaulted (s : State) : Bool :=
  ([0, 1, 2, 3, 4] : List (Fin 5)).any fun c => (s.converter c).state.isFaulted

/-- Device part of a source (R156); bits as R184 gives them. -/
def State.devicePart (sources : SourceSet) (s : State) : Bool :=
  (sources.getLsbD 0 && s.anyDoubt) || (sources.getLsbD 1 && s.anyLost) || (sources.getLsbD 2 && s.anyFaulted)
    || (sources.getLsbD 3 && s.driver.linkSilent) || (sources.getLsbD 4 && s.tracker.openEpisode.isSome)

/-- The source of a contact with this map (R156). -/
def State.sourceOf (map : ContactMap) (s : State) : Bool := s.transformerPart map || s.devicePart map.sources

/-- A LATCH contact when its source is judged (R159). -/
def latchJudged (source : Bool) (st : ContactState) : ContactState :=
  match st, source with
  | .open, true => .closedActive
  | .closedHeld, true => .closedActive
  | .closed, true => .closedActive
  | .closedActive, false => .closedHeld
  | .closedAcked, false => .open
  | .closed, false => .open
  | other, _ => other

/-- A FOLLOW contact when its source is judged (R158). -/
def followJudged (source : Bool) : ContactState := if source then .closed else .open

/-- A contact's state when its source is judged. -/
def judgedState (mode : ContactMode) (source : Bool) (st : ContactState) : ContactState :=
  match mode with
  | .follow => followJudged source
  | .latch => latchJudged source st

/-- A contact acknowledged (R159, R160): FOLLOW is left as it is. -/
def acknowledgedState (mode : ContactMode) (st : ContactState) : ContactState :=
  match mode, st with
  | .latch, .closedActive => .closedAcked
  | .latch, .closedHeld => .open
  | _, other => other

/-- A contact's output is in alarm (R158): a closed state, or panel test with its test enable. -/
def outputInAlarm (panel : PanelState) (map : ContactMap) (st : ContactState) : Bool :=
  st != .open || (panel == .test && map.testEnable)

/-- The driver is on by output and sense (R161). -/
def driverOn (sense : Sense) (inAlarm : Bool) : Bool :=
  match sense with
  | .energiseOnAlarm => inAlarm
  | .deenergiseOnAlarm => !inAlarm

/-- A transformer lights the lamp (R163). -/
def Live.lightsLamp (l : Live) : Bool := l.service == .inService && l.level.owed

/-- The lamp state: the first condition of R163 that holds. -/
def State.lampState (s : State) : LampState :=
  if s.driver.panel = .test then .test
  else if allSixteen.any fun i => s.live[i].lightsLamp && s.live[i].unacknowledged then .flashing
  else if allSixteen.any fun i => s.live[i].lightsLamp then .steady
  else .off

/-- How the lamp output is driven in each lamp state (R163): on, off, or on and off every so many milliseconds. -/
inductive LampDrive where
  | steadyOff
  | steadyOn
  | blink (ms : Nat)
  deriving DecidableEq, Repr

def LampState.drive : LampState → LampDrive
  | .off => .steadyOff
  | .steady => .steadyOn
  | .flashing => .blink 500
  | .test => .blink 125

/-- Outputs driven and lamp judged (R157, R161, R163). -/
def State.driveOutputs (s : State) : State :=
  s.setDriver
    { s.driver with
      contacts := Vector.ofFn fun k =>
        { s.driver.contacts[k] with
          driver := driverOn s.cfg.maps[k].sense (outputInAlarm s.driver.panel s.cfg.maps[k] s.driver.contacts[k].state) }
      lamp := s.lampState }

/-- A contact judged afresh under its map. -/
def State.judgedContact (k : Fin 4) (s : State) : Contact :=
  let c := s.driver.contacts[k]
  let source := s.sourceOf s.cfg.maps[k]
  { c with state := judgedState s.cfg.maps[k].mode source c.state, source := source }

/-- A report taken (R157): every source judged, contacts moved, outputs driven, lamp judged. -/
def State.judgeContacts (s : State) : State :=
  (s.setDriver { s.driver with contacts := Vector.ofFn fun k => s.judgedContact k }).driveOutputs

/-- All four contacts are acknowledged, then outputs and lamp (R160). -/
def State.acknowledgeContacts (s : State) : State :=
  (s.setDriver
    { s.driver with
      contacts := Vector.ofFn fun k =>
        { s.driver.contacts[k] with state := acknowledgedState s.cfg.maps[k].mode s.driver.contacts[k].state } }).driveOutputs

/-- Each transformer whose flag changed is reported, with its number (R119, R157). -/
def State.reportChanged (changed : Fin 16 → Bool) (s : State) : State :=
  s.setHandOffs { s.handOffs with reports := s.handOffs.reports ++ (allSixteen.filter changed).map .transformer }

/-- Clear unacknowledged for the transformers named (R113, R114); each change is reported (R119). -/
def State.acknowledgeTransformers (named : TransformerSet) (s : State) : State :=
  let cleared : State :=
    { s with
      live := Vector.ofFn fun i =>
        if named.getLsbD i then { s.live[i] with unacknowledged := false } else s.live[i] }
  cleared.reportChanged fun i => named.getLsbD i && s.live[i].unacknowledged

/-! ### Link silence (R162) -/

/-- A valid request frame is reported: the timer is loaded, the flag cleared. A contact in LATCH that only the flag closes
latches where a report was taken while the flag was set (R157), and not else (DESIGN CHOICE; notes/assumptions/31.md). -/
def State.linkHeard (s : State) : State :=
  if s.cfg.device.linkSilence = 0 then s
  else
    (s.setDriver { s.driver with linkTimer := some s.cfg.device.linkSilence, linkSilent := false }).reportIf
      s.driver.linkSilent .linkSilence

/-- A new link silence time is taken: timer loaded or stopped, flag cleared. -/
def State.linkSilenceWritten (s : State) : State :=
  (s.setDriver
    { s.driver with
      linkTimer := if s.cfg.device.linkSilence = 0 then none else some s.cfg.device.linkSilence
      linkSilent := false }).reportIf s.driver.linkSilent .linkSilence

/-- The timer would reach 0 at this clock second, which is left to LINK_SILENT. -/
def ContactDriver.fallsSilent (d : ContactDriver) : Bool :=
  match d.linkTimer with
  | some n => n ≤ 1
  | none => false

/-- The timer takes a clock second. -/
def State.linkSecond (stamp : Stamp) (s : State) : State :=
  match s.driver.linkTimer with
  | none => s
  | some n =>
    if n ≤ 1 then
      ((s.setDriver { s.driver with linkTimer := none, linkSilent := true }).emitDevice .linkSilent none stamp).reportIf
        (!s.driver.linkSilent) .linkSilence
    else s.setDriver { s.driver with linkTimer := some (n - 1) }

/-! ### Panel (R164, R165) -/

/-- The panel enters a state; outputs and lamp follow. -/
def State.setPanel (p : PanelState) (timer : Bool) (s : State) : State :=
  (s.setDriver { s.driver with panel := p, panelTimer := timer }).driveOutputs

/-- A debounced press taken (R164); a panel event that moves nothing still has the lamp judged afresh (R163). -/
def State.panelPressed (s : State) : State :=
  match s.driver.panel with
  | .idle => if s.cfg.device.panelLock then s.setPanel .ignored false else s.setPanel .pressed true
  | _ => s.driveOutputs

/-- A debounced release taken (R164): from PRESSED it is an Acknowledge All; in IDLE the lamp alone is judged afresh
(R163). -/
def State.panelReleased (s : State) : State :=
  match s.driver.panel with
  | .idle => s.driveOutputs
  | .pressed => ((s.setPanel .idle false).acknowledgeTransformers 0xFFFF).acknowledgeContacts
  | .test => s.setPanel .idle false
  | .testEnded => s.setPanel .idle false
  | .ignored => s.setPanel .idle false

/-- Panel lock turned on in PRESSED, TEST or TEST_ENDED (R165). -/
def State.panelLocked (s : State) : State :=
  match s.driver.panel with
  | .pressed | .test | .testEnded => s.setPanel .ignored false
  | _ => s

end Sys2Proof.Machine
end

