-- ==== Sys2Proof/Machine/TableOps.lean ====
section
/-! DEFINITION. The Transformer Table's operations (chapter 1): service changes, measured seconds, cooling, and a
record's clock second. -/

namespace Sys2Proof.Machine

/-! ### Service changes -/

/-- The live part a disable leaves (R8): it keeps O_eff, OFFSET_FAULT and suppressed. -/
def Live.disabled (l : Live) : Live :=
  { l with
    service := .off
    level := .normal
    riseAge := 0
    calmAge := 0
    reminderCount := 0
    doubt := false
    lost := false
    unacknowledged := false
    outsideRun := 0
    insideRun := 0
    age := 0
    measured := none
    predicted := none
    basis := none
    heat := 0
    steady := 0 }

/-- The live part a de-energising leaves (R10): it keeps T, M, the measurement age, unacknowledged and suppressed. -/
def Live.deenergised (l : Live) : Live :=
  { l with
    service := .outOfService
    level := .normal
    riseAge := 0
    calmAge := 0
    reminderCount := 0
    doubt := false
    lost := false
    outsideRun := 0
    insideRun := 0
    steady := 0
    predicted := none
    basis := none }

/-- A disable (R8): the live part is reset, learning and de-energised time are cleared, and the Capture Unit and the
contacts are told. -/
def State.disableTransformer (i : Fin 16) (s : State) : State :=
  let cleared := ((s.setLive i s.live[i].disabled).clearLearning i).clearDeenergisedTime i
  (cleared.setHandOffs { cleared.handOffs with disables := cleared.handOffs.disables ++ [i] }).report (.transformer i)

/-- The debounced state of EN*i* as the Transformer Table has taken it: the changes still on their way to the table are
not in it yet (DEDUCED from R7's last paragraph; notes/assumptions/18.md). -/
def State.enTaken (i : Fin 16) (s : State) : Bool :=
  match s.handOffs.enReports.find? fun r => r.transformer == i with
  | some r => !r.level
  | none => s.inputs.en[i].debounced

/-- An enable (R9): IN_SERVICE with age 0, or OUT_OF_SERVICE, by the input's debounced state. A change of it that still
waits is taken after the enable (R7). -/
def State.enableTransformer (i : Fin 16) (s : State) : State :=
  let cleared := s.clearDeenergisedTime i
  if s.enTaken i then
    ((cleared.setLive i { s.live[i] with service := .inService, age := 0 }).emitTransformer i .inService none none none
      s.time.now).report (.transformer i)
  else
    ((cleared.setLive i { s.live[i] with service := .outOfService }).emitTransformer i .outOfService none none none
      s.time.now).report (.transformer i)

/-- A debounced energising taken (R11, R7). -/
def State.energise (i : Fin 16) (s : State) : State :=
  match s.live[i].service with
  | .outOfService =>
    ((((s.clearLearning i).clearDeenergisedTime i).setLive i { s.live[i] with service := .inService, age := 0 }).emitTransformer
      i .inService none none none s.time.now).report (.transformer i)
  | _ => s

/-- A debounced de-energising taken (R10, R7): the transition carries X as it stood at the last evaluation. -/
def State.deenergise (i : Fin 16) (s : State) : State :=
  match s.live[i].service with
  | .inService =>
    (((s.clearDeenergisedTime i).setLive i s.live[i].deenergised).emitTransformer i .outOfService none s.live[i].basis none
      s.time.now).report (.transformer i)
  | _ => s

/-! ### Measured seconds -/

/-- A transformer record takes a measured second (R15), by its service state as it takes it: one that completed before an enable
and is taken after it is evaluated (DESIGN CHOICE; notes/assumptions/30.md). -/
def State.takeSecond (h : SecondHandOff) (s : State) : State :=
  let l := s.live[h.channel]
  match l.service with
  | .off => s
  | .outOfService => (s.setLive h.channel { l with measured := some ⟨h.m, h.quality⟩ }).offerLearning h
  | .inService =>
    (s.setLive h.channel { l with measured := some ⟨h.m, h.quality⟩, age := 0 }).evaluate h.channel (some h) s.time.now

/-! ### The clock second of a record -/

/-- A clock second that would bring the measurement age of an IN_SERVICE transformer to 3 or more is left to
STAND_IN_SECOND (R15, R82). -/
def Live.standsIn (l : Live) : Bool := l.service == .inService && 3 ≤ satSucc 65535 l.age

/-- The cooling update of an OUT_OF_SERVICE transformer (R17): steady value 0. -/
def coolingUpdate (cfg : Settings) (l : Live) : Live := { l with steady := 0, heat := heatTowards cfg l.heat 0 }

/-- A transformer record takes a clock second (R15, R17, R48, R82). -/
def State.recordSecond (i : Fin 16) (stamp : Stamp) (s : State) : State :=
  let l := s.live[i]
  match l.service with
  | .off => s
  | .outOfService =>
    let cooled := coolingUpdate s.cfg.transformers[i] l
    let c := s.channels[i]
    ((s.setLive i cooled).setChannel i { c with deenergisedTime := satSucc 65535 c.deenergisedTime }).trackCooling i
      cooled.heat
  | .inService =>
    let aged := s.setLive i { l with age := satSucc 65535 l.age }
    if l.standsIn then aged.evaluate i none stamp else aged

end Sys2Proof.Machine
end

