-- ==== Sys2Proof/Machine/ClockOps.lean ====
section
/-! DEFINITION. The Time Base's operations (R175 to R177) and how each block takes a clock second. A block takes it at
once, unless it brings about what the table gives a row of its own (STAND_IN_SECOND, FIELD_NONE, EPISODE_QUIET_CLOSE,
CAPTURE_MISSED, LINK_SILENT): then it waits for that row's event. The Field Estimator and the Episode Tracker also wait
where a block whose state meets theirs waits (R75, R121, R125), and an opening that has waited waits for the hand-offs on
their way (R134), so that the sender's rows give the order. A clock second still waiting when the next is made is taken
first (notes/assumptions/6.md). -/

namespace Sys2Proof.Machine

/-- Take the clock second that waits for transformer `i`, if any. -/
def State.takeRecordTick (i : Fin 16) (s : State) : State :=
  match s.handOffs.recordTicks[i] with
  | none => s
  | some stamp =>
    (s.setHandOffs { s.handOffs with recordTicks := s.handOffs.recordTicks.set i none }).recordSecond i stamp

/-- Take the clock second that waits for the Field Estimator, if any. -/
def State.takeFieldTick (s : State) : State :=
  match s.handOffs.fieldTick with
  | none => s
  | some stamp => (s.setHandOffs { s.handOffs with fieldTick := none }).fieldSecond stamp

/-- Take the clock second that waits for the Episode Tracker, if any. -/
def State.takeTrackerTick (s : State) : State :=
  match s.handOffs.trackerTick with
  | none => s
  | some stamp => (s.setHandOffs { s.handOffs with trackerTick := none }).trackerSecond stamp

/-- Take the clock second that waits for the link-silence timer, if any. -/
def State.takeLinkTick (s : State) : State :=
  match s.handOffs.linkTick with
  | none => s
  | some stamp => (s.setHandOffs { s.handOffs with linkTick := none }).linkSecond stamp

/-- A transformer record has still to take its clock second. -/
def State.recordWaits (s : State) : Bool := allSixteen.any fun i => s.handOffs.recordTicks[i].isSome

/-- A clock second comes to transformer `i`'s record. -/
def State.recordClock (stamp : Stamp) (i : Fin 16) (s : State) : State :=
  let u := s.takeRecordTick i
  if u.live[i].standsIn then
    u.setHandOffs { u.handOffs with recordTicks := u.handOffs.recordTicks.set i (some stamp) }
  else u.recordSecond i stamp

/-- The Field Estimator's clock second waits: it would lose the grade, or a stand-in evaluation, which reads E age
(R75), has still to take its own. -/
def State.fieldWaits (s : State) : Bool := s.field.losesGrade || s.recordWaits

/-- The Episode Tracker's clock second waits: it would close the episode, or an evaluation that may change a level
(R121), or the Field Estimator, which may lose the grade (R125), has still to take its own. -/
def State.trackerWaits (s : State) : Bool := s.closesQuiet || s.recordWaits || s.handOffs.fieldTick.isSome

/-- A clock second comes to the Field Estimator. -/
def State.fieldClock (stamp : Stamp) (s : State) : State :=
  let u := s.takeFieldTick
  if u.fieldWaits then u.setHandOffs { u.handOffs with fieldTick := some stamp } else u.fieldSecond stamp

/-- A clock second comes to the Episode Tracker. -/
def State.trackerClock (stamp : Stamp) (s : State) : State :=
  let u := s.takeTrackerTick
  if u.trackerWaits then u.setHandOffs { u.handOffs with trackerTick := some stamp } else u.trackerSecond stamp

/-- A clock second comes to the link-silence timer. -/
def State.linkClock (stamp : Stamp) (s : State) : State :=
  let u := s.takeLinkTick
  if u.driver.fallsSilent then u.setHandOffs { u.handOffs with linkTick := some stamp } else u.linkSecond stamp

/-- A clock second comes to every block that counts clock seconds (R175). -/
def State.blocksClock (stamp : Stamp) (s : State) : State :=
  ((((allSixteen.foldl (fun u i => u.recordClock stamp i) s).fieldClock stamp).trackerClock stamp).captureSecond
    stamp).linkClock stamp

/-- The Episode Tracker's clock second would open an episode while an evaluation's hand-off is on its way: which of the two
the tracker takes first decides whether that evaluation's X joins the charge (R134). -/
def State.opensAhead (s : State) : Bool := s.opensEpisode && !s.handOffs.evaluations.isEmpty

/-- The Episode Tracker takes a clock second that has waited, where nothing keeps it waiting any more: none of what
`State.trackerWaits` names, and no hand-off that it would open an episode ahead of. -/
def State.settleTracker (s : State) : State := if s.trackerWaits || s.opensAhead then s else s.takeTrackerTick

/-- Once a row has taken its clock second, the Field Estimator and then the Episode Tracker take theirs where nothing
keeps it waiting any more. -/
def State.settleClock (s : State) : State := State.settleTracker (if s.fieldWaits then s else s.takeFieldTick)

/-- The tracker takes an evaluation's hand-off (R133); QUIET, it then takes a clock second that waited only for hand-offs
(R134). -/
def State.takeHandOff (h : EvaluationHandOff) (s : State) : State :=
  if s.tracker.openEpisode.isNone then (s.trackEvaluation h).settleTracker else s.trackEvaluation h

/-! ### The time -/

/-- The next second: after 86399 second 0 of the next day, after day 65535 day 0; tenth 0 (R175). -/
def Stamp.nextSecond (t : Stamp) : Stamp :=
  if t.second < 86399 then ⟨t.day, t.second + 1, 0⟩
  else if t.day < 65535 then ⟨t.day + 1, 0, 0⟩
  else ⟨0, 0, 0⟩

/-- The oscillator's clock second (R175). -/
def State.oscillatorSecond (s : State) : State :=
  let now := s.time.now.nextSecond
  State.blocksClock now (s.tenthPasses.setTime { s.time with now := now })

/-- A clock second at a pps edge or at a loss: a pending set applies in place of the advance, with CLOCK_SET (R176,
R177). -/
def State.supervisedSecond (s : State) : State :=
  match s.time.pendingSet with
  | none => s.oscillatorSecond
  | some p =>
    let now : Stamp := ⟨p.1, p.2, 0⟩
    ((s.tenthPasses.setTime { s.time with now := now, pendingSet := none }).emitDevice .clockSet none now).blocksClock now

/-- An edge less than 500 ms after the last edge taken is passed over (R176). -/
def TimeBase.tooSoon (t : TimeBase) (now : Nat) : Bool :=
  match t.lastEdge with
  | none => false
  | some e => now - e < 500

/-- A rising edge of PPS at millisecond `now` (R176). -/
def State.ppsEdgeAt (now : Nat) (s : State) : State :=
  if s.time.tooSoon now then s
  else
    match s.time.pps with
    | .unused => s
    | .tracking => (s.setTime { s.time with lastEdge := some now }).supervisedSecond
    | .lost => (s.setTime { s.time with lastEdge := some now, pps := .tracking }).oscillatorSecond

/-- Two seconds without an edge while TRACKING (R176): PPS_LOST, then the held clock second. -/
def State.ppsFails (s : State) : State :=
  match s.time.pps with
  | .tracking => ((s.emitDevice .ppsLost none s.time.now).setTime { s.time with pps := .lost }).supervisedSecond
  | _ => s

/-- Pps use turned on or off (R176, R177); turning it off applies a pending set with the tenth as it stands. -/
def State.ppsUseWritten (use : Bool) (s : State) : State :=
  if use then s.setTime { s.time with pps := .lost }
  else
    match s.time.pendingSet with
    | none => s.setTime { s.time with pps := .unused }
    | some p =>
      let now : Stamp := ⟨p.1, p.2, s.time.now.tenth⟩
      (s.setTime { s.time with now := now, pendingSet := none, pps := .unused }).emitDevice .clockSet none now

/-! ### Debounced inputs (R6) -/

/-- The record of an input. -/
def Inputs.get (p : Pin) (v : Inputs) : Input :=
  match p with
  | .en t => v.en[t]
  | .panel => v.panel
  | .lock => v.lock

/-- Another record for an input. -/
def Inputs.put (p : Pin) (x : Input) (v : Inputs) : Inputs :=
  match p with
  | .en t => { v with en := v.en.set t x }
  | .panel => { v with panel := x }
  | .lock => { v with lock := x }

/-- A raw level: it starts the hold timer when it differs from the debounced state, and stops it when it does not. -/
def Input.withRaw (level : Bool) (now : Nat) (x : Input) : Input where
  raw := level
  debounced := x.debounced
  hold := if level = x.debounced then none else some (x.hold.getD now)

/-- A debounced change is reported: EN to the Transformer Table, PANEL to the Contact Driver; LOCK is read by the
Message Link as it stands (R6, R170). -/
def State.reportInput (p : Pin) (level : Bool) (s : State) : State :=
  match p with
  | .en t => s.setHandOffs { s.handOffs with enReports := s.handOffs.enReports ++ [⟨t, level⟩] }
  | .panel => s.setHandOffs { s.handOffs with panelReports := s.handOffs.panelReports ++ [level] }
  | .lock => s

/-- A hold completes: the debounced state takes the new value and the change is reported. -/
def State.completeHold (p : Pin) (s : State) : State :=
  let x := s.inputs.get p
  match x.hold with
  | none => s
  | some _ =>
    State.reportInput p x.raw { s with inputs := s.inputs.put p { x with debounced := x.raw, hold := none } }

/-- The eighteen inputs, in order. -/
def allPins : List Pin := allSixteen.map Pin.en ++ [.panel, .lock]

/-- A new debounce time: a hold that has already lasted at least that long completes at that moment (R6). -/
def State.debounceWritten (now : Nat) (s : State) : State :=
  allPins.foldl
    (fun u p =>
      match (u.inputs.get p).hold with
      | some start => if u.cfg.device.debounce ≤ now - start then u.completeHold p else u
      | none => u) s

end Sys2Proof.Machine
end

