-- ==== Sys2Proof/Machine/Codec.lean ====
section
/-! DEFINITION. The byte layouts of replies (R184). -/

namespace Sys2Proof.Machine

/-! ### Codes -/

def Status.code : Status → Byte
  | .ok => 0x00
  | .clamped => 0x01
  | .busy => 0x02
  | .locked => 0x03
  | .refused => 0x04
  | .unknownKind => 0x05
  | .badLength => 0x06
  | .notFound => 0x07
  | .wrongState => 0x08

def TransitionKind.code : TransitionKind → Nat
  | .levelUp => 0x01
  | .levelDown => 0x02
  | .reminder => 0x03
  | .outOfService => 0x04
  | .inService => 0x05
  | .doubtOn => 0x10
  | .doubtOff => 0x11
  | .lostOn => 0x12
  | .lostOff => 0x13
  | .offsetLearned => 0x14
  | .offsetFault => 0x15
  | .converterResync => 0x16
  | .converterFault => 0x17
  | .converterAbsent => 0x18
  | .fieldNone => 0x19
  | .episodeOpen => 0x20
  | .episodeClose => 0x21
  | .captureDone => 0x30
  | .captureMissed => 0x31
  | .clockSet => 0x40
  | .ppsLost => 0x41
  | .settingsSaved => 0x42
  | .settingsSaveFailed => 0x43
  | .linkSilent => 0x44
  | .restarted => 0x45

def ServiceState.code : ServiceState → Nat
  | .off => 0
  | .outOfService => 1
  | .inService => 2

def ConverterState.code : ConverterState → Nat
  | .absent => 0
  | .locked _ => 1
  | .faulted _ => 2

def EQuality.code : EQuality → Nat
  | .good => 0
  | .degraded => 1
  | .none => 2

def CheckMode.code : CheckMode → Nat
  | .off => 0
  | .report => 1
  | .guard => 2

def CaptureLevel.code : CaptureLevel → Nat
  | .none => 0
  | .warn => 1
  | .alarm => 2

def FillMode.code : FillMode → Nat
  | .hold => 0
  | .zero => 1

def ContactMode.code : ContactMode → Nat
  | .follow => 0
  | .latch => 1

def Sense.code : Sense → Nat
  | .energiseOnAlarm => 0
  | .deenergiseOnAlarm => 1

def ContactState.code : ContactState → Nat
  | .open => 0
  | .closed => 1
  | .closedActive => 2
  | .closedHeld => 3
  | .closedAcked => 4

def LampState.code : LampState → Nat
  | .off => 0
  | .steady => 1
  | .flashing => 2
  | .test => 3

def PanelState.code : PanelState → Nat
  | .idle => 0
  | .pressed => 1
  | .test => 2
  | .testEnded => 3
  | .ignored => 4

def CloseCause.code : CloseCause → Nat
  | .quiet => 0
  | .forced => 1

def CaptureCause.code : CaptureCause → Nat
  | .level => 0
  | .request => 1

def CaptureState.code : CaptureState → Nat
  | .filling => 0
  | .suspended => 1
  | .done => 2

def PpsState.code : PpsState → Nat
  | .unused => 0
  | .tracking => 1
  | .lost => 2

def ResetCause.code : ResetCause → Nat
  | .powerOn => 0
  | .pin => 1
  | .restart => 2

def SettingsSource.code : SettingsSource → Nat
  | .stored => 0
  | .default => 1

def Violation.code : Violation → Nat
  | .thresholds => 0
  | .breakpoints => 1
  | .thermal => 2

def Mains.code : Mains → Nat
  | .hz50 => 50
  | .hz60 => 60

/-- One byte of a small code. -/
def byteOf (n : Nat) : Byte := BitVec.ofNat 8 n

/-! ### Stamps and transition records -/

/-- A time stamp is six bytes: day, second of day, tenth. -/
def Stamp.bytes (t : Stamp) : List Byte := beBytes 2 t.day ++ beBytes 3 t.second ++ beBytes 1 t.tenth

/-- An optional stamp: absent, it is sent as 0. -/
def optStamp (t : Option Stamp) : List Byte := (t.getD ⟨0, 0, 0⟩).bytes

/-- A transition record, sixteen bytes. -/
def Transition.bytes (t : Transition) : List Byte :=
  t.stamp.bytes
    ++ [match t.source with | some i => byteOf i.val | none => 0xFF]
    ++ beBytes 1 t.kind.code
    ++ beBytes 1 (packBits [t.levels.isSome, t.x.isSome, t.t.isSome, t.detail.isSome, t.suppressed])
    ++ beBytes 1 (match t.levels with | some l => l.1.rank * 16 + l.2.rank | none => 0)
    ++ beBytes 2 (t.x.getD 0) ++ beBytes 2 (t.t.getD 0) ++ beBytes 2 (t.detail.getD 0)

/-! ### Settings -/

/-- The 80-byte settings record. -/
def Settings.bytes (c : Settings) : List Byte :=
  [flagByte c.enabled] ++ beBytes 2 c.gain ++ beInt 2 c.offsetSet ++ [flagByte c.learning]
    ++ beBytes 2 c.iWatch ++ beBytes 2 c.iWarn ++ beBytes 2 c.iAlarm ++ beBytes 2 c.hyst
    ++ beBytes 2 c.dWatch ++ beBytes 2 c.dWarn ++ beBytes 2 c.dAlarm ++ beBytes 2 c.dFall
    ++ c.breakpoints.toList.flatMap (fun b => beBytes 2 b.x ++ beBytes 2 b.r)
    ++ beBytes 2 c.tauHeat ++ beBytes 2 c.tauCool
    ++ beBytes 2 c.tWarn ++ beBytes 2 c.tAlarm ++ beBytes 2 c.tHys
    ++ beBytes 1 c.checkMode.code ++ beInt 2 c.coefA ++ beInt 2 c.coefB
    ++ beBytes 2 c.wAbs ++ beBytes 1 c.wPct ++ beBytes 2 c.doubtD ++ beBytes 2 c.reminder
    ++ [flagByte c.latched] ++ beBytes 1 c.captureLevel.code ++ beBytes 1 c.capturePre ++ beBytes 1 c.capturePost

/-- Bytes 0 to 14 of the device record, which Write Device Settings carries. -/
def DeviceSettings.writtenBytes (d : DeviceSettings) : List Byte :=
  beBytes 1 d.mains.code ++ d.fill.toList.map (fun m => byteOf m.code) ++ beBytes 1 d.debounce ++ beBytes 3 d.quietTime
    ++ beBytes 2 d.eStart ++ beBytes 2 d.linkSilence ++ [flagByte d.panelLock, flagByte d.ppsUse]

/-- The 16-byte device record. -/
def DeviceSettings.bytes (d : DeviceSettings) : List Byte := d.writtenBytes ++ [d.noticeMask.setWidth 8]

/-- The 7-byte map record. -/
def ContactMap.bytes (m : ContactMap) : List Byte :=
  beBytes 2 m.transformers.toNat ++ beBytes 1 m.minLevel.rank ++ [m.sources.setWidth 8] ++ beBytes 1 m.mode.code
    ++ beBytes 1 m.sense.code ++ [flagByte m.testEnable]

/-- The ground response table as Read Ground Response returns it. -/
def tapBytes (taps : List Int) : List Byte := beBytes 1 taps.length ++ taps.flatMap (beInt 2)

/-! ### Live part -/

/-- The 29-byte live record. -/
def Live.bytes (l : Live) : List Byte :=
  beBytes 1 (packBits [l.measured.isSome, l.predicted.isSome, l.basis.isSome])
    ++ beBytes 1 (packBits [l.offsetFault, l.doubt, l.lost, l.unacknowledged, l.suppressed])
    ++ beBytes 1 l.service.code ++ beBytes 1 l.level.rank
    ++ beInt 2 ((l.measured.map Measured.m).getD 0) ++ beBytes 1 ((l.measured.map fun m => m.quality.rank).getD 0)
    ++ beInt 2 l.offsetEff ++ beBytes 2 l.age ++ beInt 2 (l.predicted.getD 0) ++ beBytes 2 (l.basis.getD 0)
    ++ beBytes 2 l.outsideRun ++ beBytes 2 l.insideRun ++ beBytes 2 l.heat ++ beBytes 2 l.steady
    ++ beBytes 2 l.riseAge ++ beBytes 2 l.calmAge ++ beBytes 2 l.reminderCount

/-! ### Field -/

/-- A rate history entry. -/
def RateEntry.bytes (e : RateEntry) : List Byte :=
  beInt 2 e.dN ++ beInt 2 e.dE ++ beBytes 1 (packBits [e.gap, e.clamp])

/-- Entries of positions 0 to L − 1 that carry a mark, L being the L used; 0 while it is absent (R70). -/
def FieldEstimator.marked (mark : RateEntry → Bool) (f : FieldEstimator) : Nat :=
  match f.latest.formed with
  | none => 0
  | some l => ((f.history.toList.take l.1).filter mark).length

/-- The body of a Read Field reply (R70). -/
def State.fieldBody (first count : Nat) (s : State) : List Byte :=
  let f := s.field
  let e := f.latest
  beInt 2 e.north ++ beInt 2 e.east ++ beBytes 1 e.quality.code ++ [flagByte e.saturated]
    ++ beBytes 1 ((e.formed.map Prod.fst).getD 0) ++ optStamp (e.formed.map Prod.snd) ++ beBytes 2 f.age
    ++ beBytes 1 (f.marked RateEntry.gap) ++ beBytes 1 (f.marked RateEntry.clamp)
    ++ beInt 3 ((f.lastMeans.map FieldMeans.north).getD 0) ++ beInt 3 ((f.lastMeans.map FieldMeans.east).getD 0)
    ++ optStamp (f.lastMeans.map FieldMeans.stamp) ++ [flagByte f.linked]
    ++ beBytes 1 (s.converter fieldConverter).state.code
    ++ beBytes 1 (packBits [e.formed.isSome, f.lastMeans.isSome]) ++ beBytes 1 count
    ++ ((f.history.toList.drop first).take count).flatMap RateEntry.bytes

/-! ### Episodes -/

/-- The body of a Read Episode reply naming episode `e` (R135). -/
def State.episodeBody (e : Episode) (s : State) : List Byte :=
  let t := s.tracker
  let held := (t.openEpisode.toList ++ t.history).map Episode.number
  beBytes 1 (if t.openEpisode.isSome then 1 else 0) ++ beBytes 3 t.quietTimer ++ beBytes 2 t.nextNumber
    ++ beBytes 1 held.length ++ [flagByte t.openEpisode.isSome] ++ held.flatMap (beBytes 2)
    ++ beBytes 2 e.number ++ e.start.bytes ++ optStamp (e.closed.map Prod.fst)
    ++ beBytes 1 ((e.closed.map fun c => c.2.code).getD 0)
    ++ beBytes 2 ((e.maxE.map Prod.fst).getD 0) ++ optStamp (e.maxE.map Prod.snd)
    ++ beBytes 1 (packBits [e.closed.isSome, e.maxE.isSome])
    ++ e.entries.toList.flatMap (fun n => beBytes 1 n.highest.rank)

/-- The body of a Read Episode Entry reply (R136). -/
def Episode.entryBody (i : Fin 16) (e : Episode) : List Byte :=
  let n := e.entries[i]
  beBytes 2 e.number ++ [flagByte e.closed.isNone] ++ beBytes 1 (packBits [n.peak.isSome])
    ++ beBytes 2 ((n.peak.map Prod.fst).getD 0) ++ optStamp (n.peak.map Prod.snd) ++ beBytes 1 n.highest.rank
    ++ beBytes 4 n.charge ++ beBytes 2 n.maxT

/-! ### Captures -/

/-- A capture record of List Captures, 24 bytes. -/
def CaptureRecord.bytes (r : CaptureRecord) : List Byte :=
  beBytes 1 r.number ++ beBytes 1 r.channel.val ++ beBytes 1 r.cause.code ++ r.stamp.bytes ++ beBytes 1 r.state.code
    ++ beBytes 1 (packBits [r.startDelay.isSome, r.gap.isSome, r.truncated]) ++ beBytes 2 (r.startDelay.getD 0)
    ++ beBytes 1 r.preCount ++ beBytes 1 r.postTarget ++ beBytes 1 r.postStored ++ beBytes 2 r.firstSlot
    ++ beBytes 2 r.length ++ beBytes 1 ((r.gap.map Prod.fst).getD 0) ++ beBytes 2 ((r.gap.map Prod.snd).getD 0)
    ++ beBytes 1 r.extensions

/-- A pending entry of List Captures, 11 bytes. -/
def PendingEntry.bytes (e : PendingEntry) : List Byte :=
  beBytes 1 e.channel.val ++ beBytes 1 e.cause.code ++ e.stamp.bytes ++ beBytes 1 e.pre ++ beBytes 1 e.post
    ++ beBytes 1 e.wait

/-- Free slots, write position and next number, with which both parts of List Captures begin (R151). -/
def CaptureUnit.headBytes (c : CaptureUnit) : List Byte :=
  beBytes 2 c.freeSlots ++ beBytes 2 c.writePos ++ beBytes 1 c.nextNumber

def CaptureUnit.listBytes (c : CaptureUnit) : List Byte :=
  c.headBytes ++ beBytes 1 c.records.length ++ c.records.flatMap CaptureRecord.bytes

def CaptureUnit.pendingBytes (c : CaptureUnit) : List Byte :=
  c.headBytes ++ beBytes 1 c.waiting.length ++ (servingOrder c.waiting).flatMap PendingEntry.bytes

/-- The body of a Read Capture Samples reply (R152). -/
def CaptureUnit.sampleBytes (c : CaptureUnit) (r : CaptureRecord) (offset count : Nat) : List Byte :=
  beBytes 1 r.number ++ beBytes 1 r.state.code ++ beBytes 2 r.length ++ [flagByte r.gap.isSome]
    ++ beBytes 1 ((r.gap.map Prod.fst).getD 0) ++ beBytes 2 ((r.gap.map Prod.snd).getD 0) ++ beBytes 1 count
    ++ (readCodes c.memory (r.firstSlot + offset) count).flatMap (beInt 2)

/-! ### Intake, contacts, time, identity -/

/-- One converter of Read Intake Status (R33): the reference sequence is sent as 0 while absent. -/
def Converter.bytes (c : Converter) : List Byte :=
  beBytes 1 c.state.code ++ [c.state.ref?.getD 0] ++ beBytes 1 (packBits [c.state.ref?.isSome, c.overrun, c.resyncSeen])

/-- The body of a Read Intake Status reply (R33). -/
def Intake.bytes (v : Intake) : List Byte :=
  v.converters.toList.flatMap Converter.bytes ++ beBytes 1 v.fifo.length ++ [flagByte v.crcSeen]

/-- The body of a Read Contact Map reply (R167). -/
def State.contactBody (k : Fin 4) (s : State) : List Byte :=
  let c := s.driver.contacts[k]
  let map := s.cfg.maps[k]
  map.bytes ++ beBytes 1 c.state.code
    ++ beBytes 1 (packBits [s.sourceOf map, outputInAlarm s.driver.panel map c.state, c.driver, s.driver.linkSilent,
        s.driver.linkTimer.isNone])
    ++ beBytes 1 s.driver.lamp.code ++ beBytes 1 s.driver.panel.code ++ beBytes 2 (s.driver.linkTimer.getD 0)

/-- The body of a Read Clock reply (R178). -/
def State.clockBody (s : State) : List Byte :=
  s.time.now.bytes ++ [flagByte s.time.pendingSet.isSome] ++ beBytes 2 ((s.time.pendingSet.map Prod.fst).getD 0)
    ++ beBytes 3 ((s.time.pendingSet.map Prod.snd).getD 0) ++ [flagByte s.cfg.device.ppsUse] ++ beBytes 1 s.time.pps.code

/-- The body of an Identify reply (R183). -/
def State.identityBody (s : State) : List Byte :=
  beBytes 2 Config.vendorCode ++ beBytes 2 Config.partCode ++ beBytes 1 Config.revision ++ beBytes 1 s.cause.code
    ++ beBytes 1 s.source.code ++ [flagByte s.inputs.lock.debounced]

/-- The body of a Fetch Transitions reply (R174). -/
def transitionsBody (taken left : List Transition) : List Byte :=
  beBytes 1 taken.length ++ beBytes 1 left.length ++ taken.flatMap Transition.bytes

end Sys2Proof.Machine
end

