-- ==== Sys2Proof/Machine/Operands.lean ====
section
/-! DEFINITION. The operands of requests: how each request body is read (R184) and brought within range (R2, R166,
R179). A field counts as clamped exactly when the record taken differs from the record sent. -/

namespace Sys2Proof.Machine

/-- An enumerated code outside its defined set takes the highest defined value (R2, R166). -/
def checkModeOf (code : Nat) : CheckMode := if code = 0 then .off else if code = 1 then .report else .guard

def captureLevelOf (code : Nat) : CaptureLevel := if code = 0 then .none else if code = 1 then .warn else .alarm

/-- A minimum level other than WATCH and WARN is ALARM (R166). -/
def minLevelOf (code : Nat) : Level := if code = 1 then .watch else if code = 2 then .warn else .alarm

def contactModeOf (code : Nat) : ContactMode := if code = 0 then .follow else .latch

def senseOf (code : Nat) : Sense := if code = 0 then .energiseOnAlarm else .deenergiseOnAlarm

/-- A mains code other than 50 or 60 becomes 60 (R179). -/
def mainsOf (code : Nat) : Mains := if code = 50 then .hz50 else .hz60

/-- A fill-mode code that names neither mode becomes ZERO (R179). -/
def fillModeOf (code : Nat) : FillMode := if code = 0 then .hold else .zero

/-- Any nonzero code is yes (R184). -/
def yesOf (code : Nat) : Bool := code != 0

/-- Reminder R: 0, or 60 to 3600; 1 to 59 becomes 60 (R2). -/
def reminderOf (r : Nat) : Nat := if r = 0 then 0 else clampNat 60 3600 r

/-- Link silence: 0, or 10 to 3600; 1 to 9 becomes 10 (R179). -/
def linkSilenceOf (n : Nat) : Nat := if n = 0 then 0 else clampNat 10 3600 n

/-- The settings part of an 80-byte record, every field within its range (R2, step 4). -/
def settingsOf (b : List Byte) : Settings where
  enabled := yesOf (u8 b 0)
  gain := clampNat 1 65535 (u16 b 1)
  offsetSet := clampInt (-2047) 2047 (s16 b 3)
  learning := yesOf (u8 b 5)
  iWatch := clampNat 1 30000 (u16 b 6)
  iWarn := clampNat 1 30000 (u16 b 8)
  iAlarm := clampNat 1 30000 (u16 b 10)
  hyst := clampNat 0 5000 (u16 b 12)
  dWatch := clampNat 0 600 (u16 b 14)
  dWarn := clampNat 0 600 (u16 b 16)
  dAlarm := clampNat 0 600 (u16 b 18)
  dFall := clampNat 0 3600 (u16 b 20)
  breakpoints := Vector.ofFn fun k : Fin 8 => ⟨clampNat 1 30000 (u16 b (22 + 4 * k.val)), clampNat 0 20000 (u16 b (24 + 4 * k.val))⟩
  tauHeat := clampNat 10 7200 (u16 b 54)
  tauCool := clampNat 10 7200 (u16 b 56)
  tWarn := clampNat 1 20000 (u16 b 58)
  tAlarm := clampNat 1 20000 (u16 b 60)
  tHys := clampNat 0 2000 (u16 b 62)
  checkMode := checkModeOf (u8 b 64)
  coefA := s16 b 65
  coefB := s16 b 67
  wAbs := clampNat 1 30000 (u16 b 69)
  wPct := clampNat 0 100 (u8 b 71)
  doubtD := clampNat 1 3600 (u16 b 72)
  reminder := reminderOf (u16 b 74)
  latched := yesOf (u8 b 76)
  captureLevel := captureLevelOf (u8 b 77)
  capturePre := clampNat 0 4 (u8 b 78)
  capturePost := clampNat 1 250 (u8 b 79)

/-- Thresholds in order (R1). -/
def Settings.thresholdsOk (c : Settings) : Bool := c.iWatch < c.iWarn && c.iWarn < c.iAlarm

/-- x strictly increasing and r non-decreasing along a list of breakpoints (R1). -/
def pointsOk : List Breakpoint → Bool
  | a :: b :: rest => a.x < b.x && a.r ≤ b.r && pointsOk (b :: rest)
  | _ => true

/-- Thermal thresholds in order (R1). -/
def Settings.thermalOk (c : Settings) : Bool := c.tWarn < c.tAlarm

/-- The first order that a record breaks (R2, step 5). -/
def Settings.violation (c : Settings) : Option Violation :=
  if !c.thresholdsOk then some .thresholds
  else if !pointsOk c.breakpoints.toList then some .breakpoints
  else if !c.thermalOk then some .thermal
  else none

/-- The device settings of bytes 0 to 14 of a device record, within range, with the mask that stands (R179). -/
def deviceOf (b : List Byte) (mask : CategorySet) : DeviceSettings where
  mains := mainsOf (u8 b 0)
  fill := Vector.ofFn fun c : Fin 4 => fillModeOf (u8 b (1 + c.val))
  debounce := clampNat 4 250 (u8 b 5)
  quietTime := clampNat 60 86400 (u24 b 6)
  eStart := clampNat 1 32767 (u16 b 9)
  linkSilence := linkSilenceOf (u16 b 11)
  panelLock := yesOf (u8 b 13)
  ppsUse := yesOf (u8 b 14)
  noticeMask := mask

/-- The contact map of a 7-byte map record (R166, step 4). -/
def mapOf (b : List Byte) : ContactMap where
  transformers := BitVec.ofNat 16 (u16 b 0)
  minLevel := minLevelOf (u8 b 2)
  sources := BitVec.ofNat 5 (u8 b 3)
  mode := contactModeOf (u8 b 4)
  sense := senseOf (u8 b 5)
  testEnable := yesOf (u8 b 6)

/-- A transformer number that names a record (R12). -/
def transformerOf (n : Nat) : Option (Fin 16) := if h : n < 16 then some ⟨n, h⟩ else none

/-- A contact number 1 to 4 (R166). -/
def contactOf (n : Nat) : Option (Fin 4) := if h : 1 ≤ n ∧ n ≤ 4 then some ⟨n - 1, by omega⟩ else none

/-- A converter number 0 to 4 (R30). -/
def converterNumber (n : Nat) : Option (Fin 5) := if h : n < 5 then some ⟨n, h⟩ else none

/-- OK, or CLAMPED when something was brought within range. -/
def okOr (clamped : Bool) : Status := if clamped then .clamped else .ok

/-- The taps of a Load Ground Response body, in order (R68). -/
def tapsOf (b : List Byte) (n : Nat) : List Int := (List.range n).map fun j => s16 b (1 + 2 * j)

end Sys2Proof.Machine
end

