-- ==== Sys2Proof/Machine/RequestOps.lean ====
section
/-! DEFINITION. Taking a request and forming its reply (R169, R170, R182), the request buffer, and the handler of each
request kind. A handler is what the kind's own rule says once the kind and the body's length are right. -/

namespace Sys2Proof.Machine

/-! ### Frames and the buffer -/

/-- KIND of a reply (R169): KIND + 0x80 below 0x80, and KIND itself otherwise. -/
def replyKind (kind : Byte) : Byte := if kind.toNat < 0x80 then kind + 0x80 else kind

/-- A reply frame (R169, R184): SYN, LEN, KIND, TAG, status, body, and the CRC-8 over LEN to the last body byte. -/
def replyFrame (r : Request) (status : Status) (body : List Byte) : List Byte :=
  let counted := byteOf (body.length + 3) :: replyKind r.kind :: r.tag :: status.code :: body
  Config.hostSyn :: (counted ++ [crc8 counted])

/-- The reply is formed and its sending begins (R169). -/
def State.answer (r : Request) (status : Status) (body : List Byte) (s : State) : State :=
  s.setLink { s.link with sending := some (replyFrame r status body) }

/-- The request that can be taken now: the head of the buffer while no reply is being sent (R169), unless the reset
after a second Restart is due, with which it is lost (R182). -/
def State.takeable (s : State) : Option Request :=
  if s.link.sending.isNone && s.link.restart != .due then s.link.buffer.head? else none

/-- Any request but a Restart disarms an armed restart (R182). -/
def disarmed (v : RestartState) : RestartState :=
  match v with
  | .due => .due
  | _ => .disarmed

def State.disarm (s : State) : State := s.setLink { s.link with restart := disarmed s.link.restart }

/-- A valid request frame is offered to the buffer: it joins, or is discarded at a full buffer, which disarms the restart
(R169, R182). -/
def State.offerRequest (r : Request) (s : State) : State :=
  if s.link.buffer.length < Config.bufferDepth then s.setLink { s.link with buffer := s.link.buffer ++ [r] }
  else s.disarm

/-- Valid request frames, each reported for link silence and then offered to the buffer (R168). -/
def State.requestsIn (rs : List Request) (s : State) : State := rs.foldl (fun u r => u.linkHeard.offerRequest r) s

/-- Bytes received on HRX (R168). -/
def State.hostBytes (bytes : List Byte) (s : State) : State :=
  let r := receiveHost s.link.line bytes
  State.requestsIn r.1 (s.setLink { s.link with line := r.2 })

/-- A gap or a damaged byte abandons the frame being assembled (R168). -/
def State.hostAbandon (s : State) : State := s.setLink { s.link with line := [] }

/-- The last byte of the reply is sent: its request frame leaves the buffer (R169). -/
def State.replySentOut (s : State) : State :=
  if s.link.sending.isSome then s.setLink { s.link with sending := none, buffer := s.link.buffer.tail } else s

/-! ### Request kinds -/

/-- Body length of each request kind (R184); Load Ground Response has none of its own (R68). -/
def bodyLength (kind : Nat) : Option Nat :=
  match kind with
  | 0x03 => some 6
  | 0x05 => some 15
  | 0x06 | 0x08 | 0x0A => some 1
  | 0x07 => some 81
  | 0x0B | 0x0C => some 3
  | 0x0D => none
  | 0x0F => some 2
  | 0x10 => some 1
  | 0x11 => some 8
  | 0x13 => some 2
  | 0x15 => some 2
  | 0x16 => some 3
  | 0x18 => some 3
  | 0x19 => some 2
  | 0x1A => some 1
  | 0x1B => some 4
  | 0x1C => some 1
  | 0x1E => some 1
  | _ => some 0

/-- The kinds that name a request (R184): 0x01 to 0x20. -/
def knownKind (kind : Byte) : Bool := 0x01 ≤ kind.toNat && kind.toNat ≤ 0x20

/-- The body fits the kind (R170, step 2). -/
def lengthOk (r : Request) : Bool :=
  match bodyLength r.kind.toNat with
  | some n => r.body.length == n
  | none => true

/-- A request of kind `kind` is taken (R169, R170): it disarms the restart; a body of another length is answered
BAD_LENGTH; else the kind's rule replies. Where no request of this kind can be taken, nothing happens. -/
def State.serveRequest (kind : Byte) (handler : Request → State → State) (s : State) : State :=
  match s.takeable with
  | none => s
  | some r =>
    if r.kind = kind then
      if lengthOk r then handler r s.disarm else s.disarm.answer r .badLength []
    else s

/-- A request whose KIND names no request kind (R170). -/
def State.serveUnknown (s : State) : State :=
  match s.takeable with
  | none => s
  | some r => if knownKind r.kind then s else s.disarm.answer r .unknownKind []

/-- The settings LOCK input is asserted (debounced) (R170). -/
def State.lockAsserted (s : State) : Bool := s.inputs.lock.debounced

/-- A Save Settings is in progress (R180). -/
def State.saving (s : State) : Bool := s.store.save.isSome

/-- LOCKED is checked before BUSY (R170); `none` where neither refuses. -/
def State.settingsBar (s : State) : Option Status :=
  if s.lockAsserted then some .locked else if s.saving then some .busy else none

/-! ### Identity and time -/

/-- Identify (R183). -/
def handleIdentify (r : Request) (s : State) : State := s.answer r .ok s.identityBody

/-- Read Clock (R178). -/
def handleReadClock (r : Request) (s : State) : State := s.answer r .ok s.clockBody

/-- Set Clock (R177): at once with CLOCK_SET, or staged while TRACKING. -/
def handleSetClock (r : Request) (s : State) : State :=
  let second := min 86399 (u24 r.body 2)
  let tenth := min 9 (u8 r.body 5)
  let status := okOr (second != u24 r.body 2 || tenth != u8 r.body 5)
  match s.time.pps with
  | .tracking =>
    (s.setTime { s.time with pendingSet := some (u16 r.body 0, second) }).answer r status [flagByte true]
  | _ =>
    let now : Stamp := ⟨u16 r.body 0, second, tenth⟩
    ((s.setTime { s.time with now := now }).emitDevice .clockSet none now).answer r status [flagByte false]

/-! ### Device settings -/

/-- Read Device Settings (R179). -/
def handleReadDevice (r : Request) (s : State) : State := s.answer r .ok s.cfg.device.bytes

/-- Replace the device settings in use. -/
def State.setDevice (d : DeviceSettings) (s : State) : State := { s with cfg := { s.cfg with device := d } }

/-- Run an operation only when something changed. -/
def State.whenChanged (changed : Bool) (f : State → State) (s : State) : State := if changed then f s else s

/-- The effects of a taken device record, field by field in the order of R179's table; a field written with the value
it holds starts none (R46, R6, R162, R165, R176). -/
def State.deviceEffects (before after : DeviceSettings) (now : Nat) (s : State) : State :=
  ((((s.whenChanged (before.mains != after.mains) (State.abandon fun _ => true)).whenChanged
    (before.debounce != after.debounce) (State.debounceWritten now)).whenChanged
    (before.linkSilence != after.linkSilence) State.linkSilenceWritten).whenChanged
    (!before.panelLock && after.panelLock) State.panelLocked).whenChanged
    (before.ppsUse != after.ppsUse) (State.ppsUseWritten after.ppsUse)

/-- Write Device Settings (R179). -/
def handleWriteDevice (now : Nat) (r : Request) (s : State) : State :=
  match s.settingsBar with
  | some status => s.answer r status s.cfg.device.bytes
  | none =>
    let d := deviceOf r.body s.cfg.device.noticeMask
    ((s.setDevice d).deviceEffects s.cfg.device d now).answer r (okOr (d.writtenBytes != r.body)) d.bytes

/-! ### Transformers -/

/-- Run a handler on the transformer a number names; NOT_FOUND with the status alone where it names none (R12). -/
def State.withTransformer (n : Nat) (r : Request) (f : Fin 16 → State → State) (s : State) : State :=
  match transformerOf n with
  | none => s.answer r .notFound []
  | some i => f i s

/-- Read Transformer Settings (R12). -/
def handleReadSettings (r : Request) (s : State) : State :=
  s.withTransformer (u8 r.body 0) r fun i u => u.answer r .ok u.cfg.transformers[i].bytes

/-- The settings record that a reply for transformer number `n` carries (R2). -/
def State.settingsRecord (n : Nat) (s : State) : List Byte :=
  match transformerOf n with
  | none => []
  | some i => s.cfg.transformers[i].bytes

/-- Replace a stored settings part. -/
def State.setSettings (i : Fin 16) (c : Settings) (s : State) : State :=
  { s with cfg := { s.cfg with transformers := s.cfg.transformers.set i c } }

/-- A write whose O_set differs sets O_eff and clears OFFSET_FAULT (R3). -/
def State.offsetWritten (i : Fin 16) (after : Settings) (s : State) : State :=
  s.setLive i { s.live[i] with offsetEff := after.offsetSet, offsetFault := false }

/-- What a taken settings part changes at once (R3, R7 to R9). -/
def State.settingsEffects (i : Fin 16) (before after : Settings) (s : State) : State :=
  (((s.whenChanged (before.offsetSet != after.offsetSet) (State.offsetWritten i after)).whenChanged
    (before.learning && !after.learning) (State.clearLearning i)).whenChanged
    (before.enabled && !after.enabled) (State.disableTransformer i)).whenChanged
    (!before.enabled && after.enabled) (State.enableTransformer i)

/-- Write Transformer Settings once it may be applied (R2, steps 4 to 6). -/
def State.writeSettings (i : Fin 16) (r : Request) (s : State) : State :=
  let sent := r.body.drop 1
  let c := settingsOf sent
  match c.violation with
  | some v => s.answer r .refused (s.cfg.transformers[i].bytes ++ beBytes 1 v.code)
  | none => ((s.setSettings i c).settingsEffects i s.cfg.transformers[i] c).answer r (okOr (c.bytes != sent)) c.bytes

/-- Write Transformer Settings (R2). -/
def handleWriteSettings (r : Request) (s : State) : State :=
  match s.settingsBar with
  | some status => s.answer r status (s.settingsRecord (u8 r.body 0))
  | none => s.withTransformer (u8 r.body 0) r fun i u => u.writeSettings i r

/-- Read Live (R12). -/
def handleReadLive (r : Request) (s : State) : State :=
  s.withTransformer (u8 r.body 0) r fun i u => u.answer r .ok (u.time.now.bytes ++ u.live[i].bytes)

/-- Snapshot (R13). -/
def handleSnapshot (r : Request) (s : State) : State :=
  State.answer r .ok s.time.now.bytes { s with snapshots := some ⟨s.time.now, s.live⟩ }

/-- Read Snapshot (R14): an empty set answers NOT_FOUND whatever the number. -/
def handleReadSnapshot (r : Request) (s : State) : State :=
  match s.snapshots with
  | none => s.answer r .notFound []
  | some p => s.withTransformer (u8 r.body 0) r fun i u => u.answer r .ok (p.stamp.bytes ++ p.copies[i].bytes)

/-- The transformers for which `p` holds, as a set. -/
def setOfAll (p : Fin 16 → Bool) : TransformerSet :=
  BitVec.ofNat 16 (packBits (allSixteen.map p))

/-- Acknowledge (R113, R160). -/
def handleAcknowledge (r : Request) (s : State) : State :=
  let named : TransformerSet := BitVec.ofNat 16 (u16 r.body 0)
  let owed := setOfAll fun i => named.getLsbD i && s.live[i].unacknowledged
  ((s.acknowledgeTransformers named).whenChanged (yesOf (u8 r.body 2)) State.acknowledgeContacts).answer r .ok
    (beBytes 2 owed.toNat)

/-- Set or clear suppressed for the transformers named (R117). -/
def State.suppressTransformers (named : TransformerSet) (value : Bool) (s : State) : State :=
  let next : State :=
    { s with
      live := Vector.ofFn fun i => if named.getLsbD i then { s.live[i] with suppressed := value } else s.live[i] }
  next.reportChanged fun i => named.getLsbD i && s.live[i].suppressed != value

/-- Suppress (R117): LOCKED while LOCK is asserted; an unknown action code is taken as SET. -/
def handleSuppress (r : Request) (s : State) : State :=
  if s.lockAsserted then s.answer r .locked []
  else
    let next := s.suppressTransformers (BitVec.ofNat 16 (u16 r.body 0)) (u8 r.body 2 != 1)
    next.answer r .ok (beBytes 2 (setOfAll fun i => next.live[i].suppressed).toNat)

/-! ### Field -/

/-- Load Ground Response (R68). -/
def handleLoadResponse (r : Request) (s : State) : State :=
  match s.settingsBar with
  | some status => s.answer r status []
  | none =>
    let n := u8 r.body 0
    if r.body = [] ∨ n = 0 ∨ 64 < n ∨ r.body.length ≠ 1 + 2 * n then s.answer r .badLength []
    else State.answer r .ok [] { s with cfg := { s.cfg with taps := tapsOf r.body n } }

/-- Read Ground Response (R69). -/
def handleReadResponse (r : Request) (s : State) : State := s.answer r .ok (tapBytes s.cfg.taps)

/-- Entries of a Read Field reply (R70): at most 32, and none beyond the 64th position. -/
def fieldCount (first count : Nat) : Nat := min count (min 32 (64 - first))

/-- Read Field (R70). -/
def handleReadField (r : Request) (s : State) : State :=
  let first := u8 r.body 0
  let count := u8 r.body 1
  if 63 < first then s.answer r .notFound []
  else s.answer r (okOr (fieldCount first count != count)) (s.fieldBody first (fieldCount first count))

/-! ### Contacts -/

/-- Read Contact Map (R167). -/
def handleReadMap (r : Request) (s : State) : State :=
  match contactOf (u8 r.body 0) with
  | none => s.answer r .notFound []
  | some k => s.answer r .ok (s.contactBody k)

/-- The map record that a reply for contact number `n` carries (R166). -/
def State.mapRecord (n : Nat) (s : State) : List Byte :=
  match contactOf n with
  | none => []
  | some k => s.cfg.maps[k].bytes

/-- A contact whose map is replaced (R166): with its mode unchanged it keeps its state and is judged again; with
another mode it begins from its source. -/
def rejudged (before after : ContactMode) (source : Bool) (st : ContactState) : ContactState :=
  if before = after then judgedState after source st
  else
    match after with
    | .follow => followJudged source
    | .latch => if source then .closedActive else .open

/-- A stored map takes effect (R166). -/
def State.mapWritten (k : Fin 4) (map : ContactMap) (s : State) : State :=
  let stored : State := { s with cfg := { s.cfg with maps := s.cfg.maps.set k map } }
  let source := stored.sourceOf map
  let c := s.driver.contacts[k]
  ((stored.setDriver
    { s.driver with
      contacts := s.driver.contacts.set k
        { c with state := rejudged s.cfg.maps[k].mode map.mode source c.state, source := source } }).driveOutputs).report
          (.map k)

/-- Write Contact Map (R166). -/
def handleWriteMap (r : Request) (s : State) : State :=
  let n := u8 r.body 0
  match s.settingsBar with
  | some status => s.answer r status (s.mapRecord n)
  | none =>
    match contactOf n with
    | none => s.answer r .notFound []
    | some k =>
      let sent := r.body.drop 1
      let map := mapOf sent
      (s.mapWritten k map).answer r (okOr (map.bytes != sent)) map.bytes

/-! ### Notices -/

/-- Fetch Summary (R173). -/
def handleFetchSummary (r : Request) (s : State) : State :=
  let body := [s.link.summary.setWidth 8] ++ beBytes 1 s.link.transitions.length
  (s.setLink { s.link with summary := 0, attn := attnOf 0 s.cfg.device.noticeMask }).answer r .ok body

/-- The notice mask after a change (R173): CLEAR removes, any other action adds. -/
def maskAfter (action : Nat) (named mask : CategorySet) : CategorySet :=
  if action = 1 then mask &&& ~~~named else mask ||| named

/-- Change Notice Mask (R173). -/
def handleChangeMask (r : Request) (s : State) : State :=
  match s.settingsBar with
  | some status => s.answer r status []
  | none =>
    let code := u8 r.body 1
    let mask := maskAfter (u8 r.body 0) (BitVec.ofNat 6 code) s.cfg.device.noticeMask
    let stored := s.setDevice { s.cfg.device with noticeMask := mask }
    (stored.setLink { stored.link with attn := attnOf stored.link.summary mask }).answer r (okOr (64 ≤ code))
      [mask.setWidth 8]

/-- Fetch Transitions (R174): a repeated TAG is answered with the kept reply. -/
def handleFetchTransitions (r : Request) (s : State) : State :=
  match s.link.kept.filter fun k => k.1 == r.tag with
  | some k => s.setLink { s.link with sending := some k.2 }
  | none =>
    let taken := s.link.transitions.take 8
    let left := s.link.transitions.drop 8
    let frame := replyFrame r .ok (transitionsBody taken left)
    s.setLink { s.link with transitions := left, kept := some (r.tag, frame), sending := some frame }

/-! ### Episodes -/

/-- The episode a selector names (R135): 0 is the open one or else the newest closed one. -/
def EpisodeTracker.named (selector : Nat) (t : EpisodeTracker) : Option Episode :=
  if selector = 0 then t.openEpisode.or t.history.getLast?
  else (t.openEpisode.toList ++ t.history).find? fun e => e.number == selector

/-- Read Episode (R135). -/
def handleReadEpisode (r : Request) (s : State) : State :=
  match s.tracker.named (u16 r.body 0) with
  | none => s.answer r .notFound []
  | some e => s.answer r .ok (s.episodeBody e)

/-- Read Episode Entry (R136). -/
def handleReadEntry (r : Request) (s : State) : State :=
  match s.tracker.named (u16 r.body 0), transformerOf (u8 r.body 2) with
  | some e, some i => s.answer r .ok (e.entryBody i)
  | _, _ => s.answer r .notFound []

/-- Close Episode (R132). -/
def handleCloseEpisode (r : Request) (s : State) : State :=
  match s.tracker.openEpisode with
  | none => s.answer r .wrongState []
  | some e => (s.closeEpisodeRecord e s.time.now .forced).answer r .ok (beBytes 2 e.number)

/-! ### Captures -/

/-- Capture Now once its channel may be captured (R149, steps 4 and 5). -/
def State.captureNow (ch : Fin 16) (r : Request) (s : State) : State :=
  let pre := min 4 (u8 r.body 1)
  let post := clampNat 1 250 (u8 r.body 2)
  let clamped := pre != u8 r.body 1 || post != u8 r.body 2
  if (s.capture.entryOf ch).isSome then s.answer r .wrongState []
  else
    match s.capture.activeRecord.filter fun a => a.channel == ch with
    | some a =>
      let target := retriggerTarget a post
      (s.setCapture (s.capture.raiseTarget target)).answer r (okOr (clamped || decide (250 < target)))
        (beBytes 1 1 ++ beBytes 1 a.number)
    | none =>
      let next := s.startOrWait ch .request s.time.now pre post
      if s.capture.activeRecord.isNone && s.capture.hasRoom pre then
        next.answer r (okOr clamped) (beBytes 1 0 ++ beBytes 1 s.capture.nextNumber)
      else next.answer r (okOr clamped) (beBytes 1 2 ++ beBytes 1 0)

/-- Capture Now (R149). -/
def handleCaptureNow (r : Request) (s : State) : State :=
  s.withTransformer (u8 r.body 0) r fun ch u =>
    if u.live[ch].service = .off then u.answer r .wrongState [] else u.captureNow ch r

/-- The record of a number in the capture list. -/
def CaptureUnit.recordOf (n : Nat) (c : CaptureUnit) : Option CaptureRecord := c.records.find? fun r => r.number == n

/-- Extend Capture (R150). -/
def handleExtendCapture (r : Request) (s : State) : State :=
  match s.capture.recordOf (u8 r.body 0) with
  | none => s.answer r .notFound []
  | some a =>
    if a.active then
      let target := a.postTarget + u8 r.body 1
      (s.setCapture (s.capture.raiseTarget target)).answer r (okOr (decide (250 < target)))
        (beBytes 1 (min 250 target) ++ beBytes 1 a.postStored)
    else s.answer r .wrongState []

/-- List Captures (R151). -/
def handleListCaptures (r : Request) (s : State) : State :=
  if u8 r.body 0 = 0 then s.answer r .ok s.capture.listBytes
  else if u8 r.body 0 = 1 then s.answer r .ok s.capture.pendingBytes
  else s.answer r .notFound []

/-- Codes of a Read Capture Samples reply (R152): at most 100, and none beyond the record's length. -/
def sampleCount (length offset count : Nat) : Nat := min (min count 100) (length - offset)

/-- Read Capture Samples (R152). -/
def handleReadSamples (r : Request) (s : State) : State :=
  let offset := u16 r.body 1
  let count := u8 r.body 3
  match (s.capture.recordOf (u8 r.body 0)).filter fun a => decide (offset ≤ a.length) with
  | none => s.answer r .notFound []
  | some a =>
    let n := sampleCount a.length offset count
    s.answer r (okOr (n != count)) (s.capture.sampleBytes a offset n)

/-- A SUSPENDED capture resumes where 32 slots are free (R144, R153). -/
def CaptureUnit.resumed (c : CaptureUnit) : CaptureUnit :=
  if Config.cycleSamples ≤ c.freeSlots then
    c.updateActive fun r => if r.state = .suspended then { r with state := .filling } else r
  else c

/-- A release of the oldest record, which is DONE (R153, steps 1 to 3). -/
def State.releaseOldest (s : State) : State :=
  let next := s.setCapture ({ s.capture with records := s.capture.records.tail } : CaptureUnit).resumed
  if next.capture.activeRecord.isNone then next.serve else next

/-- Release Capture (R153). -/
def handleRelease (r : Request) (s : State) : State :=
  match s.capture.recordOf (u8 r.body 0) with
  | none => s.answer r .notFound []
  | some a =>
    if s.capture.records.head? = some a ∧ a.state = .done then
      let next := s.releaseOldest
      next.answer r .ok (beBytes 2 next.capture.freeSlots)
    else s.answer r .wrongState []

/-! ### Intake -/

/-- The flags of a converter cleared by Read Intake Status (R33). -/
def Converter.flagsCleared (c : Converter) : Converter := { c with overrun := false, resyncSeen := false }

/-- Read Intake Status (R33): all eleven flags are cleared when the reply is formed. -/
def handleReadIntake (r : Request) (s : State) : State :=
  State.answer r .ok s.intake.bytes
    { s with
      intake :=
        { s.intake with
          converters := Vector.ofFn fun c => s.intake.converters[c].flagsCleared
          crcSeen := false } }

/-- Clear Converter Fault (R30). -/
def handleClearFault (r : Request) (s : State) : State :=
  match converterNumber (u8 r.body 0) with
  | none => s.answer r .notFound []
  | some c =>
    match (s.converter c).state with
    | .faulted ref => (s.setConverterState c (.locked ref)).answer r .ok []
    | _ => s.answer r .wrongState []

/-! ### Store and restart -/

/-- Save Settings (R180): a save begins with a copy of the settings as they stand. -/
def handleSave (r : Request) (s : State) : State :=
  match s.settingsBar with
  | some status => s.answer r status []
  | none => State.answer r .ok [] { s with store := { s.store with save := some s.cfg } }

/-- The save's completion (R180): the outcome is decided by the read-back alone. -/
def State.saveEnds (agrees : Bool) (s : State) : State :=
  match s.store.save with
  | none => s
  | some copy =>
    if agrees then
      State.emitDevice .settingsSaved none s.time.now { s with store := ⟨copy, true, none⟩ }
    else
      State.emitDevice .settingsSaveFailed none s.time.now { s with store := { s.store with valid := false, save := none } }

/-- The arming after a Restart is taken (R182). -/
def rearmed (v : RestartState) : RestartState :=
  match v with
  | .disarmed => .armed
  | .armed => .due
  | .due => .due

/-- Restart (R182): taken twice in a row it schedules the reset; BUSY while a save is in progress, which disarms. -/
def State.serveRestart (s : State) : State :=
  match s.takeable with
  | none => s
  | some r =>
    if r.kind = 0x20 then
      if lengthOk r then
        if s.saving then s.disarm.answer r .busy []
        else (s.setLink { s.link with restart := rearmed s.link.restart }).answer r .ok []
      else s.disarm.answer r .badLength []
    else s

end Sys2Proof.Machine
end

