-- ==== Sys2Proof/Machine/Captures.lean ====
section
/-! DEFINITION. The commands of the Capture Unit (chapter 9): the hand-offs it takes, and its requests. -/

namespace Sys2Proof.Machine

/-- LEVEL_TRIGGER (R140): the oldest trigger waiting for channel `ch`. -/
def execLevelTrigger (ch : Fin 16) (s : State) : Host.Outcome State Fault Refusal :=
  match takeFirst (fun t => t.channel == ch) s.handOffs.triggers with
  | none => .next s
  | some (t, rest) => .next ((s.setHandOffs { s.handOffs with triggers := rest }).levelTriggered t)

/-- CAPTURE_DISABLE_REPORT (R148): the oldest disable waiting for channel `ch`. -/
def execCaptureDisableReport (ch : Fin 16) (s : State) : Host.Outcome State Fault Refusal :=
  match takeFirst (fun c => c == ch) s.handOffs.disables with
  | none => .next s
  | some (_, rest) => .next ((s.setHandOffs { s.handOffs with disables := rest }).captureDisabled ch)

/-- CAPTURE_NOW, kind 0x18 (R149). -/
def execCaptureNow (s : State) : Host.Outcome State Fault Refusal :=
  .next (s.serveRequest 0x18 handleCaptureNow)

/-- EXTEND_CAPTURE, kind 0x19 (R150). -/
def execExtendCapture (s : State) : Host.Outcome State Fault Refusal :=
  .next (s.serveRequest 0x19 handleExtendCapture)

/-- LIST_CAPTURES, kind 0x1A (R151). -/
def execListCaptures (s : State) : Host.Outcome State Fault Refusal :=
  .next (s.serveRequest 0x1A handleListCaptures)

/-- READ_CAPTURE_SAMPLES, kind 0x1B (R152). -/
def execReadCaptureSamples (s : State) : Host.Outcome State Fault Refusal :=
  .next (s.serveRequest 0x1B handleReadSamples)

/-- RELEASE_CAPTURE, kind 0x1C (R153). -/
def execReleaseCapture (s : State) : Host.Outcome State Fault Refusal :=
  .next (s.serveRequest 0x1C handleRelease)

end Sys2Proof.Machine
end

