-- ==== Sys2Proof/Machine/Clock.lean ====
section
/-! DEFINITION. The commands of the Time Base (R175, R176) and the clock-second events that the table gives rows of
their own. -/

namespace Sys2Proof.Machine

/-- TENTH_ADVANCE (R175, R176): the tenth advances up to 9. From 9 it passes to 0 by a clock second, a row of its own,
or is held there under pps tracking, where the silence timers run on: at 9 and not TRACKING this row does not come about
(notes/assumptions/7.md, notes/assumptions/9.md). -/
def execTenthAdvance (s : State) : Host.Outcome State Fault Refusal :=
  .next
    (if s.time.now.tenth < 9 then
      s.tenthPasses.setTime { s.time with now := { s.time.now with tenth := s.time.now.tenth + 1 } }
    else if s.time.pps = .tracking then s.tenthPasses
    else s)

/-- CLOCK_SECOND (R175): the tenth passes from 9 to 0. At another tenth the row does not come about, and while TRACKING
the oscillator makes no clock second (R176). -/
def execClockSecond (s : State) : Host.Outcome State Fault Refusal :=
  .next (if s.time.pps = .tracking ∨ s.time.now.tenth ≠ 9 then s else s.oscillatorSecond)

/-- PPS_EDGE (R176). -/
def execPpsEdge (now : Nat) (s : State) : Host.Outcome State Fault Refusal :=
  .next (s.ppsEdgeAt now)

/-- PPS_LOST (R176). -/
def execPpsLost (s : State) : Host.Outcome State Fault Refusal :=
  .next s.ppsFails

/-- FIELD_NONE (R64, R65): the Field Estimator takes the clock second that waits for it. -/
def execFieldNone (s : State) : Host.Outcome State Fault Refusal :=
  .next (if s.handOffs.fieldTick.isSome then s.takeFieldTick.settleClock else s)

/-- EPISODE_QUIET_CLOSE (R129, R125, R134): the Episode Tracker takes the clock second that waits for it, ahead of whatever
else still waits. -/
def execEpisodeQuietClose (s : State) : Host.Outcome State Fault Refusal :=
  .next s.takeTrackerTick

/-- CAPTURE_MISSED (R146): the clock second that ends the wait of channel `ch`'s entry. -/
def execCaptureMissed (ch : Fin 16) (s : State) : Host.Outcome State Fault Refusal :=
  match (s.capture.entryOf ch).bind PendingEntry.expiry with
  | none => .next s
  | some stamp => .next (s.missCapture ch stamp)

/-- LINK_SILENT (R162). -/
def execLinkSilent (s : State) : Host.Outcome State Fault Refusal :=
  .next s.takeLinkTick

end Sys2Proof.Machine
end

