-- ==== Sys2Proof/Machine/HostLink.lean ====
section
/-! DEFINITION. The commands of the host link (R168, R169), the requests of chapters 1 to 8, 10 and 11, and the
Settings Store. Each request row takes the head of the request buffer when that is a request of its kind. -/

namespace Sys2Proof.Machine

/-- REQUEST_FRAME (R168, R169). -/
def execRequestFrame (bytes : List Byte) (s : State) : Host.Outcome State Fault Refusal :=
  .next (s.hostBytes bytes)

/-- HOST_FRAME_GAP (R168): bytes, then more than 10 ms without one. -/
def execHostFrameGap (bytes : List Byte) (s : State) : Host.Outcome State Fault Refusal :=
  .next (s.hostBytes bytes).hostAbandon

/-- HOST_DAMAGED_BYTE (R168): bytes, then one whose stop bit is missing, which abandons a frame in assembly. While
hunting it is passed over, and begins no frame (DESIGN CHOICE: R168 tells only of one during assembly;
notes/assumptions/28.md). -/
def execHostDamagedByte (bytes : List Byte) (s : State) : Host.Outcome State Fault Refusal :=
  .next (s.hostBytes bytes).hostAbandon

/-- HOST_FRAME_DISCARD (R168): bytes, the last of which discards the frame in assembly. -/
def execHostFrameDiscard (bytes : List Byte) (s : State) : Host.Outcome State Fault Refusal :=
  .next (s.hostBytes bytes)

/-- REPLY_SENT (R169). -/
def execReplySent (s : State) : Host.Outcome State Fault Refusal :=
  .next s.replySentOut

/-- UNKNOWN_KIND_REQUEST (R170). -/
def execUnknownKindRequest (s : State) : Host.Outcome State Fault Refusal :=
  .next s.serveUnknown

/-- IDENTIFY, kind 0x01 (R183). -/
def execIdentify (s : State) : Host.Outcome State Fault Refusal :=
  .next (s.serveRequest 0x01 handleIdentify)

/-- READ_CLOCK, kind 0x02 (R178). -/
def execReadClock (s : State) : Host.Outcome State Fault Refusal :=
  .next (s.serveRequest 0x02 handleReadClock)

/-- SET_CLOCK, kind 0x03 (R177). -/
def execSetClock (s : State) : Host.Outcome State Fault Refusal :=
  .next (s.serveRequest 0x03 handleSetClock)

/-- READ_DEVICE_SETTINGS, kind 0x04 (R179). -/
def execReadDeviceSettings (s : State) : Host.Outcome State Fault Refusal :=
  .next (s.serveRequest 0x04 handleReadDevice)

/-- WRITE_DEVICE_SETTINGS, kind 0x05 (R179). -/
def execWriteDeviceSettings (now : Nat) (s : State) : Host.Outcome State Fault Refusal :=
  .next (s.serveRequest 0x05 (handleWriteDevice now))

/-- READ_TRANSFORMER_SETTINGS, kind 0x06 (R12). -/
def execReadTransformerSettings (s : State) : Host.Outcome State Fault Refusal :=
  .next (s.serveRequest 0x06 handleReadSettings)

/-- WRITE_TRANSFORMER_SETTINGS, kind 0x07 (R2). -/
def execWriteTransformerSettings (s : State) : Host.Outcome State Fault Refusal :=
  .next (s.serveRequest 0x07 handleWriteSettings)

/-- READ_LIVE, kind 0x08 (R12). -/
def execReadLive (s : State) : Host.Outcome State Fault Refusal :=
  .next (s.serveRequest 0x08 handleReadLive)

/-- SNAPSHOT, kind 0x09 (R13). -/
def execSnapshot (s : State) : Host.Outcome State Fault Refusal :=
  .next (s.serveRequest 0x09 handleSnapshot)

/-- READ_SNAPSHOT, kind 0x0A (R14). -/
def execReadSnapshot (s : State) : Host.Outcome State Fault Refusal :=
  .next (s.serveRequest 0x0A handleReadSnapshot)

/-- ACKNOWLEDGE, kind 0x0B (R113). -/
def execAcknowledge (s : State) : Host.Outcome State Fault Refusal :=
  .next (s.serveRequest 0x0B handleAcknowledge)

/-- SUPPRESS, kind 0x0C (R117). -/
def execSuppress (s : State) : Host.Outcome State Fault Refusal :=
  .next (s.serveRequest 0x0C handleSuppress)

/-- LOAD_GROUND_RESPONSE, kind 0x0D (R68). -/
def execLoadGroundResponse (s : State) : Host.Outcome State Fault Refusal :=
  .next (s.serveRequest 0x0D handleLoadResponse)

/-- READ_GROUND_RESPONSE, kind 0x0E (R69). -/
def execReadGroundResponse (s : State) : Host.Outcome State Fault Refusal :=
  .next (s.serveRequest 0x0E handleReadResponse)

/-- READ_FIELD, kind 0x0F (R70). -/
def execReadField (s : State) : Host.Outcome State Fault Refusal :=
  .next (s.serveRequest 0x0F handleReadField)

/-- READ_CONTACT_MAP, kind 0x10 (R167). -/
def execReadContactMap (s : State) : Host.Outcome State Fault Refusal :=
  .next (s.serveRequest 0x10 handleReadMap)

/-- WRITE_CONTACT_MAP, kind 0x11 (R166). -/
def execWriteContactMap (s : State) : Host.Outcome State Fault Refusal :=
  .next (s.serveRequest 0x11 handleWriteMap)

/-- FETCH_SUMMARY, kind 0x12 (R173). -/
def execFetchSummary (s : State) : Host.Outcome State Fault Refusal :=
  .next (s.serveRequest 0x12 handleFetchSummary)

/-- CHANGE_NOTICE_MASK, kind 0x13 (R173). -/
def execChangeNoticeMask (s : State) : Host.Outcome State Fault Refusal :=
  .next (s.serveRequest 0x13 handleChangeMask)

/-- FETCH_TRANSITIONS, kind 0x14 (R174). -/
def execFetchTransitions (s : State) : Host.Outcome State Fault Refusal :=
  .next (s.serveRequest 0x14 handleFetchTransitions)

/-- READ_EPISODE, kind 0x15 (R135). -/
def execReadEpisode (s : State) : Host.Outcome State Fault Refusal :=
  .next (s.serveRequest 0x15 handleReadEpisode)

/-- READ_EPISODE_ENTRY, kind 0x16 (R136). -/
def execReadEpisodeEntry (s : State) : Host.Outcome State Fault Refusal :=
  .next (s.serveRequest 0x16 handleReadEntry)

/-- CLOSE_EPISODE, kind 0x17 (R132). -/
def execCloseEpisode (s : State) : Host.Outcome State Fault Refusal :=
  .next (s.serveRequest 0x17 handleCloseEpisode)

/-- READ_INTAKE_STATUS, kind 0x1D (R33). -/
def execReadIntakeStatus (s : State) : Host.Outcome State Fault Refusal :=
  .next (s.serveRequest 0x1D handleReadIntake)

/-- CLEAR_CONVERTER_FAULT, kind 0x1E (R30). -/
def execClearConverterFault (s : State) : Host.Outcome State Fault Refusal :=
  .next (s.serveRequest 0x1E handleClearFault)

/-- SAVE_SETTINGS, kind 0x1F (R180). -/
def execSaveSettings (s : State) : Host.Outcome State Fault Refusal :=
  .next (s.serveRequest 0x1F handleSave)

/-- SAVE_COMPLETION (R180). -/
def execSaveCompletion (agrees : Bool) (s : State) : Host.Outcome State Fault Refusal :=
  .next (s.saveEnds agrees)

/-- RESTART, kind 0x20 (R182). -/
def execRestart (s : State) : Host.Outcome State Fault Refusal :=
  .next s.serveRestart

end Sys2Proof.Machine
end

