-- ==== Sys2Proof/Machine/Inputs.lean ====
section
/-! DEFINITION. The commands of the Status Inputs (R6), the panel (R164, R165) and the Contact Driver (R157). -/

namespace Sys2Proof.Machine

/-- INPUT_LEVEL_CHANGE (R6). -/
def execInputLevelChange (pin : Pin) (level : Bool) (now : Nat) (s : State) : Host.Outcome State Fault Refusal :=
  .next { s with inputs := s.inputs.put pin ((s.inputs.get pin).withRaw level now) }

/-- DEBOUNCE_COMPLETE (R6). -/
def execDebounceComplete (pin : Pin) (s : State) : Host.Outcome State Fault Refusal :=
  .next (s.completeHold pin)

/-- PANEL_PRESS (R164): the oldest panel report, if it tells of a press. -/
def execPanelPress (s : State) : Host.Outcome State Fault Refusal :=
  match s.handOffs.panelReports with
  | true :: rest => .next (s.setHandOffs { s.handOffs with panelReports := rest }).panelPressed
  | _ => .next s

/-- PANEL_RELEASE (R164): the oldest panel report, if it tells of a release. -/
def execPanelRelease (s : State) : Host.Outcome State Fault Refusal :=
  match s.handOffs.panelReports with
  | false :: rest => .next (s.setHandOffs { s.handOffs with panelReports := rest }).panelReleased
  | _ => .next s

/-- PANEL_TEST_START (R164, R165): the panel timer reaches 4 s in PRESSED. -/
def execPanelTestStart (s : State) : Host.Outcome State Fault Refusal :=
  .next (if s.driver.panel = .pressed then s.setPanel .test true else s)

/-- PANEL_TEST_TIMEOUT (R164, R165): the panel timer reaches 30 s in TEST. -/
def execPanelTestTimeout (s : State) : Host.Outcome State Fault Refusal :=
  .next (if s.driver.panel = .test then s.setPanel .testEnded false else s)

/-- CONTACT_REPORT (R157): the oldest waiting report. -/
def execContactReport (s : State) : Host.Outcome State Fault Refusal :=
  match s.handOffs.reports with
  | [] => .next s
  | _ :: rest => .next (s.setHandOffs { s.handOffs with reports := rest }).judgeContacts

end Sys2Proof.Machine
end

