-- ==== Sys2Proof/Machine/Records.lean ====
section
/-! DEFINITION. The events of the transformer records and of the Episode Tracker: measured seconds, stand-in seconds,
service changes, episode hand-offs (chapters 1, 5 to 8). Where the event is not waiting, it does not come about and
nothing changes. -/

namespace Sys2Proof.Machine

/-- MEASURED_SECOND (R15): the oldest measured second waiting for transformer `t`. -/
def execMeasuredSecond (t : Fin 16) (s : State) : Host.Outcome State Fault Refusal :=
  match takeFirst (fun h => h.channel == t) s.handOffs.seconds with
  | none => .next s
  | some (h, rest) => .next ((s.setHandOffs { s.handOffs with seconds := rest }).takeSecond h)

/-- STAND_IN_SECOND (R82): the clock second waiting for transformer `t`. -/
def execStandInSecond (t : Fin 16) (s : State) : Host.Outcome State Fault Refusal :=
  .next (if s.handOffs.recordTicks[t].isSome then (s.takeRecordTick t).settleClock else s)

/-- ENERGISED (R11): the oldest report of input EN`t`, if it tells of energising. -/
def execEnergised (t : Fin 16) (s : State) : Host.Outcome State Fault Refusal :=
  match takeFirst (fun r => r.transformer == t) s.handOffs.enReports with
  | none => .next s
  | some (r, rest) => .next (if r.level then (s.setHandOffs { s.handOffs with enReports := rest }).energise t else s)

/-- DEENERGISED (R10): the oldest report of input EN`t`, if it tells of de-energising. -/
def execDeenergised (t : Fin 16) (s : State) : Host.Outcome State Fault Refusal :=
  match takeFirst (fun r => r.transformer == t) s.handOffs.enReports with
  | none => .next s
  | some (r, rest) => .next (if r.level then s else (s.setHandOffs { s.handOffs with enReports := rest }).deenergise t)

/-- EPISODE_HANDOFF (R133, R134): the oldest evaluation of transformer `t` on its way to the tracker. -/
def execEpisodeHandoff (t : Fin 16) (s : State) : Host.Outcome State Fault Refusal :=
  match takeFirst (fun h => h.transformer == t) s.handOffs.evaluations with
  | none => .next s
  | some (h, rest) => .next ((s.setHandOffs { s.handOffs with evaluations := rest }).takeHandOff h)

end Sys2Proof.Machine
end

