-- ==== Sys2Proof/Machine/Resets.lean ====
section
/-! DEFINITION. Start-up, which ends every reset (R181), and the three reset commands. -/

namespace Sys2Proof.Machine

/-- The settings a start-up loads (R181, step 2): the image's if it is valid, the defaults otherwise. A reset during a
save leaves the image invalid (R180). -/
def Store.validAtReset (v : Store) : Bool := v.valid && v.save.isNone

def Store.loaded (v : Store) : SettingsSet := if v.validAtReset then v.image else defaultSet

/-- An input sampled at its raw level, without a hold and without a report (R6). -/
def Input.sampled (x : Input) : Input := ⟨x.raw, x.raw, none⟩

/-- Service state at start-up (R5). -/
def serviceAtStart (enabled energised : Bool) : ServiceState :=
  if enabled then (if energised then .inService else .outOfService) else .off

/-- Start-up (R181), as one operation: every block at its values after start-up, RESTARTED queued, outputs and ATTN
judged. What it keeps is outside the part (the raw levels) or non-volatile (the image). -/
def State.startUp (cause : ResetCause) (rateHigh : Bool) (s : State) : State :=
  let cfg := s.store.loaded
  let source : SettingsSource := if s.store.validAtReset then .stored else .default
  { pending := s.pending
    cfg := cfg
    live := Vector.ofFn fun i =>
      initialLive (serviceAtStart cfg.transformers[i].enabled s.inputs.en[i].raw) cfg.transformers[i].offsetSet
    snapshots := none
    intake := initialIntake (Vector.ofFn fun i => cfg.transformers[i].offsetSet)
    inputs := ⟨Vector.ofFn fun i => s.inputs.en[i].sampled, s.inputs.panel.sampled, s.inputs.lock.sampled⟩
    channels := Vector.replicate 16 initialChannel
    field := initialField
    tracker := initialTracker
    capture := initialCapture
    driver := initialDriver cfg.maps cfg.device.linkSilence
    link := initialLink rateHigh cfg.device.noticeMask (restartedRecord cause.code source.code)
    time := initialTime cfg.device.ppsUse
    store := ⟨s.store.image, s.store.validAtReset, none⟩
    cause := cause
    source := source
    handOffs := initialHandOffs }

/-- POWER_ON_RESET (R181). -/
def execPowerOnReset (rateHigh : Bool) (s : State) : Host.Outcome State Fault Refusal :=
  .next (s.startUp .powerOn rateHigh)

/-- PIN_RESET (R181). -/
def execPinReset (rateHigh : Bool) (s : State) : Host.Outcome State Fault Refusal :=
  .next (s.startUp .pin rateHigh)

/-- The reset after a second Restart may begin: it is due and its reply has been sent in full (R182). -/
def State.restartReady (s : State) : Bool := s.link.restart == .due && s.link.sending.isNone

/-- RESTART_RESET (R182). -/
def execRestartReset (rateHigh : Bool) (s : State) : Host.Outcome State Fault Refusal :=
  .next (if s.restartReady then s.startUp .restart rateHigh else s)

end Sys2Proof.Machine
end

