-- ==== Sys2Proof/Machine/SampleLine.lean ====
section
/-! DEFINITION. The commands of the sample line and of the intake FIFO (chapter 2). -/

namespace Sys2Proof.Machine

/-- SAMPLE_FRAME (R19, R20): bytes, then the 0x96 byte that closes a frame complete. -/
def execSampleFrame (bytes : List Byte) (s : State) : Host.Outcome State Fault Refusal :=
  .next (s.sampleBytes (bytes ++ [Config.sampleSync]))

/-- SAMPLE_LINE_IDLE (R19): bytes, then the line idle. -/
def execSampleLineIdle (bytes : List Byte) (s : State) : Host.Outcome State Fault Refusal :=
  .next (s.sampleBytes bytes).sampleIdle

/-- SAMPLE_DAMAGED_BYTE (R18): bytes, then one whose stop bit is missing. -/
def execSampleDamagedByte (bytes : List Byte) (s : State) : Host.Outcome State Fault Refusal :=
  .next (s.sampleBytes bytes).sampleDamaged

/-- SAMPLE_FRAME_DISCARD (R19): bytes, the last of which discards the frame in assembly. -/
def execSampleFrameDiscard (bytes : List Byte) (s : State) : Host.Outcome State Fault Refusal :=
  .next (s.sampleBytes bytes)

/-- TAKE_CURRENT_FRAME (R22, R25). -/
def execTakeCurrentFrame (s : State) : Host.Outcome State Fault Refusal :=
  .next (s.takeHead Frame.isCurrent)

/-- TAKE_FIELD_FRAME (R22, R57). -/
def execTakeFieldFrame (s : State) : Host.Outcome State Fault Refusal :=
  .next (s.takeHead fun f => !f.isCurrent)

/-- SILENCE_TIMER_EXPIRY (R23). -/
def execSilenceTimerExpiry (c : Fin 5) (s : State) : Host.Outcome State Fault Refusal :=
  .next (s.silenceExpired c)

end Sys2Proof.Machine
end

