-- ==== Sys2Proof/Machine/Dispatch.lean ====
section
/-! DEFINITION. One arm per row of spec/opcode_table.json, in the table's order. -/

namespace Sys2Proof.Machine

def exec (i : Instr) (s : State) : Host.Outcome State Fault Refusal :=
  match i with
  | .powerOnReset rateHigh => Sys2Proof.Machine.execPowerOnReset rateHigh s
  | .pinReset rateHigh => Sys2Proof.Machine.execPinReset rateHigh s
  | .restartReset rateHigh => Sys2Proof.Machine.execRestartReset rateHigh s
  | .sampleFrame bytes => Sys2Proof.Machine.execSampleFrame bytes s
  | .sampleLineIdle bytes => Sys2Proof.Machine.execSampleLineIdle bytes s
  | .takeCurrentFrame => Sys2Proof.Machine.execTakeCurrentFrame s
  | .takeFieldFrame => Sys2Proof.Machine.execTakeFieldFrame s
  | .measuredSecond t => Sys2Proof.Machine.execMeasuredSecond t s
  | .clockSecond => Sys2Proof.Machine.execClockSecond s
  | .standInSecond t => Sys2Proof.Machine.execStandInSecond t s
  | .fieldNone => Sys2Proof.Machine.execFieldNone s
  | .episodeQuietClose => Sys2Proof.Machine.execEpisodeQuietClose s
  | .episodeHandoff t => Sys2Proof.Machine.execEpisodeHandoff t s
  | .captureMissed ch => Sys2Proof.Machine.execCaptureMissed ch s
  | .linkSilent => Sys2Proof.Machine.execLinkSilent s
  | .silenceTimerExpiry c => Sys2Proof.Machine.execSilenceTimerExpiry c s
  | .ppsEdge now => Sys2Proof.Machine.execPpsEdge now s
  | .ppsLost => Sys2Proof.Machine.execPpsLost s
  | .inputLevelChange pin level now => Sys2Proof.Machine.execInputLevelChange pin level now s
  | .debounceComplete pin => Sys2Proof.Machine.execDebounceComplete pin s
  | .energised t => Sys2Proof.Machine.execEnergised t s
  | .deenergised t => Sys2Proof.Machine.execDeenergised t s
  | .panelPress => Sys2Proof.Machine.execPanelPress s
  | .panelRelease => Sys2Proof.Machine.execPanelRelease s
  | .panelTestStart => Sys2Proof.Machine.execPanelTestStart s
  | .panelTestTimeout => Sys2Proof.Machine.execPanelTestTimeout s
  | .contactReport => Sys2Proof.Machine.execContactReport s
  | .levelTrigger ch => Sys2Proof.Machine.execLevelTrigger ch s
  | .captureDisableReport ch => Sys2Proof.Machine.execCaptureDisableReport ch s
  | .requestFrame bytes => Sys2Proof.Machine.execRequestFrame bytes s
  | .hostFrameGap bytes => Sys2Proof.Machine.execHostFrameGap bytes s
  | .unknownKindRequest => Sys2Proof.Machine.execUnknownKindRequest s
  | .identify => Sys2Proof.Machine.execIdentify s
  | .readClock => Sys2Proof.Machine.execReadClock s
  | .setClock => Sys2Proof.Machine.execSetClock s
  | .readDeviceSettings => Sys2Proof.Machine.execReadDeviceSettings s
  | .writeDeviceSettings now => Sys2Proof.Machine.execWriteDeviceSettings now s
  | .readTransformerSettings => Sys2Proof.Machine.execReadTransformerSettings s
  | .writeTransformerSettings => Sys2Proof.Machine.execWriteTransformerSettings s
  | .readLive => Sys2Proof.Machine.execReadLive s
  | .snapshot => Sys2Proof.Machine.execSnapshot s
  | .readSnapshot => Sys2Proof.Machine.execReadSnapshot s
  | .acknowledge => Sys2Proof.Machine.execAcknowledge s
  | .suppress => Sys2Proof.Machine.execSuppress s
  | .loadGroundResponse => Sys2Proof.Machine.execLoadGroundResponse s
  | .readGroundResponse => Sys2Proof.Machine.execReadGroundResponse s
  | .readField => Sys2Proof.Machine.execReadField s
  | .readContactMap => Sys2Proof.Machine.execReadContactMap s
  | .writeContactMap => Sys2Proof.Machine.execWriteContactMap s
  | .fetchSummary => Sys2Proof.Machine.execFetchSummary s
  | .changeNoticeMask => Sys2Proof.Machine.execChangeNoticeMask s
  | .fetchTransitions => Sys2Proof.Machine.execFetchTransitions s
  | .readEpisode => Sys2Proof.Machine.execReadEpisode s
  | .readEpisodeEntry => Sys2Proof.Machine.execReadEpisodeEntry s
  | .closeEpisode => Sys2Proof.Machine.execCloseEpisode s
  | .captureNow => Sys2Proof.Machine.execCaptureNow s
  | .extendCapture => Sys2Proof.Machine.execExtendCapture s
  | .listCaptures => Sys2Proof.Machine.execListCaptures s
  | .readCaptureSamples => Sys2Proof.Machine.execReadCaptureSamples s
  | .releaseCapture => Sys2Proof.Machine.execReleaseCapture s
  | .readIntakeStatus => Sys2Proof.Machine.execReadIntakeStatus s
  | .clearConverterFault => Sys2Proof.Machine.execClearConverterFault s
  | .saveSettings => Sys2Proof.Machine.execSaveSettings s
  | .saveCompletion agrees => Sys2Proof.Machine.execSaveCompletion agrees s
  | .restart => Sys2Proof.Machine.execRestart s
  | .tenthAdvance => Sys2Proof.Machine.execTenthAdvance s
  | .replySent => Sys2Proof.Machine.execReplySent s
  | .sampleDamagedByte bytes => Sys2Proof.Machine.execSampleDamagedByte bytes s
  | .sampleFrameDiscard bytes => Sys2Proof.Machine.execSampleFrameDiscard bytes s
  | .hostDamagedByte bytes => Sys2Proof.Machine.execHostDamagedByte bytes s
  | .hostFrameDiscard bytes => Sys2Proof.Machine.execHostFrameDiscard bytes s

end Sys2Proof.Machine
end

