-- ==== Sys2Proof/Safety.lean ====
section
/-! DEFINITION. The terms in which statements about the block are made: when a request can be taken and what a reply alone
leaves, and the laws that the manual gives the block's collections, settings, transformers, captures, episodes,
contacts and time. -/

namespace Sys2Proof.Machine

/-! ### Requests -/

/-- Request `r` of kind `k` is the one taken next: at the head of the buffer, no reply being sent, no reset due (R169,
R182). -/
def State.Takes (k : Byte) (r : Request) (s : State) : Prop :=
  s.link.sending = none ∧ s.link.restart ≠ .due ∧ s.link.buffer.head? = some r ∧ r.kind = k

/-- `s` after a request whose only effects are its reply and the disarming of an armed Restart (R169, R182). -/
def State.replied (r : Request) (status : Status) (body : List Byte) (s : State) : State :=
  { s with link := { s.link with restart := .disarmed, sending := some (replyFrame r status body) } }

/-! ### Transitions -/

/-- The record of a transition whose source is DEVICE: no level, no X, no T, no suppressed mark (R171). -/
def deviceRecord (kind : TransitionKind) (detail : Option Nat) (stamp : Stamp) : Transition :=
  ⟨stamp, none, kind, none, none, none, detail, false⟩

/-- The record of a transition of transformer `i` that is no change of level: T and the suppressed mark as the live part
`l` has them (R171). -/
def transformerRecord (i : Fin 16) (kind : TransitionKind) (x : Option Nat) (detail : Option Nat) (stamp : Stamp)
    (l : Live) : Transition :=
  ⟨stamp, some i, kind, none, x, some l.heat, detail, l.suppressed⟩

/-- The Message Link after transitions are made one after another (R171, R172). -/
def State.made (ts : List Transition) (s : State) : MessageLink :=
  ts.foldl (fun l t => l.withTransition s.cfg.device.noticeMask t) s.link

/-- The transitions of one evaluation of transformer `i` in the order its stages make them (R16, R83, R111): before it the
live part is `before`, and stages 1 to 3 leave `l₁`, `l₂` and `l₃`. -/
def evaluationRecords (cfg : Settings) (i : Fin 16) (stamp : Stamp) (ev : Option SecondHandOff)
    (before l₁ l₂ l₃ : Live) : List Transition :=
  (stageOneKinds ev before l₁).map (fun k => transformerRecord i k l₁.basis none stamp l₁)
    ++ (stageThreeEvents cfg l₂ l₃).map fun e =>
      ⟨stamp, some i, e.1, e.2, l₃.basis, some l₃.heat, none, l₃.suppressed⟩

/-! ### The sample path -/

/-- `s` after valid frame `f` has passed the arrival checks, with `line` still in assembly (R22, R23). -/
def State.frameJoined (line : List Byte) (f : Frame) (s : State) : State :=
  { s with
    intake :=
      { s.intake with
        line := line
        fifo := if s.intake.fifo.length < 8 then s.intake.fifo ++ [f] else s.intake.fifo
        converters :=
          s.intake.converters.set f.converter
            { s.intake.converters[f.converter] with
              timer := some 10
              overrun := s.intake.converters[f.converter].overrun || 8 ≤ s.intake.fifo.length } } }

/-- The intake after a tenth of a second: a silence timer that runs has a tenth less to run (R23). -/
def Intake.afterTenth (x : Intake) : Intake :=
  { x with converters := Vector.ofFn fun c => { x.converters[c] with timer := x.converters[c].timer.map (· - 1) } }

/-- The channels after each of converter `c`'s four has taken the samples that `samples` gives it, each a code and its
tag, one after another, none of them completing its cycle; the first of a cycle latches gain and O_eff (R38). -/
def State.takenSamples (c : Fin 4) (samples : Fin 16 → List (Int × Tag)) (s : State) : Vector Channel 16 :=
  Vector.ofFn fun ch =>
    if converterOf ch = c then
      (samples ch).foldl
        (fun k x =>
          { k with
            cycle := some (match k.cycle with
              | none => ⟨[x.1], gradeOf x.2 x.1, s.cfg.transformers[ch].gain, s.live[ch].offsetEff⟩
              | some c => { c with codes := c.codes ++ [x.1], grade := c.grade.worse (gradeOf x.2 x.1) })
            second := { k.second with rawSum := k.second.rawSum + x.1, rawCount := k.second.rawCount + 1 } })
        s.channels[ch]
    else s.channels[ch]

/-- The group of converter `c` that carries the sequence `seq`, and for each of its channels the sample that `x` gives that
channel, a code and its tag, in the order of their positions in a current frame (R18, R29). -/
def groupOf (c : Fin 4) (seq : Byte) (x : Fin 16 → Int × Tag) : SampleGroup :=
  .current c seq #v[x (channelOf c 0), x (channelOf c 1), x (channelOf c 2), x (channelOf c 3)]

/-- No cycle of converter `c`'s channels completes with `n` more samples. -/
def State.ShortCycles (c : Fin 4) (n : Nat) (s : State) : Prop :=
  ∀ p : Fin 4, ∀ cyc, s.channels[channelOf c p].cycle = some cyc → cyc.codes.length + n < 32

/-- The fill sample of a channel (R26): its held value under HOLD, its O_eff under ZERO. -/
def State.fillAt (ch : Fin 16) (s : State) : Int :=
  if s.cfg.device.fill[converterOf ch] = .hold then s.intake.held[ch] else s.live[ch].offsetEff

/-- The code of channel `ch` among the four of a current frame: its position is `ch` mod 4 (R18). -/
def codeAt (codes : Vector Int 4) (ch : Fin 16) : Int := codes[ch.val % 4]

/-- The held values after converter `c` has delivered `codes` (R29). -/
def State.heldWith (c : Fin 4) (codes : Vector Int 4) (s : State) : Vector Int 16 :=
  Vector.ofFn fun ch => if converterOf ch = c then codeAt codes ch else s.intake.held[ch]

/-! ### Captures and abandon notices -/

/-- No capture of a channel that `p` names is active. -/
def State.NoActive (p : Fin 16 → Prop) (s : State) : Prop :=
  ∀ r ∈ s.capture.records, r.active = true → ¬ p r.channel

/-- The channels once the extractor has thrown away the partial work of those that `p` names (R45, R46). -/
def State.emptied (p : Fin 16 → Prop) [DecidablePred p] (s : State) : Vector Channel 16 :=
  Vector.ofFn fun ch =>
    if p ch then
      { s.channels[ch] with cycle := none, block := ⟨0, 0, .good⟩, second := ⟨0, 0, .good, 0, 0⟩, ring := [] }
    else s.channels[ch]

/-- What an abandon notice for the channels that `p` names does at the Capture Unit (R145, R147): it leaves the unit `u` and
makes the transitions `ts`. Where no capture of a named channel is active it does nothing. An active one becomes DONE and
truncated, CAPTURE_DONE is made, and the pending set is served, from rings that the extractor has emptied before. -/
structure NoticeTaken (p : Fin 16 → Prop) [DecidablePred p] (s : State) (u : CaptureUnit) (ts : List Transition) :
    Prop where
  spared : s.NoActive p → u = s.capture ∧ ts = []
  ended : ∀ (older newer : List CaptureRecord) (a : CaptureRecord), s.capture.records = older ++ a :: newer →
    (∀ q ∈ older ++ newer, q.state = .done) → a.state ≠ .done → p a.channel →
    u = (State.serve
        { s with
          channels := s.emptied p
          capture := { s.capture with
            records := older ++ { a with state := .done, truncated := true } :: newer } }).capture ∧
      ts = [transformerRecord a.channel .captureDone none (some a.number) s.time.now s.live[a.channel]]

/-! ### The Contact Driver -/

/-- A contact's relay driver stands as panel state, map and contact state require (R158, R159, R161, R165): the output is
in alarm in every state but OPEN and, during a panel test that the map enables, in OPEN too; the sense says whether the
driver is on while it is in alarm or while it is not. -/
structure DriverFollows (p : PanelState) (m : ContactMap) (c : Contact) : Prop where
  energise : m.sense = .energiseOnAlarm → (c.driver = true ↔ c.state ≠ .open ∨ p = .test ∧ m.testEnable = true)
  deenergise : m.sense = .deenergiseOnAlarm →
    (c.driver = true ↔ c.state = .open ∧ (p ≠ .test ∨ m.testEnable = false))

/-- Outputs driven by output and sense, and the lamp judged, as states and panel stand (R158, R161, R163). -/
structure Driven (s : State) : Prop where
  outputs : ∀ k : Fin 4, DriverFollows s.driver.panel s.cfg.maps[k] s.driver.contacts[k]
  test : s.driver.lamp = .test ↔ s.driver.panel = .test
  flashing : s.driver.lamp = .flashing ↔ s.driver.panel ≠ .test ∧ ∃ i : Fin 16,
    s.live[i].service = .inService ∧ s.live[i].level.owed = true ∧ s.live[i].unacknowledged = true
  steady : s.driver.lamp = .steady ↔ s.driver.panel ≠ .test ∧
    (∃ i : Fin 16, s.live[i].service = .inService ∧ s.live[i].level.owed = true) ∧
    ∀ i : Fin 16, s.live[i].service = .inService → s.live[i].level.owed = true → s.live[i].unacknowledged = false

/-- `t` differs from `s` in the Contact Driver's contacts, lamp, panel state and panel timer alone, with its outputs
driven. -/
structure PanelMoved (p : PanelState) (timer : Bool) (s t : State) : Prop where
  panel : t.driver.panel = p ∧ t.driver.panelTimer = timer
  contacts : ∀ k : Fin 4, t.driver.contacts[k].state = s.driver.contacts[k].state
    ∧ t.driver.contacts[k].source = s.driver.contacts[k].source
  driven : Driven t
  rest : t = { s with driver := { s.driver with
    contacts := t.driver.contacts, lamp := t.driver.lamp, panel := p, panelTimer := timer } }

/-! ### Start-up -/

/-- What a reset's start-up leaves (R181): `s` before, `t` after. -/
structure StartedUp (why : ResetCause) (rateHigh : Bool) (s t : State) : Prop where
  stored : s.store.valid = true → s.store.save = none → t.cfg = s.store.image ∧ t.source = .stored
  defaults : s.store.valid = false ∨ s.store.save ≠ none → t.cfg = defaultSet ∧ t.source = .default
  image : t.store.image = s.store.image ∧ t.store.save = none
    ∧ (t.store.valid = true ↔ s.store.valid = true ∧ s.store.save = none)
  cause : t.cause = why
  inputs : ∀ p : Pin, t.inputs.get p = ⟨(s.inputs.get p).raw, (s.inputs.get p).raw, none⟩
  service : ∀ i : Fin 16, t.live[i].service =
    if t.cfg.transformers[i].enabled then (if s.inputs.en[i].raw then .inService else .outOfService) else .off
  live : ∀ i : Fin 16, t.live[i] =
    { service := t.live[i].service, level := .normal, measured := none
      offsetEff := t.cfg.transformers[i].offsetSet, offsetFault := false, age := 0, predicted := none, basis := none
      doubt := false, outsideRun := 0, insideRun := 0, lost := false, heat := 0, steady := 0, riseAge := 0, calmAge := 0
      unacknowledged := false, reminderCount := 0, suppressed := false }
  snapshots : t.snapshots = none
  intake : t.intake.fifo = [] ∧ t.intake.line = [] ∧ t.intake.crcSeen = false
  converters : ∀ c : Fin 5, t.intake.converters[c] = ⟨.absent, none, false, false⟩
  held : (∀ ch : Fin 16, t.intake.held[ch] = t.cfg.transformers[ch].offsetSet) ∧ t.intake.heldNorth = 0
    ∧ t.intake.heldEast = 0
  channels : ∀ ch : Fin 16, t.channels[ch] = ⟨none, ⟨0, 0, .good⟩, ⟨0, 0, .good, 0, 0⟩, [], 0, ⟨0, 0, 0⟩⟩
  field : t.field =
    ⟨⟨0, 0, 0, true⟩, none, false, Vector.replicate 64 ⟨0, 0, true, false⟩, ⟨0, 0, .none, false, none⟩, 0⟩
  tracker : t.tracker = ⟨none, 0, [], 1⟩
  capture : t.capture = ⟨[], 0, [], [], 1⟩
  contacts : ∀ k : Fin 4, t.driver.contacts[k] =
    ⟨.open, false, decide (t.cfg.maps[k].sense = .deenergiseOnAlarm)⟩
  panel : t.driver.lamp = .off ∧ t.driver.panel = .idle ∧ t.driver.panelTimer = false ∧ t.driver.linkSilent = false
  linkTimer : t.driver.linkTimer =
    if t.cfg.device.linkSilence = 0 then none else some t.cfg.device.linkSilence
  link : t.link = ⟨if rateHigh then 115200 else 57600, [], [], none, none, .disarmed,
    [⟨⟨0, 0, 0⟩, none, .restarted, none, none, none, some (why.code * 256 + t.source.code), false⟩], 0x10,
    decide (0x10 &&& t.cfg.device.noticeMask ≠ 0)⟩
  time : t.time = ⟨⟨0, 0, 0⟩, none, if t.cfg.device.ppsUse then .lost else .unused, none⟩
  handOffs : t.handOffs =
    { seconds := [], evaluations := [], triggers := [], disables := [], reports := [], enReports := []
      panelReports := [], recordTicks := Vector.replicate 16 none, fieldTick := none, trackerTick := none
      linkTick := none }
  queue : t.pending = s.pending

/-! ### The clock -/

/-- Nothing waits for a clock second of before: no block has one still to take. -/
structure NoTickWaits (s : State) : Prop where
  records : ∀ i : Fin 16, s.handOffs.recordTicks[i] = none
  field : s.handOffs.fieldTick = none
  tracker : s.handOffs.trackerTick = none
  link : s.handOffs.linkTick = none
  captures : ∀ e ∈ s.capture.waiting, e.expiry = none

/-- Some stand-in evaluation has still to take its clock second. -/
def RecordWaits (s : State) : Prop := ∃ i : Fin 16, s.handOffs.recordTicks[i] ≠ none

/-- The next clock second of the Field Estimator loses the grade of E (R64). -/
def LosesGrade (s : State) : Prop := 9 ≤ s.field.age ∧ s.field.latest.quality ≠ .none

/-- The next clock second of the Episode Tracker closes the open episode (R129). -/
def ClosesQuiet (s : State) : Prop :=
  s.tracker.openEpisode ≠ none ∧ s.activitySecond = false ∧ s.tracker.quietTimer ≤ 1

/-- The next clock second of the Episode Tracker opens an episode, and an evaluation's hand-off is on its way to it (R134). -/
def OpensAhead (s : State) : Prop :=
  s.tracker.openEpisode = none ∧ s.activitySecond = true ∧ s.handOffs.evaluations ≠ []

/-- `t` is `s` once the Episode Tracker has taken a clock second that waits for it, unless it would close the episode, or
open one ahead of a hand-off, or an evaluation or the Field Estimator has still to take its own (notes/assumptions/6.md). -/
structure TrackerFollows (s t : State) : Prop where
  stays : s.handOffs.trackerTick = none ∨ RecordWaits s ∨ s.handOffs.fieldTick ≠ none ∨ ClosesQuiet s ∨ OpensAhead s →
    t = s
  takes : ∀ stamp, s.handOffs.trackerTick = some stamp → ¬ RecordWaits s → s.handOffs.fieldTick = none →
    ¬ ClosesQuiet s → ¬ OpensAhead s → t = State.trackerSecond stamp { s with handOffs := { s.handOffs with trackerTick := none } }

/-- `s` after the clock second `stamp` has closed its open episode `e` with cause QUIET: max |E| dealt with (R128), the
quiet timer at 0, the record the newest of at most eight in the history, EPISODE_CLOSE made and the contacts told (R129 to
R131, R157). -/
def State.closedQuiet (e : Episode) (stamp : Stamp) (s : State) : State :=
  let size := max s.field.latest.north.natAbs s.field.latest.east.natAbs
  let held := s.tracker.history ++ [{ e with
    closed := some (stamp, .quiet)
    maxE := if s.field.latest.quality = .none ∨ ∃ m, e.maxE = some m ∧ size ≤ m.1 then e.maxE else some (size, stamp) }]
  { s with
    tracker := { s.tracker with openEpisode := none, quietTimer := 0, history := held.drop (held.length - 8) }
    link := s.made [deviceRecord .episodeClose (some e.number) stamp]
    handOffs := { s.handOffs with reports := s.handOffs.reports ++ [.tracker] } }

/-! ### The settings -/

/-- Every field of a settings part within its range, and the order R1 gives. -/
structure SettingsOk (c : Settings) : Prop where
  gain : 1 ≤ c.gain ∧ c.gain ≤ 65535
  offset : -2047 ≤ c.offsetSet ∧ c.offsetSet ≤ 2047
  currents : 1 ≤ c.iWatch ∧ c.iWatch < c.iWarn ∧ c.iWarn < c.iAlarm ∧ c.iAlarm ≤ 30000
  hyst : c.hyst ≤ 5000
  delays : c.dWatch ≤ 600 ∧ c.dWarn ≤ 600 ∧ c.dAlarm ≤ 600 ∧ c.dFall ≤ 3600
  points : ∀ k : Fin 8, 1 ≤ c.breakpoints[k].x ∧ c.breakpoints[k].x ≤ 30000 ∧ c.breakpoints[k].r ≤ 20000
  rising : ∀ j k : Fin 8, j < k → c.breakpoints[j].x < c.breakpoints[k].x ∧ c.breakpoints[j].r ≤ c.breakpoints[k].r
  constants : 10 ≤ c.tauHeat ∧ c.tauHeat ≤ 7200 ∧ 10 ≤ c.tauCool ∧ c.tauCool ≤ 7200
  thermal : 1 ≤ c.tWarn ∧ c.tWarn < c.tAlarm ∧ c.tAlarm ≤ 20000 ∧ c.tHys ≤ 2000
  coefficients : -32768 ≤ c.coefA ∧ c.coefA ≤ 32767 ∧ -32768 ≤ c.coefB ∧ c.coefB ≤ 32767
  band : 1 ≤ c.wAbs ∧ c.wAbs ≤ 30000 ∧ c.wPct ≤ 100
  doubtD : 1 ≤ c.doubtD ∧ c.doubtD ≤ 3600
  reminder : c.reminder = 0 ∨ 60 ≤ c.reminder ∧ c.reminder ≤ 3600
  capture : c.capturePre ≤ 4 ∧ 1 ≤ c.capturePost ∧ c.capturePost ≤ 250

/-- Every device setting within its range (R179). -/
structure DeviceOk (d : DeviceSettings) : Prop where
  debounce : 4 ≤ d.debounce ∧ d.debounce ≤ 250
  quietTime : 60 ≤ d.quietTime ∧ d.quietTime ≤ 86400
  eStart : 1 ≤ d.eStart ∧ d.eStart ≤ 32767
  linkSilence : d.linkSilence = 0 ∨ 10 ≤ d.linkSilence ∧ d.linkSilence ≤ 3600

/-- A whole set of settings: transformers (R1), device (R179), ground response table (R56), contact maps (R155). -/
structure SetOk (c : SettingsSet) : Prop where
  transformers : ∀ i : Fin 16, SettingsOk c.transformers[i]
  device : DeviceOk c.device
  taps : 1 ≤ c.taps.length ∧ c.taps.length ≤ 64 ∧ ∀ k ∈ c.taps, -32768 ≤ k ∧ k ≤ 32767
  maps : ∀ k : Fin 4, c.maps[k].minLevel ≠ .normal

/-- The settings in use, those a valid image would load, and those a save in progress would store. -/
structure SettingsLaw (s : State) : Prop where
  inUse : SetOk s.cfg
  image : s.store.valid = true → SetOk s.store.image
  copy : ∀ c, s.store.save = some c → SetOk c

/-! ### The Message Link -/

/-- The law of the queue (R171), of the attention line (R172) and of the request buffer (R169). -/
structure LinkLaw (s : State) : Prop where
  queue : s.link.transitions.length ≤ 64
  attn : s.link.attn = true ↔ s.link.summary &&& s.cfg.device.noticeMask ≠ 0
  buffer : s.link.buffer.length ≤ 2
  answering : s.link.sending ≠ none → s.link.buffer ≠ []

/-! ### The transformers -/

/-- The condition of one transformer: service state against enabled, rest out of service (R7, R8, R10, R48), the two
persistence ages (R104), O_eff within 256 codes of O_set (R51), learning only where R49 lets it gather; and the ranges of
the counts that R4 and R48 give it (those of M, P and X stand in `CurrentsLaw`, those of T and S in `ThermalLaw`). -/
structure TransformerOk (c : Settings) (l : Live) (ch : Channel) : Prop where
  enabled : l.service = .off ↔ c.enabled = false
  ages : l.riseAge = 0 ∨ l.calmAge = 0
  resting : l.service ≠ .inService →
    l.level = .normal ∧ l.riseAge = 0 ∧ l.calmAge = 0 ∧ l.doubt = false ∧ l.lost = false ∧ l.outsideRun = 0
      ∧ l.insideRun = 0 ∧ l.reminderCount = 0 ∧ l.predicted = none ∧ l.basis = none ∧ l.steady = 0
  off : l.service = .off → l.measured = none ∧ l.heat = 0 ∧ l.age = 0 ∧ l.unacknowledged = false
  offset : (l.offsetEff - c.offsetSet).natAbs ≤ 256
  deenergised : l.service ≠ .outOfService → ch.deenergisedTime = 0
  learning : ch.learning ≠ emptyLearning → l.service = .outOfService ∧ c.learning = true ∧ 60 ≤ ch.deenergisedTime
  gathered : ch.learning.seconds ≤ 29
  runs : l.outsideRun ≤ 3600 ∧ l.insideRun ≤ 3600
  counts : l.age ≤ 65535 ∧ l.riseAge ≤ 65535 ∧ l.calmAge ≤ 65535 ∧ ch.deenergisedTime ≤ 65535
  reminder : l.reminderCount ≤ 3600
  codes : l.offsetEff.natAbs ≤ 2047

/-- `TransformerOk` of all sixteen, under settings in their ranges. -/
structure TransformerLaw (s : State) : Prop where
  settings : SettingsLaw s
  each : ∀ i : Fin 16, TransformerOk s.cfg.transformers[i] s.live[i] s.channels[i]

/-- The law of the thermal rise (R92): T and S within 0 to 20000, under settings in their ranges. -/
structure ThermalLaw (s : State) : Prop where
  settings : SettingsLaw s
  heat : ∀ i : Fin 16, s.live[i].heat ≤ 20000
  steady : ∀ i : Fin 16, s.live[i].steady ≤ 20000

/-! ### Intake and extractor -/

/-- What a channel holds stays within R36 and R43; `n` is the number of cycles in a block. -/
structure ChannelOk (n : Nat) (c : Channel) : Prop where
  cycle : ∀ p, c.cycle = some p → p.codes.length ≤ 31
  block : c.block.count < n
  second : c.second.count ≤ 9
  ring : c.ring.length ≤ 4
  codes : ∀ r ∈ c.ring, r.length = 32

/-- The collections of the sample path stay within their capacities: FIFO (R22), channels (R36, R43), partial field
second (R56); a silence timer has at most one second to run, and that of a LOCKED or FAULTED converter has not stopped
(R23, R24). -/
structure IntakeLaw (s : State) : Prop where
  fifo : s.intake.fifo.length ≤ 8
  channels : ∀ ch : Fin 16, ChannelOk s.cfg.device.mains.cycles s.channels[ch]
  field : s.field.partialField.count ≤ 9
  timers : ∀ c : Fin 5, ∀ n, s.intake.converters[c].timer = some n → n ≤ 10
  heard : ∀ c : Fin 5, s.intake.converters[c].state ≠ .absent → s.intake.converters[c].timer ≠ none

/-- Every current the part forms stands within ±30000 (R39, R55, R76, R84): M kept and handed on, P, X, FS, and the sums
of partial blocks and seconds, each within 30000 for each value summed; blocks and seconds themselves within their lengths. -/
structure CurrentsLaw (s : State) : Prop where
  lengths : IntakeLaw s
  measured : ∀ i : Fin 16, ∀ m, s.live[i].measured = some m → m.m.natAbs ≤ 30000
  predicted : ∀ i : Fin 16, ∀ p, s.live[i].predicted = some p → p.natAbs ≤ 30000
  basis : ∀ i : Fin 16, ∀ X, s.live[i].basis = some X → X ≤ 30000
  blocks : ∀ ch : Fin 16, s.channels[ch].block.sum.natAbs ≤ 30000 * s.channels[ch].block.count
  seconds : ∀ ch : Fin 16, s.channels[ch].second.sum.natAbs ≤ 30000 * s.channels[ch].second.count
  handed : ∀ h ∈ s.handOffs.seconds, h.m.natAbs ≤ 30000 ∧ h.fullScale ≤ 30000

/-! ### The law of captures -/

/-- The law of capture memory (R141) and of the pending set (R146), and the canonical form of the memory. A disabled
transformer has no entry, except while the report that takes the entry out is on its way to the unit (R148). -/
structure CaptureLaw (s : State) : Prop where
  list : s.capture.records.length ≤ 8
  slots : usedSlots s.capture.records ≤ 16384
  active : (s.capture.records.filter CaptureRecord.active).length ≤ 1
  onePerChannel : (s.capture.waiting.map PendingEntry.channel).Nodup
  disabled : ∀ e ∈ s.capture.waiting, s.live[e.channel].service = .off → e.channel ∈ s.handOffs.disables
  memory : Memory.wf s.capture.memory = true
  writePos : s.capture.writePos < 16384

/-! ### Episodes -/

/-- Each number of the list is the one that follows the number before it (R126, R127). -/
def Consecutive : List Nat → Prop
  | a :: b :: rest => b = (if a < 65535 then a + 1 else 1) ∧ Consecutive (b :: rest)
  | _ => True

/-- The numbers of the held episodes in order of opening, then the next number. -/
def EpisodeTracker.numbers (t : EpisodeTracker) : List Nat :=
  (t.history ++ t.openEpisode.toList).map Episode.number ++ [t.nextNumber]

/-- The law of the episodes (R130), of their numbers (R127), of the charge (R133), and of max T: no transformer is warmer than
its entry in the open episode says, or than a hand-off on its way will make that entry say (R126, R133). -/
structure EpisodeLaw (s : State) : Prop where
  history : s.tracker.history.length ≤ 8
  closed : ∀ e ∈ s.tracker.history, e.closed ≠ none
  isOpen : ∀ e, s.tracker.openEpisode = some e → e.closed = none
  quiet : s.tracker.openEpisode = none → s.tracker.quietTimer = 0
  charge : ∀ e ∈ s.tracker.history ++ s.tracker.openEpisode.toList, ∀ i : Fin 16, e.entries[i].charge ≤ 4294967295
  numbers : Consecutive s.tracker.numbers
  range : ∀ n ∈ s.tracker.numbers, 1 ≤ n ∧ n ≤ 65535
  warmth : ∀ e, s.tracker.openEpisode = some e → ∀ i : Fin 16, s.live[i].heat ≤ e.entries[i].maxT ∨
    ∃ h ∈ s.handOffs.evaluations, h.transformer = i ∧ s.live[i].heat ≤ h.heat

/-- Record `r` closes episode `e`: number, start and what evaluations brought its entries stand as they were (R130). -/
structure ClosedFrom (e r : Episode) : Prop where
  closed : r.closed ≠ none
  number : r.number = e.number ∧ r.start = e.start
  entries : ∀ i : Fin 16, r.entries[i].charge = e.entries[i].charge ∧ r.entries[i].peak = e.entries[i].peak
    ∧ r.entries[i].highest = e.entries[i].highest

/-- Record `f` is episode `e` still open: its entries have only grown (R133). -/
structure Continues (e f : Episode) : Prop where
  number : f.number = e.number ∧ f.start = e.start
  entries : ∀ i : Fin 16, e.entries[i].charge ≤ f.entries[i].charge ∧ e.entries[i].maxT ≤ f.entries[i].maxT
    ∧ e.entries[i].highest.rank ≤ f.entries[i].highest.rank

/-- From `s` to `t` the closed records stand as they are, in their order, the oldest of them possibly gone and the one
that was open possibly joined (R130); the open record continues, or opens with the next number and no charge (R126,
R133). -/
structure EpisodesKept (s t : State) : Prop where
  closed : ∃ (gone : Nat) (joined : List Episode), t.tracker.history = (s.tracker.history ++ joined).drop gone ∧
    joined.length ≤ 1 ∧ ∀ r ∈ joined, ∃ e, s.tracker.openEpisode = some e ∧ ClosedFrom e r
  isOpen : ∀ f, t.tracker.openEpisode = some f → (∃ e, s.tracker.openEpisode = some e ∧ Continues e f) ∨
    f.number = s.tracker.nextNumber ∧ ∀ i : Fin 16, f.entries[i].charge = 0

/-! ### Contacts and panel -/

/-- The law of one contact: FOLLOW is CLOSED exactly when its source was last judged true (R158), LATCH is never
CLOSED (R159), and the driver follows output and sense (R161). -/
structure ContactOk (panel : PanelState) (m : ContactMap) (c : Contact) : Prop where
  follow : m.mode = .follow → c.state = if c.source then .closed else .open
  latch : m.mode = .latch → c.state ≠ .closed
  driver : DriverFollows panel m c

/-- The laws of the Contact Driver: contacts, panel timer (R164), link-silence timer and flag (R162). -/
structure ContactLaw (s : State) : Prop where
  contacts : ∀ k : Fin 4, ContactOk s.driver.panel s.cfg.maps[k] s.driver.contacts[k]
  panelTimer : s.driver.panelTimer = true ↔ s.driver.panel = .pressed ∨ s.driver.panel = .test
  silenceOff : s.cfg.device.linkSilence = 0 → s.driver.linkTimer = none ∧ s.driver.linkSilent = false
  silenceOn : s.cfg.device.linkSilence ≠ 0 → (s.driver.linkTimer = none ↔ s.driver.linkSilent = true)
  timer : ∀ n, s.driver.linkTimer = some n → 1 ≤ n ∧ n ≤ s.cfg.device.linkSilence

/-! ### Time -/

/-- The time and a pending set stay in range (R175, R177), and the pps state agrees with pps use (R176). -/
structure TimeLaw (s : State) : Prop where
  day : s.time.now.day ≤ 65535
  second : s.time.now.second ≤ 86399
  tenth : s.time.now.tenth ≤ 9
  staged : ∀ p, s.time.pendingSet = some p → p.1 ≤ 65535 ∧ p.2 ≤ 86399 ∧ s.time.pps = .tracking
  pps : s.time.pps = .unused ↔ s.cfg.device.ppsUse = false

end Sys2Proof.Machine
end

