-- ==== Sys2Proof/Certificates/Slice0/Obligations.lean ====
section
/-! DEFINITION. The statements about the block, for the provers. OBLIGATIONS.json gives each its tier and its sources. -/

open Sys2Proof Sys2Proof.Machine

/-! ### The queue of commands, completion and reset -/

/-- One step runs the command at the front of the queue on the state whose queue is the rest; with nothing waiting the
block idles, which is the model's choice (assumption 5). -/
def Obligations.StepRunsFrontCommand : Prop :=
  (∀ (c : Instr) (rest : List Instr) (s : State), s.pending = c :: rest → step s = exec c { s with pending := rest }) ∧
    ∀ s : State, s.pending = [] → step s = .next s

/-- Every command, on every state, answers a next state, and leaves the queue of waiting commands alone. -/
def Obligations.EveryCommandAnswersNext : Prop :=
  ∀ (c : Instr) (s : State), ∃ t, exec c s = .next t ∧ t.pending = s.pending

/-- The model's choice (assumption 3): a command whose event is not waiting does not come about and changes nothing;
nor does a take of a FIFO that is empty or whose head is of the other kind. R25: a duplicate is discarded with nothing
else changed. -/
def Obligations.EventsNotWaiting : Prop :=
  (∀ (t : Fin 16) (s : State),
     ((∀ h ∈ s.handOffs.seconds, h.channel ≠ t) → exec (.measuredSecond t) s = .next s) ∧
     ((∀ h ∈ s.handOffs.evaluations, h.transformer ≠ t) → exec (.episodeHandoff t) s = .next s) ∧
     ((∀ h ∈ s.handOffs.triggers, h.channel ≠ t) → exec (.levelTrigger t) s = .next s) ∧
     (t ∉ s.handOffs.disables → exec (.captureDisableReport t) s = .next s) ∧
     ((∀ e ∈ s.handOffs.enReports, e.transformer ≠ t) →
       exec (.energised t) s = .next s ∧ exec (.deenergised t) s = .next s) ∧
     (s.handOffs.recordTicks[t] = none → exec (.standInSecond t) s = .next s) ∧
     ((∀ e ∈ s.capture.waiting, e.expiry = none) → exec (.captureMissed t) s = .next s) ∧
     (s.handOffs.fieldTick = none → exec .fieldNone s = .next s) ∧
     (s.handOffs.trackerTick = none → exec .episodeQuietClose s = .next s) ∧
     (s.handOffs.linkTick = none → exec .linkSilent s = .next s) ∧
     (s.handOffs.reports = [] → exec .contactReport s = .next s) ∧
     (s.handOffs.panelReports = [] → exec .panelPress s = .next s ∧ exec .panelRelease s = .next s)) ∧
  ((∀ s : State, s.intake.fifo = [] → exec .takeCurrentFrame s = .next s ∧ exec .takeFieldFrame s = .next s) ∧
   (∀ (f : Frame) (rest : List Frame) (s : State), s.intake.fifo = f :: rest →
     (f.isCurrent = false → exec .takeCurrentFrame s = .next s) ∧ (f.isCurrent = true → exec .takeFieldFrame s = .next s)) ∧
   ∀ (f : Frame) (rest : List Frame) (s : State), s.intake.fifo = f :: rest →
     (s.intake.converters[f.converter].state = .locked f.seq ∨ s.intake.converters[f.converter].state = .faulted f.seq) →
     let taken := Host.Outcome.next (ρ := Refusal) (φ := Fault) { s with intake := { s.intake with fifo := rest } }
     (f.isCurrent = true → exec .takeCurrentFrame s = taken) ∧ (f.isCurrent = false → exec .takeFieldFrame s = taken))

/-- R181: power-on and RESETN run start-up from any state; so does Restart once it is due and its reply has been sent
(R182). Start-up loads a valid image, and otherwise the defaults of R1, R56, R155 and R179. The model's choices: capture
memory reads 0 where R137 says only that its contents are lost (assumption 2), a Restart's reset does not come about before
it is due (assumption 23), and the RATE strap is an operand, while raw input levels and the queue of commands survive
(assumption 24). -/
def Obligations.ResetsRunStartUp : Prop :=
  ((∀ i : Fin 16, defaultSet.transformers[i] =
      { enabled := false, gain := 10000, offsetSet := 0, learning := false, iWatch := 100, iWarn := 300, iAlarm := 600
        hyst := 20, dWatch := 10, dWarn := 30, dAlarm := 60, dFall := 300
        breakpoints := #v[⟨100, 50⟩, ⟨200, 200⟩, ⟨400, 800⟩, ⟨700, 2200⟩, ⟨1000, 4000⟩, ⟨1500, 7000⟩, ⟨2000, 10000⟩,
          ⟨3000, 15000⟩]
        tauHeat := 600, tauCool := 1200, tWarn := 3000, tAlarm := 6000, tHys := 200, checkMode := .off, coefA := 0
        coefB := 0, wAbs := 50, wPct := 20, doubtD := 60, reminder := 0, latched := false, captureLevel := .none
        capturePre := 2, capturePost := 20 }) ∧
    defaultSet.device =
      { mains := .hz50, fill := Vector.replicate 4 .hold, debounce := 20, quietTime := 3600, eStart := 300
        linkSilence := 0, panelLock := false, ppsUse := false, noticeMask := 0x3F } ∧
    defaultSet.taps = [0] ∧ ∀ k : Fin 4, defaultSet.maps[k] = ⟨0, .warn, 0, .follow, .energiseOnAlarm, false⟩) ∧
  ∀ (rateHigh : Bool) (s : State),
    (∃ t, exec (.powerOnReset rateHigh) s = .next t ∧ StartedUp .powerOn rateHigh s t) ∧
    (∃ t, exec (.pinReset rateHigh) s = .next t ∧ StartedUp .pin rateHigh s t) ∧
    (s.link.restart = .due → s.link.sending = none →
      ∃ t, exec (.restartReset rateHigh) s = .next t ∧ StartedUp .restart rateHigh s t) ∧
    (s.link.restart ≠ .due ∨ s.link.sending ≠ none → exec (.restartReset rateHigh) s = .next s)

/-- The reset state is what a power-on makes of it: no image, quiet inputs, RATE low (assumption 4: the model's
choice); and every law stated below holds at it. -/
def Obligations.LawsHoldAtReset : Prop :=
  (exec (.powerOnReset false) State.reset = .next State.reset) ∧
  (LinkLaw State.reset ∧ CaptureLaw State.reset ∧ TransformerLaw State.reset ∧ ThermalLaw State.reset ∧
     IntakeLaw State.reset ∧ CurrentsLaw State.reset ∧ EpisodeLaw State.reset ∧ ContactLaw State.reset ∧
     TimeLaw State.reset)

/-! ### Laws that every step keeps -/

/-- Every step keeps the laws of the transition queue (R171), the attention line (R172) and the request buffer
(R169). -/
def Obligations.StepKeepsLinkLaw : Prop :=
  ∀ s t : State, LinkLaw s → step s = .next t → LinkLaw t

/-- Every step keeps the laws of capture memory (R141) and of the pending set: at most one entry a channel, and no entry
of a disabled transformer once its disable has reached the unit (R146, R148); and the memory's canonical form. -/
def Obligations.StepKeepsCaptureLaw : Prop :=
  ∀ s t : State, CaptureLaw s → step s = .next t → CaptureLaw t

/-- Every step keeps each transformer's condition: service state against enabled, rest out of service, the two ages
never both nonzero (R104), O_eff within 256 codes of O_set (R51), learning only where it may gather (R49); O_eff, the runs,
the ages and the reminder count within the ranges of R4, and the de-energised time within that of R48, the settings being
within theirs. -/
def Obligations.StepKeepsTransformerLaw : Prop :=
  ∀ s t : State, TransformerLaw s → step s = .next t → TransformerLaw t

/-- Every step keeps the settings in their ranges and orders (R1, R179), and T and S within 0 to 20000 (R92). -/
def Obligations.StepKeepsThermalLaw : Prop :=
  ∀ s t : State, ThermalLaw s → step s = .next t → ThermalLaw t

/-- Every step keeps the FIFO and the partial work of the channels and of the field within their capacities, and each silence
timer within one second; a LOCKED or FAULTED converter's timer has not stopped (R23, R24). -/
def Obligations.StepKeepsIntakeLaw : Prop :=
  ∀ s t : State, IntakeLaw s → step s = .next t → IntakeLaw t

/-- Every step keeps every current the part forms within ±30000 (R39, R76, R84). -/
def Obligations.StepKeepsCurrentsLaw : Prop :=
  ∀ s t : State, CurrentsLaw s → step s = .next t → CurrentsLaw t

/-- Every step keeps the laws of the episodes (R130), of their numbers (R127), of the charge and of max T: no transformer is
warmer than its entry in the open episode says or than a hand-off on its way will make it say, so that cooling never raises it
(R17, R126, R134); and from one state to the next a closed record does not change (R130) and no charge decreases within an
episode (R133). -/
def Obligations.StepKeepsEpisodeLaw : Prop :=
  ∀ s t : State, EpisodeLaw s → step s = .next t → EpisodeLaw t ∧ EpisodesKept s t

/-- Every step keeps FOLLOW contacts at their source (R158), LATCH contacts out of CLOSED (R159), the drivers at
output and sense (R161), the panel timer (R164) and the link-silence timer (R162). -/
def Obligations.StepKeepsContactLaw : Prop :=
  ∀ s t : State, ContactLaw s → step s = .next t → ContactLaw t

/-- Every step keeps the time in range (R175), a set staged only while TRACKING (R177), UNUSED exactly with pps use
off (R176). -/
def Obligations.StepKeepsTimeLaw : Prop :=
  ∀ s t : State, TimeLaw s → step s = .next t → TimeLaw t

/-! ### Records as bytes, and arithmetic -/

/-- R184: a settings part in its ranges is 80 bytes and reading those bytes gives it back, so that no bit is dropped; the
device record and the map record give back what they were written from; the lengths of the records that replies carry;
the codes; and byte by byte, most significant first, the records and bodies of settings, devices, maps, transitions, live
parts, clock, field, episodes, contacts, captures and intake. R2: the violation codes. That a contact body shows the source
as the state stands, and not as last judged, is the model's reading (assumption 17). -/
def Obligations.RecordsReadBack : Prop :=
  (∀ c : Settings, SettingsOk c → c.bytes.length = 80 ∧ settingsOf c.bytes = c ∧ (settingsOf c.bytes).violation = none) ∧
  ((∀ d : DeviceSettings, DeviceOk d →
     d.bytes.length = 16 ∧ d.writtenBytes.length = 15 ∧ deviceOf d.writtenBytes d.noticeMask = d) ∧
   ∀ m : ContactMap, m.minLevel ≠ .normal → m.bytes.length = 7 ∧ mapOf m.bytes = m) ∧
  ((∀ t : Stamp, t.bytes.length = 6) ∧ (∀ t : Transition, t.bytes.length = 16) ∧ (∀ l : Live, l.bytes.length = 29) ∧
     (∀ r : CaptureRecord, r.bytes.length = 24) ∧ (∀ e : PendingEntry, e.bytes.length = 11) ∧
     (∀ e : RateEntry, e.bytes.length = 5) ∧ (∀ c : Converter, c.bytes.length = 3) ∧
     (∀ taps : List Int, (tapBytes taps).length = 1 + 2 * taps.length) ∧
     ∀ (b : List Byte) (k : Nat), u8 b k = (b.getD k 0).toNat ∧ u16 b k = 256 * u8 b k + u8 b (k + 1) ∧
       u24 b k = 65536 * u8 b k + 256 * u8 b (k + 1) + u8 b (k + 2) ∧
       s16 b k = (if u16 b k < 32768 then (u16 b k : Int) else u16 b k - 65536)) ∧
  ((∀ p ∈ ([(.levelUp, 0x01), (.levelDown, 0x02), (.reminder, 0x03), (.outOfService, 0x04), (.inService, 0x05),
        (.doubtOn, 0x10), (.doubtOff, 0x11), (.lostOn, 0x12), (.lostOff, 0x13), (.offsetLearned, 0x14),
        (.offsetFault, 0x15), (.converterResync, 0x16), (.converterFault, 0x17), (.converterAbsent, 0x18),
        (.fieldNone, 0x19), (.episodeOpen, 0x20), (.episodeClose, 0x21), (.captureDone, 0x30), (.captureMissed, 0x31),
        (.clockSet, 0x40), (.ppsLost, 0x41), (.settingsSaved, 0x42), (.settingsSaveFailed, 0x43), (.linkSilent, 0x44),
        (.restarted, 0x45)] : List (TransitionKind × Nat)), p.1.code = p.2) ∧
   ([.ok, .clamped, .busy, .locked, .refused, .unknownKind, .badLength, .notFound, .wrongState] : List Status).map Status.code
     = [0, 1, 2, 3, 4, 5, 6, 7, 8] ∧
   ([.powerOn, .pin, .restart] : List ResetCause).map ResetCause.code = [0, 1, 2] ∧
   ([.stored, .default] : List SettingsSource).map SettingsSource.code = [0, 1] ∧
   ([.hz50, .hz60] : List Mains).map Mains.code = [50, 60] ∧
   ([.hold, .zero] : List FillMode).map FillMode.code = [0, 1] ∧
   ([.off, .report, .guard] : List CheckMode).map CheckMode.code = [0, 1, 2] ∧
   ([.none, .warn, .alarm] : List CaptureLevel).map CaptureLevel.code = [0, 1, 2] ∧
   ([.follow, .latch] : List ContactMode).map ContactMode.code = [0, 1] ∧
   ([.energiseOnAlarm, .deenergiseOnAlarm] : List Sense).map Sense.code = [0, 1] ∧
   ([.thresholds, .breakpoints, .thermal] : List Violation).map Violation.code = [0, 1, 2] ∧
   ([.off, .outOfService, .inService] : List ServiceState).map ServiceState.code = [0, 1, 2] ∧
   ([.normal, .watch, .warn, .alarm] : List Level).map Level.rank = [0, 1, 2, 3] ∧
   ([.good, .suspect, .filled, .clipped, .fault] : List Grade).map Grade.rank = [0, 1, 2, 3, 4] ∧
   (∀ r : Byte, ([.absent, .locked r, .faulted r] : List ConverterState).map ConverterState.code = [0, 1, 2]) ∧
   ([.good, .degraded, .none] : List EQuality).map EQuality.code = [0, 1, 2] ∧
   ([.open, .closed, .closedActive, .closedHeld, .closedAcked] : List ContactState).map ContactState.code
     = [0, 1, 2, 3, 4] ∧
   ([.off, .steady, .flashing, .test] : List LampState).map LampState.code = [0, 1, 2, 3] ∧
   ([.idle, .pressed, .test, .testEnded, .ignored] : List PanelState).map PanelState.code = [0, 1, 2, 3, 4] ∧
   ([.quiet, .forced] : List CloseCause).map CloseCause.code = [0, 1] ∧
   ([.level, .request] : List CaptureCause).map CaptureCause.code = [0, 1] ∧
   ([.filling, .suspended, .done] : List CaptureState).map CaptureState.code = [0, 1, 2] ∧
   ([.unused, .tracking, .lost] : List PpsState).map PpsState.code = [0, 1, 2]) ∧
  (let one : Nat → List Byte := fun n => [BitVec.ofNat 8 n]
   let two := fun n : Nat => one (n / 256) ++ one n
   let three := fun n : Nat => one (n / 65536) ++ two n
   let pair := fun v : Int => two (v % 65536).toNat
   let triple := fun v : Int => three (v % 16777216).toNat
   let bit := fun (k : Nat) (b : Bool) => if b = true then 2 ^ k else 0
   let yes := fun b : Bool => one (bit 0 b)
   let stamp := fun t : Stamp => two t.day ++ three t.second ++ one t.tenth
   let stampOr := fun t : Option Stamp => stamp (t.getD ⟨0, 0, 0⟩)
   (∀ c : Settings, c.bytes = yes c.enabled ++ two c.gain ++ pair c.offsetSet ++ yes c.learning ++ two c.iWatch
     ++ two c.iWarn ++ two c.iAlarm ++ two c.hyst ++ two c.dWatch ++ two c.dWarn ++ two c.dAlarm ++ two c.dFall
     ++ c.breakpoints.toList.flatMap (fun b => two b.x ++ two b.r) ++ two c.tauHeat ++ two c.tauCool ++ two c.tWarn
     ++ two c.tAlarm ++ two c.tHys ++ one c.checkMode.code ++ pair c.coefA ++ pair c.coefB ++ two c.wAbs ++ one c.wPct
     ++ two c.doubtD ++ two c.reminder ++ yes c.latched ++ one c.captureLevel.code ++ one c.capturePre
     ++ one c.capturePost) ∧
   (∀ d : DeviceSettings, d.bytes = d.writtenBytes ++ one d.noticeMask.toNat ∧
     d.writtenBytes = one d.mains.code ++ d.fill.toList.flatMap (fun m => one m.code) ++ one d.debounce
       ++ three d.quietTime ++ two d.eStart ++ two d.linkSilence ++ yes d.panelLock ++ yes d.ppsUse) ∧
   (∀ m : ContactMap, m.bytes = two m.transformers.toNat ++ one m.minLevel.rank ++ one m.sources.toNat ++ one m.mode.code
     ++ one m.sense.code ++ yes m.testEnable) ∧
   (∀ n : Nat, beBytes 2 n = two n) ∧ (∀ taps : List Int, tapBytes taps = one taps.length ++ taps.flatMap pair) ∧
   (∀ t : Stamp, t.bytes = stamp t) ∧
   (∀ t : Transition, t.bytes = stamp t.stamp ++ one (match t.source with | some i => i.val | none => 255) ++ one t.kind.code
     ++ one (bit 0 t.levels.isSome + bit 1 t.x.isSome + bit 2 t.t.isSome + bit 3 t.detail.isSome + bit 4 t.suppressed)
     ++ one (match t.levels with | some l => l.1.rank * 16 + l.2.rank | none => 0)
     ++ two (t.x.getD 0) ++ two (t.t.getD 0) ++ two (t.detail.getD 0)) ∧
   (∀ l : Live, l.bytes = one (bit 0 l.measured.isSome + bit 1 l.predicted.isSome + bit 2 l.basis.isSome)
     ++ one (bit 0 l.offsetFault + bit 1 l.doubt + bit 2 l.lost + bit 3 l.unacknowledged + bit 4 l.suppressed)
     ++ one l.service.code ++ one l.level.rank
     ++ pair ((l.measured.map Measured.m).getD 0) ++ one ((l.measured.map fun m => m.quality.rank).getD 0)
     ++ pair l.offsetEff ++ two l.age ++ pair (l.predicted.getD 0) ++ two (l.basis.getD 0) ++ two l.outsideRun
     ++ two l.insideRun ++ two l.heat ++ two l.steady ++ two l.riseAge ++ two l.calmAge ++ two l.reminderCount) ∧
   (∀ s : State, s.clockBody = stamp s.time.now ++ yes s.time.pendingSet.isSome
     ++ two ((s.time.pendingSet.map Prod.fst).getD 0) ++ three ((s.time.pendingSet.map Prod.snd).getD 0)
     ++ yes s.cfg.device.ppsUse ++ one s.time.pps.code) ∧
   (∀ (first count : Nat) (s : State), s.fieldBody first count =
     (let f := s.field
      let e := f.latest
      let used := f.history.toList.take ((e.formed.map Prod.fst).getD 0)
      pair e.north ++ pair e.east ++ one e.quality.code ++ yes e.saturated ++ one ((e.formed.map Prod.fst).getD 0)
        ++ stampOr (e.formed.map Prod.snd) ++ two f.age ++ one (used.filter RateEntry.gap).length
        ++ one (used.filter RateEntry.clamp).length ++ triple ((f.lastMeans.map FieldMeans.north).getD 0)
        ++ triple ((f.lastMeans.map FieldMeans.east).getD 0) ++ stampOr (f.lastMeans.map FieldMeans.stamp)
        ++ yes f.linked ++ one s.intake.converters[(4 : Fin 5)].state.code
        ++ one (bit 0 e.formed.isSome + bit 1 f.lastMeans.isSome) ++ one count
        ++ ((f.history.toList.drop first).take count).flatMap fun h =>
          pair h.dN ++ pair h.dE ++ one (bit 0 h.gap + bit 1 h.clamp))) ∧
   (∀ (e : Episode) (s : State), s.episodeBody e =
     (let t := s.tracker
      let held := t.openEpisode.toList ++ t.history
      yes t.openEpisode.isSome ++ three t.quietTimer ++ two t.nextNumber ++ one held.length ++ yes t.openEpisode.isSome
        ++ held.flatMap (fun h => two h.number) ++ two e.number ++ stamp e.start ++ stampOr (e.closed.map Prod.fst)
        ++ one ((e.closed.map fun c => c.2.code).getD 0) ++ two ((e.maxE.map Prod.fst).getD 0)
        ++ stampOr (e.maxE.map Prod.snd) ++ one (bit 0 e.closed.isSome + bit 1 e.maxE.isSome)
        ++ (List.finRange 16).flatMap fun i => one e.entries[i].highest.rank)) ∧
   (∀ (i : Fin 16) (e : Episode), e.entryBody i =
     (let n := e.entries[i]
      two e.number ++ yes e.closed.isNone ++ one (bit 0 n.peak.isSome) ++ two ((n.peak.map Prod.fst).getD 0)
        ++ stampOr (n.peak.map Prod.snd) ++ one n.highest.rank ++ (two (n.charge / 65536) ++ two n.charge)
        ++ two n.maxT)) ∧
   (∀ (k : Fin 4) (s : State), s.contactBody k =
     (let c := s.driver.contacts[k]
      let m := s.cfg.maps[k]
      m.bytes ++ one c.state.code
        ++ one (bit 0 (s.sourceOf m) + bit 1 (outputInAlarm s.driver.panel m c.state) + bit 2 c.driver
          + bit 3 s.driver.linkSilent + bit 4 s.driver.linkTimer.isNone)
        ++ one s.driver.lamp.code ++ one s.driver.panel.code ++ two (s.driver.linkTimer.getD 0))) ∧
   (∀ c : CaptureUnit,
     let head := two c.freeSlots ++ two c.writePos ++ one c.nextNumber
     c.listBytes = head ++ one c.records.length ++ c.records.flatMap (fun r =>
       one r.number ++ one r.channel.val ++ one r.cause.code ++ stamp r.stamp ++ one r.state.code
         ++ one (bit 0 r.startDelay.isSome + bit 1 r.gap.isSome + bit 2 r.truncated) ++ two (r.startDelay.getD 0)
         ++ one r.preCount ++ one r.postTarget ++ one r.postStored ++ two r.firstSlot
         ++ two (32 * (r.preCount + r.postStored)) ++ one ((r.gap.map Prod.fst).getD 0)
         ++ two ((r.gap.map Prod.snd).getD 0) ++ one r.extensions) ∧
     c.pendingBytes = head ++ one c.waiting.length ++ (servingOrder c.waiting).flatMap (fun e =>
       one e.channel.val ++ one e.cause.code ++ stamp e.stamp ++ one e.pre ++ one e.post ++ one e.wait) ∧
     ∀ (r : CaptureRecord) (offset count : Nat), c.sampleBytes r offset count =
       one r.number ++ one r.state.code ++ two (32 * (r.preCount + r.postStored)) ++ yes r.gap.isSome
         ++ one ((r.gap.map Prod.fst).getD 0) ++ two ((r.gap.map Prod.snd).getD 0) ++ one count
         ++ (List.range count).flatMap fun j => pair (slotRead c.memory ((r.firstSlot + offset + j) % 16384))) ∧
   ∀ v : Intake, v.bytes = (List.finRange 5).flatMap (fun c =>
       one v.converters[c].state.code ++ [v.converters[c].state.ref?.getD 0]
         ++ one (bit 0 v.converters[c].state.ref?.isSome + bit 1 v.converters[c].overrun
           + bit 2 v.converters[c].resyncSeen))
     ++ one v.fifo.length ++ yes v.crcSeen)

/-- R21: the register starts at 0; each byte is combined and shifted eight times, with 0x07 when a 1 leaves the top;
and the bytes of a frame followed by their own check value leave 0. Every division rounds to the nearest integer,
halves away from zero (00_scope.md, Rounding). -/
def Obligations.CheckValuesAndRounding : Prop :=
  (crc8 [] = 0 ∧
   (∀ (bs : List Byte) (b : Byte),
     crc8 (bs ++ [b]) = (fun r : Byte => if r.msb then (r <<< 1) ^^^ 0x07 else r <<< 1)^[8] (crc8 bs ^^^ b)) ∧
   ∀ bs : List Byte, crc8 (bs ++ [crc8 bs]) = 0) ∧
  (∀ (n : Int) (d : Nat), 0 < d →
     2 * (roundDiv n d * d - n).natAbs ≤ d ∧
     (2 * (roundDiv n d * d - n).natAbs = d → n.natAbs < (roundDiv n d * d).natAbs) ∧
     (0 ≤ n → (roundDivNat n.toNat d : Int) = roundDiv n d))

/-! ### The sample line and the intake -/

/-- R19, R20, R22, R23: a whole frame whose check byte agrees is a valid frame with the fields of its bytes, whether it is
found while hunting or its sync byte closed the frame before, and whether the next sync byte or an idle line closes it: it
joins the FIFO, or at a full FIFO sets OVERRUN, and its converter's silence timer, running or not, has its one second to run
again. -/
def Obligations.ValidSampleFrameArrives : Prop :=
  (∀ n : Nat, signed 16 n = (if n < 32768 then (n : Int) else n - 65536) ∧
    signed 24 n = (if n < 8388608 then (n : Int) else n - 16777216)) ∧
  ∀ (covered bytes : List Byte) (s : State),
    s.intake.line = [] ∧ bytes = 0x96 :: (covered ++ [crc8 covered]) ∨
      s.intake.line = [0x96] ∧ bytes = covered ++ [crc8 covered] →
    let arrives := fun f : Frame => exec (.sampleFrame bytes) s = .next (s.frameJoined [0x96] f) ∧
      exec (.sampleLineIdle bytes) s = .next (s.frameJoined [] f)
    (∀ (c : Fin 4) (q st a b a' b' a'' b'' a''' b''' : Byte),
      covered = [BitVec.ofNat 8 (16 * c.val + 1), q, st, a, b, a', b', a'', b'', a''', b'''] →
      arrives (.current c q (st.getLsbD 7) (st.getLsbD 6)
        #v[signed 16 (a.toNat * 256 + b.toNat), signed 16 (a'.toNat * 256 + b'.toNat),
          signed 16 (a''.toNat * 256 + b''.toNat), signed 16 (a'''.toNat * 256 + b'''.toNat)])) ∧
    ∀ q st a b c a' b' c' : Byte, covered = [0x42, q, st, a, b, c, a', b', c'] →
      arrives (.field q (st.getLsbD 7) (st.getLsbD 6) (signed 24 ((a.toNat * 256 + b.toNat) * 256 + c.toNat))
        (signed 24 ((a'.toNat * 256 + b'.toNat) * 256 + c'.toNat)))

/-- R18 to R20: what damage and discards do to a frame in assembly. A frame closed complete whose check byte differs is
discarded and sets CRC_SEEN, and hunting resumes with the byte after its sync byte: what follows on the line is what the
frame's later bytes, received while hunting, make of it, whatever frame another 0x96 among them begins; with none among
them nothing but the closing byte is found. A damaged byte discards a frame and sets CRC_SEEN, and is passed over while
hunting; a header that does not pass, a byte other than 0x96 behind a complete frame, and an idle line behind a short one
discard it with no flag. -/
def Obligations.DamagedSampleFrames : Prop :=
  (∀ (kind : FrameKind) (covered : List Byte) (check : Byte) (s : State),
     s.intake.line = [] → headerKind (covered.getD 0 0) = some kind → covered.length + 2 = kind.bytes →
     crc8 covered ≠ check → (0x96 : Byte) ∉ covered → check ≠ 0x96 →
     exec (.sampleFrame (0x96 :: (covered ++ [check]))) s
         = .next { s with intake := { s.intake with line := [0x96], crcSeen := true } } ∧
       exec (.sampleLineIdle (0x96 :: (covered ++ [check]))) s
         = .next { s with intake := { s.intake with crcSeen := true } }) ∧
  (∀ (kind : FrameKind) (covered : List Byte) (check : Byte) (s : State),
     s.intake.line = [] → headerKind (covered.getD 0 0) = some kind → covered.length + 2 = kind.bytes →
     crc8 covered ≠ check →
     let seen : State := { s with intake := { s.intake with crcSeen := true } }
     exec (.sampleFrame (0x96 :: (covered ++ [check]))) s = exec (.sampleFrame (covered ++ [check])) seen ∧
       exec (.sampleLineIdle (0x96 :: (covered ++ [check]))) s = exec (.sampleLineIdle (covered ++ [check])) seen) ∧
  ((∀ (kind : FrameKind) (h : Byte) (more : List Byte) (s : State), s.intake.line = [] → headerKind h = some kind →
     (more.length + 2 ≤ kind.bytes → exec (.sampleDamagedByte (0x96 :: h :: more)) s
       = .next { s with intake := { s.intake with crcSeen := true } }) ∧
     (more.length + 2 < kind.bytes → exec (.sampleLineIdle (0x96 :: h :: more)) s = .next s) ∧
     (∀ b : Byte, more.length + 2 = kind.bytes → b ≠ 0x96 →
       exec (.sampleFrameDiscard (0x96 :: h :: (more ++ [b]))) s = .next s)) ∧
   (∀ (noise : List Byte) (s : State), s.intake.line = [] → (0x96 : Byte) ∉ noise →
     exec (.sampleDamagedByte noise) s = .next s ∧ exec (.sampleLineIdle noise) s = .next s) ∧
   ∀ (h : Byte) (s : State), s.intake.line = [] → headerKind h = none →
     exec (.sampleFrameDiscard [0x96, h]) s
       = .next { s with intake := { s.intake with line := if h = 0x96 then [0x96] else [] } })

/-- R25, R26, R28, R29, R38: a current frame in step, or up to eight frames past it, of a converter that has a reference.
LOCKED, it hands on, in sequence order, a group of fills tagged FILLED for each missing frame, with the sequence of the frame
it stands for, and then the group of its own sequence and codes, SUSPECT under REF_LOW, whatever cycles, blocks and seconds
this completes (`Obligations.CyclesAndSecondsComplete`). With SELFTEST_FAIL the converter becomes FAULTED with CONVERTER_FAULT, the contacts
are told, and a group of fills tagged FAULT stands in place of the frame's own codes; FAULTED already, every group is such
fills. Only a real code becomes the held value, and the reference follows. Where no cycle completes, what the channels hold
then stands written out. -/
def Obligations.InStepCurrentFrame : Prop :=
  ∀ (c : Fin 4) (q r : Byte) (selftest low : Bool) (codes : Vector Int 4) (rest : List Frame) (s : State),
    let d := (q - r).toNat
    let conv := s.intake.converters[currentConverter c]
    let own := fun ch : Fin 16 => (codeAt codes ch, if low then Tag.suspect else .good)
    let fill := fun (tag : Tag) (ch : Fin 16) => (s.fillAt ch, tag)
    let fills := fun (n : Nat) (tag : Tag) (ch : Fin 16) => List.replicate n (fill tag ch)
    let taken := fun v : ConverterState =>
      { s.intake with fifo := rest, converters := s.intake.converters.set (currentConverter c) { conv with state := v } }
    s.intake.fifo = .current c q selftest low codes :: rest → 1 ≤ d → d ≤ 9 →
    (let missed := fun (tag : Tag) (n : Nat) (u : State) =>
       (List.range n).foldl (fun v k => v.takeGroup (groupOf c (r + 1 + BitVec.ofNat 8 k) (fill tag))) u
     let filled := missed .filled (d - 1) { s with intake := { s.intake with fifo := rest } }
     (conv.state = .locked r → selftest = false → exec .takeCurrentFrame s = .next (State.takeGroup (groupOf c q own)
       { filled with intake := { taken (.locked q) with held := s.heldWith c codes } })) ∧
     (conv.state = .locked r → selftest = true → exec .takeCurrentFrame s = .next (State.takeGroup (groupOf c q (fill .fault))
       { filled with
         intake := taken (.faulted q)
         link := filled.made [deviceRecord .converterFault (some c.val) s.time.now]
         handOffs := { filled.handOffs with reports := filled.handOffs.reports ++ [.converter (currentConverter c)] } })) ∧
     (conv.state = .faulted r → exec .takeCurrentFrame s = .next
       (missed .fault d { s with intake := taken (.faulted q) }))) ∧
    (s.ShortCycles c d →
      (conv.state = .locked r → selftest = false → exec .takeCurrentFrame s = .next
        { s with
          intake := { taken (.locked q) with held := s.heldWith c codes }
          channels := s.takenSamples c fun ch => fills (d - 1) .filled ch ++ [own ch] }) ∧
      (conv.state = .locked r → selftest = true → exec .takeCurrentFrame s = .next
        { s with
          intake := taken (.faulted q)
          channels := s.takenSamples c fun ch => fills (d - 1) .filled ch ++ fills 1 .fault ch
          link := s.made [deviceRecord .converterFault (some c.val) s.time.now]
          handOffs := { s.handOffs with reports := s.handOffs.reports ++ [.converter (currentConverter c)] } }) ∧
      (conv.state = .faulted r → exec .takeCurrentFrame s = .next
        { s with intake := taken (.faulted q), channels := s.takenSamples c (fills d .fault) }))

/-- R25, R26, R28, R29, R57: a field frame of a converter 4 that has a reference, with sequence difference 1 to 9. LOCKED, it
hands on, in sequence order, one held fill for each missing frame, with the sequence of the frame it stands for, and then its
own sequence and values, each a group that the Field Estimator takes, completing its field second or not (`Obligations.FieldSecondCompletes`). With SELFTEST_FAIL it becomes FAULTED with
CONVERTER_FAULT, the contacts are told, and its own group is a fill tagged FAULT, which makes the field second unsound;
FAULTED already, every group is such a fill. Where no group completes the field second, what it holds then stands written
out. -/
def Obligations.FieldGapIsFilled : Prop :=
  ∀ (q r : Byte) (selftest low : Bool) (north east : Int) (rest : List Frame) (s : State),
    let d := (q - r).toNat
    let p := s.field.partialField
    let conv := s.intake.converters[(4 : Fin 5)]
    let taken := fun v : ConverterState =>
      { s.intake with fifo := rest, converters := s.intake.converters.set 4 { conv with state := v } }
    let fill := fun (seq : Byte) (tag : Tag) => SampleGroup.field seq s.intake.heldNorth s.intake.heldEast tag
    let filled : FieldEstimator := { s.field with
      partialField := ⟨p.count + d, p.north + d * s.intake.heldNorth, p.east + d * s.intake.heldEast, false⟩ }
    s.intake.fifo = .field q selftest low north east :: rest → 1 ≤ d → d ≤ 9 →
    (let missed := fun (tag : Tag) (n : Nat) (u : State) =>
       (List.range n).foldl (fun v k => v.takeGroup (fill (r + 1 + BitVec.ofNat 8 k) tag)) u
     let before := missed .filled (d - 1) { s with intake := { s.intake with fifo := rest } }
     (conv.state = .locked r → selftest = false → exec .takeFieldFrame s = .next (State.takeGroup (.field q north east .good)
       { before with intake := { taken (.locked q) with heldNorth := north, heldEast := east } })) ∧
     (conv.state = .locked r → selftest = true → exec .takeFieldFrame s = .next (State.takeGroup (fill q .fault)
       { before with
         intake := taken (.faulted q)
         link := s.made [deviceRecord .converterFault (some 4) s.time.now]
         handOffs := { s.handOffs with reports := s.handOffs.reports ++ [.converter 4] } })) ∧
     (conv.state = .faulted r → exec .takeFieldFrame s = .next
       (missed .fault d { s with intake := taken (.faulted q) }))) ∧
    (p.count + d < 10 →
      (conv.state = .locked r → selftest = false → exec .takeFieldFrame s = .next
        { s with
          intake := { taken (.locked q) with heldNorth := north, heldEast := east }
          field :=
            { s.field with
              partialField :=
                ⟨p.count + d, p.north + (d - 1 : Nat) * s.intake.heldNorth + north,
                  p.east + (d - 1 : Nat) * s.intake.heldEast + east, p.sound⟩ } }) ∧
      (conv.state = .locked r → selftest = true → exec .takeFieldFrame s = .next
        { s with
          intake := taken (.faulted q)
          field := filled
          link := s.made [deviceRecord .converterFault (some 4) s.time.now]
          handOffs := { s.handOffs with reports := s.handOffs.reports ++ [.converter 4] } }) ∧
      (conv.state = .faulted r → exec .takeFieldFrame s = .next
        { s with intake := taken (.faulted q), field := filled }))

/-- R57: a field group handed on is taken by the Field Estimator, by its values and its tag: it joins the partial field second,
which one tagged FAULT makes unsound. R58 to R63:
the tenth group completes the field second: its means, a rate differenced against the means before or a gap entry, the
history one place on, and E formed through the ground response table; E age becomes 0. A field frame in step brings the
tenth group as any other. -/
def Obligations.FieldSecondCompletes : Prop :=
  (∀ (north east : Int) (tag : Tag) (s : State),
    let p := s.field.partialField
    let sound := p.sound && decide (tag ≠ .fault)
    (∀ q : Byte, s.takeGroup (.field q north east tag) = s.takeFieldGroup north east tag) ∧
    let n := roundDiv (p.north + north) 10
    let e := roundDiv (p.east + east) 10
    (p.count < 9 → s.takeFieldGroup north east tag = { s with field :=
      { s.field with partialField := ⟨p.count + 1, p.north + north, p.east + east, sound⟩ } }) ∧
    (p.count = 9 → s.cfg.taps.length ≤ 64 →
      ∃ f : FieldEstimator,
        s.takeFieldGroup north east tag = { s with field := f } ∧
        f.partialField = ⟨0, 0, 0, true⟩ ∧ f.lastMeans = some ⟨n, e, sound, s.time.now⟩ ∧ f.linked = true ∧ f.age = 0 ∧
        (∀ l, s.field.lastMeans = some l → s.field.linked = true → sound = true → l.sound = true →
          f.history[0] = ⟨max (-32767) (min 32767 (n - l.north)), max (-32767) (min 32767 (e - l.east)), false,
            decide (32767 < (n - l.north).natAbs ∨ 32767 < (e - l.east).natAbs)⟩) ∧
        ((s.field.lastMeans = none ∨ s.field.linked = false ∨ sound = false ∨
            ∃ l, s.field.lastMeans = some l ∧ l.sound = false) → f.history[0] = ⟨0, 0, true, false⟩) ∧
        (∀ j : Fin 63, f.history[j.val + 1] = s.field.history[j.val]) ∧
        (let used := f.history.toList.take s.cfg.taps.length
         let eN := roundDiv (List.zipWith (fun k h => k * RateEntry.dE h) s.cfg.taps used).sum 1000
         let eE := roundDiv (-(List.zipWith (fun k h => k * RateEntry.dN h) s.cfg.taps used).sum) 1000
         f.latest.north = max (-32767) (min 32767 eN) ∧ f.latest.east = max (-32767) (min 32767 eE) ∧
           (f.latest.saturated = true ↔ 32767 < eN.natAbs ∨ 32767 < eE.natAbs) ∧
           f.latest.quality = (if ∃ h ∈ used, RateEntry.gap h = true then .degraded else .good) ∧
           f.latest.formed = some (s.cfg.taps.length, s.time.now)))) ∧
  ∀ (q r : Byte) (low : Bool) (north east : Int) (rest : List Frame) (s : State),
    let conv := s.intake.converters[(4 : Fin 5)]
    s.intake.fifo = .field q false low north east :: rest → conv.state = .locked r → q = r + 1 →
    exec .takeFieldFrame s = .next (State.takeFieldGroup north east .good
      { s with intake :=
        { s.intake with
          fifo := rest
          converters := s.intake.converters.set 4 { conv with state := .locked q }
          heldNorth := north
          heldEast := east } })

/-- R27, R28, R45, R66, R145, R147: a resync of a converter that has a reference, LOCKED or FAULTED. Its partial work is
abandoned, and an active capture of its channels ends truncated; then CONVERTER_RESYNC with the converter's number is made,
RESYNC_SEEN set, the reference follows, and a frame with SELFTEST_FAIL makes a LOCKED converter FAULTED with
CONVERTER_FAULT, the contacts told; the frame's samples begin fresh partials, fills tagged FAULT in their place while the
converter is FAULTED, held values standing. -/
def Obligations.ResyncAbandonsPartialWork : Prop :=
  (∀ (q r : Byte) (selftest low : Bool) (north east : Int) (rest : List Frame) (s : State),
    let conv := s.intake.converters[(4 : Fin 5)]
    let taken := fun v : ConverterState =>
      { s.intake with
        fifo := rest, converters := s.intake.converters.set 4 { conv with state := v, resyncSeen := true } }
    let resync := deviceRecord .converterResync (some 4) s.time.now
    let begun := fun (n e : Int) (sound : Bool) =>
      { s.field with partialField := ⟨1, n, e, sound⟩, linked := false }
    let filled := begun s.intake.heldNorth s.intake.heldEast false
    s.intake.fifo = .field q selftest low north east :: rest → 10 ≤ (q - r).toNat →
    (conv.state = .locked r → selftest = false → exec .takeFieldFrame s = .next
      { s with
        intake := { taken (.locked q) with heldNorth := north, heldEast := east }
        field := begun north east true
        link := s.made [resync] }) ∧
    (conv.state = .locked r → selftest = true → exec .takeFieldFrame s = .next
      { s with
        intake := taken (.faulted q)
        field := filled
        link := s.made [resync, deviceRecord .converterFault (some 4) s.time.now]
        handOffs := { s.handOffs with reports := s.handOffs.reports ++ [.converter 4] } }) ∧
    (conv.state = .faulted r → exec .takeFieldFrame s = .next
      { s with intake := taken (.faulted q), field := filled, link := s.made [resync] })) ∧
  ∀ (c : Fin 4) (q r : Byte) (selftest low : Bool) (codes : Vector Int 4) (rest : List Frame) (s : State),
    let conv := s.intake.converters[currentConverter c]
    let taken := fun v : ConverterState =>
      { s.intake with
        fifo := rest
        converters := s.intake.converters.set (currentConverter c) { conv with state := v, resyncSeen := true } }
    let resync := deviceRecord .converterResync (some c.val) s.time.now
    let begun := fun sample : Fin 16 → Int × Tag => Vector.ofFn fun ch =>
      if converterOf ch = c then
        { s.channels[ch] with
          cycle := some ⟨[(sample ch).1], gradeOf (sample ch).2 (sample ch).1, s.cfg.transformers[ch].gain,
            s.live[ch].offsetEff⟩
          block := ⟨0, 0, .good⟩
          second := ⟨0, 0, .good, (sample ch).1, 1⟩
          ring := [] }
      else s.channels[ch]
    let filled := begun fun ch => (s.fillAt ch, .fault)
    s.intake.fifo = .current c q selftest low codes :: rest → 10 ≤ (q - r).toNat →
    ∃ (u : CaptureUnit) (ts : List Transition), NoticeTaken (fun ch => converterOf ch = c) s u ts ∧
      (conv.state = .locked r → selftest = false → exec .takeCurrentFrame s = .next
        { s with
          capture := u
          intake := { taken (.locked q) with held := s.heldWith c codes }
          channels := begun fun ch => (codeAt codes ch, if low then .suspect else .good)
          link := s.made (ts ++ [resync]) }) ∧
      (conv.state = .locked r → selftest = true → exec .takeCurrentFrame s = .next
        { s with
          capture := u
          intake := taken (.faulted q)
          channels := filled
          link := s.made (ts ++ [resync, deviceRecord .converterFault (some c.val) s.time.now])
          handOffs := { s.handOffs with reports := s.handOffs.reports ++ [.converter (currentConverter c)] } }) ∧
      (conv.state = .faulted r → exec .takeCurrentFrame s = .next
        { s with
          capture := u, intake := taken (.faulted q), channels := filled, link := s.made (ts ++ [resync]) })

/-- R24, R28: the first frame taken of an ABSENT converter is its reference, with no fill for earlier frames, and its
silence timer goes on, at 0 tenths with its expiry still waiting too (the model's choice, assumption 32), or has one second
to run where it had stopped. Without SELFTEST_FAIL it is LOCKED and its values are handed on with its sequence (R29); with
it, it is FAULTED with CONVERTER_FAULT, fills tagged FAULT are handed on in their place, and the contacts are told. R23,
R145, R147: a silence timer whose second has passed runs out as its expiry is taken and makes a LOCKED or FAULTED converter
ABSENT, with CONVERTER_ABSENT and the abandon notice, which ends an active capture of the converter's channels truncated; an
ABSENT one keeps its state with nothing emitted, and a timer that has stopped, or that an arrival taken first has reloaded,
does not run out. That CONVERTER_ABSENT comes before that capture's CAPTURE_DONE is the model's reading (assumption 13). -/
def Obligations.ConverterComesAndGoes : Prop :=
  (∀ (q : Byte) (selftest low : Bool) (north east : Int) (rest : List Frame) (s : State),
     let conv := s.intake.converters[(4 : Fin 5)]
     let taken := fun v : ConverterState =>
       { s.intake with
         fifo := rest
         converters := s.intake.converters.set 4 { conv with state := v, timer := some (conv.timer.getD 10) } }
     s.intake.fifo = .field q selftest low north east :: rest → conv.state = .absent →
     exec .takeFieldFrame s = .next
       (if selftest then
         State.takeGroup (.field q s.intake.heldNorth s.intake.heldEast .fault)
           { s with
             intake := taken (.faulted q)
             link := s.made [deviceRecord .converterFault (some 4) s.time.now]
             handOffs := { s.handOffs with reports := s.handOffs.reports ++ [.converter 4] } }
       else
         State.takeGroup (.field q north east .good)
           { s with intake := { taken (.locked q) with heldNorth := north, heldEast := east } })) ∧
  (∀ (c : Fin 4) (q : Byte) (selftest low : Bool) (codes : Vector Int 4) (rest : List Frame) (s : State),
     let conv := s.intake.converters[currentConverter c]
     let own := fun ch : Fin 16 => (codeAt codes ch, if low then Tag.suspect else .good)
     let fill := fun ch : Fin 16 => (s.fillAt ch, Tag.fault)
     let taken := fun v : ConverterState =>
       { s.intake with
         fifo := rest
         converters := s.intake.converters.set (currentConverter c)
           { conv with state := v, timer := some (conv.timer.getD 10) } }
     let locked : State := { s with intake := { taken (.locked q) with held := s.heldWith c codes } }
     let faulted : State := { s with
       intake := taken (.faulted q)
       link := s.made [deviceRecord .converterFault (some c.val) s.time.now]
       handOffs := { s.handOffs with reports := s.handOffs.reports ++ [.converter (currentConverter c)] } }
     s.intake.fifo = .current c q selftest low codes :: rest → conv.state = .absent →
     exec .takeCurrentFrame s = .next
         (if selftest then faulted.takeGroup (groupOf c q fill) else locked.takeGroup (groupOf c q own)) ∧
       (s.ShortCycles c 1 → exec .takeCurrentFrame s = .next
         (if selftest then { faulted with channels := s.takenSamples c fun ch => [fill ch] }
         else { locked with channels := s.takenSamples c fun ch => [own ch] }))) ∧
  (∀ (c : Fin 5) (s : State),
     let conv := s.intake.converters[c]
     (conv.timer ≠ some 0 → exec (.silenceTimerExpiry c) s = .next s) ∧
     (conv.timer = some 0 →
       let t : State := { s with intake := { s.intake with converters := s.intake.converters.set c { conv with
         state := .absent, timer := none } } }
       (conv.state = .absent → exec (.silenceTimerExpiry c) s = .next t) ∧
       (conv.state ≠ .absent →
         let absent := deviceRecord .converterAbsent (some c.val) s.time.now
         let told : State := { t with
           handOffs := if ∃ r, conv.state = .faulted r then
             { s.handOffs with reports := s.handOffs.reports ++ [.converter c] } else s.handOffs }
         (c = 4 → exec (.silenceTimerExpiry c) s = .next
           { told with
             field := { s.field with partialField := ⟨0, 0, 0, true⟩, linked := false }
             link := s.made [absent] }) ∧
         (c ≠ 4 → ∃ (u : CaptureUnit) (ts : List Transition),
           NoticeTaken (fun ch => (converterOf ch).val = c.val) s u ts ∧
           exec (.silenceTimerExpiry c) s = .next
             { told with
               capture := u
               channels := s.emptied fun ch => (converterOf ch).val = c.val
               link := s.made (absent :: ts) }))))

/-! ### The Current Extractor -/

/-- R37: the grade of a sample is the first of five conditions that holds, and of two grades the worse stands. -/
def Obligations.GradesOfSamples : Prop :=
  (∀ (tag : Tag) (code : Int),
    (tag = .fault → gradeOf tag code = .fault) ∧
    (tag ≠ .fault → (code = 32767 ∨ code = -32768) → gradeOf tag code = .clipped) ∧
    (code ≠ 32767 → code ≠ -32768 →
      (tag = .filled → gradeOf tag code = .filled) ∧ (tag = .suspect → gradeOf tag code = .suspect) ∧
      (tag = .good → gradeOf tag code = .good))) ∧
  ∀ a b : Grade, (a.worse b = a ∨ a.worse b = b) ∧ a.rank ≤ (a.worse b).rank ∧ b.rank ≤ (a.worse b).rank

/-- R29, R38: a group of a current converter handed on is taken sample by sample, in the order of positions, by its codes and
tags. R38: a sample that completes no cycle joins the partial cycle, whose first sample latches gain and O_eff, and the raw sum
and code count of the second. R38, R39, R43: the 32nd sample of a cycle forms its cycle value C from the latched gain and
offset, clamped, places the 32 codes in the ring, which keeps the last four, offers them to the Capture Unit
(`Obligations.OfferedCycle`), and adds C to the block. R40: the cycle that completes a block adds its rounded mean B to the
second, and leaves cycle and block empty. R41, R42: the tenth block completes the measured second: M is the rounded mean,
the quality is the worst grade, FS is formed from the latched gain, and the second is handed on with its raw sum and code
count; cycle, block and second are left empty. -/
def Obligations.CyclesAndSecondsComplete : Prop :=
  (∀ (c : Fin 4) (q : Byte) (x : Vector (Int × Tag) 4) (s : State), s.takeGroup (.current c q x) =
    ([0, 1, 2, 3] : List (Fin 4)).foldl (fun u p => u.takeSample (channelOf c p) x[p].1 x[p].2) s) ∧
  (∀ (ch : Fin 16) (code : Int) (tag : Tag) (s : State),
    let c := s.channels[ch]
    let joined := fun cyc : PartialCycle => { s with channels := s.channels.set ch { c with
      cycle := some cyc
      second := { c.second with rawSum := c.second.rawSum + code, rawCount := c.second.rawCount + 1 } } }
    (c.cycle = none → s.takeSample ch code tag =
      joined ⟨[code], gradeOf tag code, s.cfg.transformers[ch].gain, s.live[ch].offsetEff⟩) ∧
    ∀ cyc, c.cycle = some cyc → cyc.codes.length < 31 → s.takeSample ch code tag =
      joined { cyc with codes := cyc.codes ++ [code], grade := cyc.grade.worse (gradeOf tag code) }) ∧
  ∀ (ch : Fin 16) (code : Int) (tag : Tag) (cyc : PartialCycle) (s : State),
    let c := s.channels[ch]
    let n := if s.cfg.device.mains = .hz50 then 5 else 6
    let codes := cyc.codes ++ [code]
    let value := max (-30000) (min 30000 (roundDiv ((codes.sum - 32 * cyc.offset) * cyc.gain) 3200000))
    let blockSum := c.block.sum + value
    let b := roundDiv blockSum n
    let blockGrade := c.block.grade.worse (cyc.grade.worse (gradeOf tag code))
    let grade := c.second.grade.worse blockGrade
    let rawSum := c.second.rawSum + code
    let rawCount := c.second.rawCount + 1
    let ring := c.ring ++ [codes]
    let cycled := { c with
      cycle := none
      second := { c.second with rawSum := rawSum, rawCount := rawCount }
      ring := ring.drop (ring.length - 4) }
    let offered := State.offerCycle ch codes { s with channels := s.channels.set ch cycled }
    c.cycle = some cyc → cyc.codes.length = 31 →
    (c.block.count + 1 < n → s.takeSample ch code tag =
      { offered with
        channels := s.channels.set ch { cycled with block := ⟨c.block.count + 1, blockSum, blockGrade⟩ } }) ∧
    (c.block.count + 1 = n → c.second.count < 9 → s.takeSample ch code tag =
      { offered with
        channels := s.channels.set ch { cycled with
          block := ⟨0, 0, .good⟩
          second := ⟨c.second.count + 1, c.second.sum + b, grade, rawSum, rawCount⟩ } }) ∧
    (c.block.count + 1 = n → c.second.count = 9 → s.takeSample ch code tag =
      { offered with
        channels := s.channels.set ch { cycled with block := ⟨0, 0, .good⟩, second := ⟨0, 0, .good, 0, 0⟩ }
        handOffs :=
          { s.handOffs with
            seconds := s.handOffs.seconds ++
              [⟨ch, roundDiv (c.second.sum + b) 10, grade, min 30000 (roundDivNat (32767 * cyc.gain) 100000), rawSum,
                rawCount⟩] } })

/-- R15, R49: a measured second handed to an OFF transformer is discarded; handed to one OUT_OF_SERVICE whose learning
is off or that has stood less than 60 clock seconds, M and its quality are kept and nothing else follows. R49, R51,
R52: a measured second offered to offset learning: a GOOD one is gathered, another empties the accumulation, and the
30th gathered one completes the attempt: the learned offset is accepted within 256 codes of O_set and rejected beyond,
with a transition when that changes what the host can see. -/
def Obligations.SecondsOutOfService : Prop :=
  (∀ (h : SecondHandOff) (before after : List SecondHandOff) (s : State),
     s.handOffs.seconds = before ++ h :: after → (∀ g ∈ before, g.channel ≠ h.channel) →
     let taken : State := { s with handOffs := { s.handOffs with seconds := before ++ after } }
     let l := s.live[h.channel]
     (l.service = .off → exec (.measuredSecond h.channel) s = .next taken) ∧
     (l.service = .outOfService →
       s.cfg.transformers[h.channel].learning = false ∨ s.channels[h.channel].deenergisedTime < 60 →
       exec (.measuredSecond h.channel) s
         = .next { taken with live := s.live.set h.channel { l with measured := some ⟨h.m, h.quality⟩ } })) ∧
  (∀ (h : SecondHandOff) (before after : List SecondHandOff) (s : State),
     s.handOffs.seconds = before ++ h :: after → (∀ g ∈ before, g.channel ≠ h.channel) →
     let i := h.channel
     let l := s.live[i]
     let c := s.channels[i]
     let kept : Live := { l with measured := some ⟨h.m, h.quality⟩ }
     let taken : State :=
       { s with handOffs := { s.handOffs with seconds := before ++ after }, live := s.live.set i kept }
     let emptied := s.channels.set i { c with learning := ⟨0, 0, 0⟩ }
     let learned := max (-2047) (min 2047 (roundDiv (c.learning.sum + h.rawSum) (c.learning.codes + h.rawCount)))
     let setBy := s.cfg.transformers[i].offsetSet
     l.service = .outOfService → s.cfg.transformers[i].learning = true → 60 ≤ c.deenergisedTime →
     (h.quality ≠ .good → exec (.measuredSecond i) s = .next { taken with channels := emptied }) ∧
     (h.quality = .good → c.learning.seconds + 1 < 30 → exec (.measuredSecond i) s = .next
       { taken with channels := s.channels.set i { c with
           learning := ⟨c.learning.seconds + 1, c.learning.sum + h.rawSum, c.learning.codes + h.rawCount⟩ } }) ∧
     (h.quality = .good → c.learning.seconds + 1 = 30 →
       ((learned - setBy).natAbs ≤ 256 → exec (.measuredSecond i) s = .next
         { taken with
           channels := emptied
           live := s.live.set i { kept with offsetEff := learned, offsetFault := false }
           link := if l.offsetEff = learned ∧ l.offsetFault = false then s.link
             else s.made [transformerRecord i .offsetLearned none none s.time.now l] }) ∧
       (256 < (learned - setBy).natAbs → exec (.measuredSecond i) s = .next
         { taken with
           channels := emptied
           live := s.live.set i { kept with offsetFault := true }
           link := if l.offsetFault then s.link
             else s.made [transformerRecord i .offsetFault none none s.time.now l] })))

/-! ### Evaluations -/

/-- R15, R16, R119 to R121: a measured second of an IN_SERVICE transformer is kept with measurement age 0 and evaluated, and
so is, with no measurement and its age raised, the clock second that waits for STAND_IN_SECOND: the three stages in order,
their transitions, a trigger for a raise to the capture level, the hand-off to the Episode Tracker, and a report to the
contacts when what they read changed. Nothing else changes, but that behind a stand-in second the Field Estimator and the
Episode Tracker may take a clock second of theirs that waited for it (the model's choice, assumption 6;
`Obligations.WaitingClockSeconds`). What a record does with a clock second, at once or once it has waited, follows the
record as it stands then: IN_SERVICE with the age below 2, as after a measured second taken first, the age rises and there
is no stand-in second (R15); OUT_OF_SERVICE, as after a de-energising taken first, it is a cooling update, of which the
Episode Tracker hears, and one more second of de-energised time (R17, R48, R96, R134); OFF, nothing (R17). Cooling does not raise max T: no update changes the tracker in a state that the law of the episodes
admits, a hand-off on its way counting in the comparison where its T is not below (the model's reading, assumption 29). That a
second which completed before an enable and is taken after it is evaluated is the model's choice (assumption 30). -/
def Obligations.EvaluationOfTransformer : Prop :=
  (∀ (i : Fin 16) (s : State), s.live[i].service = .inService →
    let cfg := s.cfg.transformers[i]
    let effect : Option SecondHandOff → Stamp → Live → HandOffs → State := fun ev stamp l₀ h =>
      let l₁ := basisSelection cfg s.fieldView ev l₀
      let l₂ := heatingUpdate cfg l₁
      let l₃ := levelEvaluation cfg l₂
      { s with
        live := s.live.set i l₃
        link := s.made (evaluationRecords cfg i stamp ev l₀ l₁ l₂ l₃)
        handOffs :=
          { h with
            triggers := if raiseTriggers cfg l₂ l₃ then
              h.triggers ++ [⟨i, stamp, cfg.capturePre, cfg.capturePost⟩] else h.triggers
            evaluations := h.evaluations ++ [⟨i, l₃.basis, l₃.level, l₃.heat, stamp⟩]
            reports := if l₀.level = l₃.level ∧ l₀.unacknowledged = l₃.unacknowledged ∧ l₀.doubt = l₃.doubt
                ∧ l₀.lost = l₃.lost then h.reports else h.reports ++ [.transformer i] } }
    (∀ (m : SecondHandOff) (before after : List SecondHandOff), m.channel = i →
      s.handOffs.seconds = before ++ m :: after → (∀ g ∈ before, g.channel ≠ i) →
      exec (.measuredSecond i) s = .next (effect (some m) s.time.now
        { s.live[i] with measured := some ⟨m.m, m.quality⟩, age := 0 }
        { s.handOffs with seconds := before ++ after })) ∧
    ∀ stamp : Stamp, 2 ≤ s.live[i].age →
      let stoodIn := effect none stamp { s.live[i] with age := min 65535 (s.live[i].age + 1) }
      s.recordSecond i stamp = stoodIn s.handOffs ∧
      (s.handOffs.recordTicks[i] = some stamp →
        let t := stoodIn { s.handOffs with recordTicks := s.handOffs.recordTicks.set i none }
        exec (.standInSecond i) s = .next t.settleClock ∧
          (s.handOffs.fieldTick = none → s.handOffs.trackerTick = none → exec (.standInSecond i) s = .next t))) ∧
  ∀ (i : Fin 16) (stamp : Stamp) (s : State),
    let l := s.live[i]
    let cooled := heatTowards s.cfg.transformers[i] l.heat 0
    (s.handOffs.recordTicks[i] = some stamp → exec (.standInSecond i) s = .next (State.settleClock (State.recordSecond i
      stamp { s with handOffs := { s.handOffs with recordTicks := s.handOffs.recordTicks.set i none } }))) ∧
    (l.service = .inService → l.age < 2 → s.recordSecond i stamp =
      { s with live := s.live.set i { l with age := l.age + 1 } }) ∧
    (l.service = .outOfService → s.recordSecond i stamp =
      { s with
        live := s.live.set i { l with steady := 0, heat := cooled }
        channels := s.channels.set i { s.channels[i] with
          deenergisedTime := min 65535 (s.channels[i].deenergisedTime + 1) }
        tracker := if ∃ h ∈ s.handOffs.evaluations, h.transformer = i ∧ cooled ≤ h.heat then s.tracker
          else { s.tracker with openEpisode := s.tracker.openEpisode.map fun e => { e with
            entries := e.entries.set i { e.entries[i] with maxT := max e.entries[i].maxT cooled } } } }) ∧
    (EpisodeLaw s → (s.recordSecond i stamp).tracker = s.tracker) ∧
    (l.service = .off → s.recordSecond i stamp = s)

/-- Stage 1 of an evaluation. R75, R76: P is formed, clamped, exactly when converter 4 is LOCKED, E age is 3 or less and
E quality is not NONE. R77 to R80: the runs and DOUBT, by the class of the second, which qualifies only where P is valid
and E quality is GOOD; check mode OFF clears them. R81, R82: LOST is set by a stand-in second or a FAULT second and cleared
by any other. Nothing else but the basis (`Obligations.BasisByTable`) changes. R83: a change of DOUBT and a change of LOST
each make their one transition and nothing else makes any, DOUBT first on a measured second and LOST first on a stand-in
second. -/
def Obligations.PredictionRunsAndDoubt : Prop :=
  (∀ (cfg : Settings) (s : State) (ev : Option SecondHandOff) (l : Live),
     let n := basisSelection cfg s.fieldView ev l
     let e := s.field.latest
     let valid := (∃ r, s.intake.converters[(4 : Fin 5)].state = .locked r) ∧ s.field.age ≤ 3 ∧ e.quality ≠ .none
     let p := max (-30000) (min 30000 (roundDiv (cfg.coefA * e.north + cfg.coefB * e.east) 1000))
     let width := max cfg.wAbs (roundDivNat (p.natAbs * cfg.wPct) 100)
     let qualifies := fun h : SecondHandOff => cfg.checkMode ≠ .off ∧ valid ∧ e.quality = .good ∧
       (h.quality = .good ∨ h.quality = .filled)
     (valid → n.predicted = some p) ∧ (¬ valid → n.predicted = none) ∧
     (n.lost = true ↔ ∀ h, ev = some h → h.quality = .fault) ∧
     (cfg.checkMode = .off → n.outsideRun = 0 ∧ n.insideRun = 0 ∧ n.doubt = false) ∧
     (∀ h, ev = some h → qualifies h →
       (width < (h.m - p).natAbs →
         n.outsideRun = min 3600 (l.outsideRun + 1) ∧ n.insideRun = 0 ∧
           (n.doubt = true ↔ l.doubt = true ∨ cfg.doubtD ≤ n.outsideRun)) ∧
       ((h.m - p).natAbs ≤ width →
         n.insideRun = min 3600 (l.insideRun + 1) ∧ n.outsideRun = 0 ∧
           (n.doubt = true ↔ l.doubt = true ∧ n.insideRun < cfg.doubtD))) ∧
     (cfg.checkMode ≠ .off → (∀ h, ev = some h → ¬ qualifies h) →
       n.outsideRun = l.outsideRun ∧ n.insideRun = l.insideRun ∧ n.doubt = l.doubt) ∧
     n = { l with
       outsideRun := n.outsideRun, insideRun := n.insideRun, doubt := n.doubt, lost := n.lost
       predicted := n.predicted, basis := n.basis }) ∧
  ∀ before after : Live,
    let doubt : List TransitionKind :=
      if before.doubt = false ∧ after.doubt = true then [.doubtOn]
      else if before.doubt = true ∧ after.doubt = false then [.doubtOff] else []
    let lost : List TransitionKind :=
      if before.lost = false ∧ after.lost = true then [.lostOn]
      else if before.lost = true ∧ after.lost = false then [.lostOff] else []
    stageOneKinds none before after = lost ++ doubt ∧
      ∀ h : SecondHandOff, stageOneKinds (some h) before after = doubt ++ lost

/-- R84: the basis X of an evaluation is chosen by the first row of the table whose condition holds, with P, DOUBT and
LOST as the steps before left them; it lies within 0 to 30000, as |M| and FS do. -/
def Obligations.BasisByTable : Prop :=
  ∀ (cfg : Settings) (v : FieldView) (ev : Option SecondHandOff) (l : Live),
    let n := basisSelection cfg v ev l
    let guarded := cfg.checkMode = .guard ∧ n.predicted ≠ none ∧ (n.doubt = true ∨ n.lost = true)
    (guarded → ∀ p, n.predicted = some p → n.basis = some p.natAbs) ∧
    (¬ guarded →
      (∀ h, ev = some h → h.quality = .good ∨ h.quality = .filled ∨ h.quality = .suspect → n.basis = some h.m.natAbs) ∧
      (∀ h, ev = some h → h.quality = .clipped → n.basis = some h.fullScale) ∧
      (∀ h, ev = some h → h.quality = .fault → n.basis = none) ∧
      (ev = none → n.basis = none)) ∧
    ((∀ h, ev = some h → h.m.natAbs ≤ 30000 ∧ h.fullScale ≤ 30000) → ∀ X, n.basis = some X → X ≤ 30000)

/-- R90: the steady value of a basis on a curve whose currents rise and whose rises do not fall: through the origin
below the first point, interpolated and rounded between points, held at the last; it never passes r_8. -/
def Obligations.SteadyValueOfCurve : Prop :=
  ∀ (points : Vector Breakpoint 8) (X : Nat), 1 ≤ points[0].x →
    (∀ j k : Fin 8, j < k → points[j].x < points[k].x ∧ points[j].r ≤ points[k].r) →
    (X < points[0].x → steadyValue points X = roundDivNat (X * points[0].r) points[0].x ∧
      steadyValue points X ≤ points[0].r) ∧ steadyValue points 0 = 0 ∧
    (∀ k : Fin 7, points[k.val].x ≤ X → X < points[k.val + 1].x →
      steadyValue points X = points[k.val].r +
        roundDivNat ((X - points[k.val].x) * (points[k.val + 1].r - points[k.val].r))
          (points[k.val + 1].x - points[k.val].x) ∧
      points[k.val].r ≤ steadyValue points X ∧ steadyValue points X ≤ points[k.val + 1].r) ∧
    (points[7].x ≤ X → steadyValue points X = points[7].r) ∧ steadyValue points X ≤ points[7].r

/-- R91, R92: the heating update settles S from the basis, or holds it with none, and moves T one step of round(d /
τ), at least one unit, towards it; the step carries T towards S and never past it. -/
def Obligations.HeatStepsTowardsSteady : Prop :=
  ∀ (cfg : Settings) (l : Live), 10 ≤ cfg.tauHeat → 10 ≤ cfg.tauCool →
    let n := heatingUpdate cfg l
    let d : Int := (n.steady : Int) - l.heat
    let step := roundDiv d (if 0 < d then cfg.tauHeat else cfg.tauCool)
    (n.steady = match l.basis with | some X => steadyValue cfg.breakpoints X | none => l.steady) ∧
    (step ≠ 0 → (n.heat : Int) = l.heat + step) ∧
    (step = 0 → 0 < d → n.heat = l.heat + 1) ∧ (step = 0 → d < 0 → n.heat + 1 = l.heat) ∧ (d = 0 → n.heat = l.heat) ∧
    min l.heat n.steady ≤ n.heat ∧ n.heat ≤ max l.heat n.steady ∧
    n.heat = heatTowards cfg l.heat n.steady ∧ n = { l with steady := n.steady, heat := n.heat }

/-- R98, R102, R103, R109: the candidate of an evaluation, with and without a basis, and its fall target: the highest
level whose condition holds. R111, R115, R120: stage 3 makes LEVEL_UP or LEVEL_DOWN with both levels at a change of
level, REMINDER when an evaluation that stays at ALARM brings a running count to 0, and nothing else; a raise at or
above the capture level WARN or ALARM hands on a trigger. -/
def Obligations.CandidatesAndLevelTransitions : Prop :=
  (∀ (cfg : Settings) (X heat : Nat),
     (candidate cfg (some X) heat =
       if cfg.iAlarm ≤ X ∨ cfg.tAlarm ≤ heat then .alarm
       else if cfg.iWarn ≤ X ∨ cfg.tWarn ≤ heat then .warn else if cfg.iWatch ≤ X then .watch else .normal) ∧
     (candidate cfg none heat = if cfg.tAlarm ≤ heat then .alarm else if cfg.tWarn ≤ heat then .warn else .normal) ∧
     (fallTarget cfg X heat =
       if cfg.iAlarm ≤ X + cfg.hyst ∨ cfg.tAlarm ≤ heat + cfg.tHys then .alarm
       else if cfg.iWarn ≤ X + cfg.hyst ∨ cfg.tWarn ≤ heat + cfg.tHys then .warn
       else if cfg.iWatch ≤ X + cfg.hyst then .watch else .normal)) ∧
  (∀ (cfg : Settings) (a b : Live),
     (a.level.rank < b.level.rank → stageThreeEvents cfg a b = [(.levelUp, some (a.level, b.level))]) ∧
     (b.level.rank < a.level.rank → stageThreeEvents cfg a b = [(.levelDown, some (a.level, b.level))]) ∧
     (a.level = b.level → stageThreeEvents cfg a b =
       if a.level = .alarm ∧ cfg.reminder ≠ 0 ∧ a.reminderCount = 1 then [(.reminder, none)] else []) ∧
     (raiseTriggers cfg a b = true ↔ a.level.rank < b.level.rank ∧
       (cfg.captureLevel = .warn ∧ Level.rank .warn ≤ b.level.rank ∨ cfg.captureLevel = .alarm ∧ b.level = .alarm)))

/-- R104 to R106, R109: with the candidate above the level, the rise age counts and the calm age is 0; the level
becomes the highest one up to the candidate whose delay (d_watch, d_warn or d_alarm) the age meets; a raise to WARN or ALARM
is owed an answer, and one to ALARM loads the reminder count. -/
def Obligations.LevelRises : Prop :=
  ∀ (cfg : Settings) (l : Live),
    let c := candidate cfg l.basis l.heat
    let n := levelEvaluation cfg l
    let delay := fun m : Level => if m = .watch then cfg.dWatch else if m = .warn then cfg.dWarn else cfg.dAlarm
    l.level.rank < c.rank →
    n.riseAge = min 65535 (l.riseAge + 1) ∧ n.calmAge = 0 ∧
    (n.level = l.level ∨
      l.level.rank < n.level.rank ∧ n.level.rank ≤ c.rank ∧ delay n.level ≤ n.riseAge) ∧
    (∀ m : Level, l.level.rank < m.rank → m.rank ≤ c.rank → delay m ≤ n.riseAge → m.rank ≤ n.level.rank) ∧
    (n.unacknowledged = true ↔ l.unacknowledged = true ∨ n.level ≠ l.level ∧ Level.rank .warn ≤ n.level.rank) ∧
    n.reminderCount = (if n.level = .alarm then cfg.reminder else l.reminderCount) ∧
    n = { l with
      level := n.level, riseAge := n.riseAge, calmAge := 0, unacknowledged := n.unacknowledged
      reminderCount := n.reminderCount }

/-- R104, R107, R108, R109, R115: with the candidate not above the level. Calm: the calm age counts, and at d_fall the
level falls straight to the fall target, unless it is a latched ALARM still owed an answer. Steady: both ages become
0. No basis: level and ages are held. The reminder count is worked at every evaluation that stays at ALARM. -/
def Obligations.LevelFallsOrHolds : Prop :=
  ∀ (cfg : Settings) (l : Live),
    let n := levelEvaluation cfg l
    let age := min 65535 (l.calmAge + 1)
    let latched := cfg.latched = true ∧ l.level = .alarm ∧ l.unacknowledged = true
    let worked := if l.level ≠ .alarm then l.reminderCount else if cfg.reminder = 0 then 0
      else if l.reminderCount ≤ 1 then cfg.reminder else l.reminderCount - 1
    (candidate cfg l.basis l.heat).rank ≤ l.level.rank →
    (l.basis = none → n = { l with reminderCount := worked }) ∧
    ∀ X, l.basis = some X →
      let f := fallTarget cfg X l.heat
      (l.level.rank ≤ f.rank → n = { l with riseAge := 0, calmAge := 0, reminderCount := worked }) ∧
      (f.rank < l.level.rank → age < cfg.dFall ∨ latched →
        n = { l with riseAge := 0, calmAge := age, reminderCount := worked }) ∧
      (f.rank < l.level.rank → cfg.dFall ≤ age → ¬ latched →
        n = { l with
          level := f, riseAge := 0, calmAge := 0
          reminderCount := if l.level = .alarm then 0 else l.reminderCount })

/-! ### The clock -/

/-- R175, R176: the tenth advances up to 9 and no further, which at 9 while not TRACKING is the model's choice (assumption
7: from 9 it passes on by CLOCK_SECOND, a row of its own); the silence timers run, a tenth of a second at each tenth, also at
one that TRACKING holds at 9, and at each clock second (the model's choice, assumption 9); the next second after 86399 is second 0 of the next day, and the
day after 65535 is day 0. R175 to R177: while TRACKING an edge makes the clock second, or applies a pending set with
CLOCK_SET, which is made before the blocks take that clock second (the model's choice, assumption 14); after a loss an
edge makes a clock second and TRACKING again. Every block takes that clock second. An edge less than 500 ms after the last
one taken, and every edge while UNUSED, is passed over. R176, R177: a loss of the pulse makes PPS_LOST, stamped before the
held clock second, and then that clock second, at which a pending set applies with CLOCK_SET; while not TRACKING no loss is
found. -/
def Obligations.TimeAdvancesAndPps : Prop :=
  ((∀ s : State, exec .tenthAdvance s = .next
     (if s.time.now.tenth < 9 then
       { s with
         time := { s.time with now := { s.time.now with tenth := s.time.now.tenth + 1 } }
         intake := s.intake.afterTenth }
     else if s.time.pps = .tracking then { s with intake := s.intake.afterTenth }
     else s)) ∧
   ∀ t : Stamp, (t.second < 86399 → t.nextSecond = ⟨t.day, t.second + 1, 0⟩) ∧
     (t.second = 86399 → t.day < 65535 → t.nextSecond = ⟨t.day + 1, 0, 0⟩) ∧
     (t.second = 86399 → t.day = 65535 → t.nextSecond = ⟨0, 0, 0⟩)) ∧
  (∀ (now : Nat) (s : State),
     (∀ e, s.time.lastEdge = some e → e ≤ now → now < e + 500 → exec (.ppsEdge now) s = .next s) ∧
     (s.time.pps = .unused → exec (.ppsEdge now) s = .next s) ∧
     ((∀ e, s.time.lastEdge = some e → e + 500 ≤ now) →
       let second := s.time.now.nextSecond
       (s.time.pps = .lost → exec (.ppsEdge now) s = .next (State.blocksClock second
         { s with time := ⟨second, s.time.pendingSet, .tracking, some now⟩, intake := s.intake.afterTenth })) ∧
       (s.time.pps = .tracking → s.time.pendingSet = none → exec (.ppsEdge now) s = .next (State.blocksClock second
         { s with time := ⟨second, none, .tracking, some now⟩, intake := s.intake.afterTenth })) ∧
       ∀ day sec, s.time.pps = .tracking → s.time.pendingSet = some (day, sec) →
         exec (.ppsEdge now) s = .next (State.blocksClock ⟨day, sec, 0⟩
           { s with
             time := ⟨⟨day, sec, 0⟩, none, .tracking, some now⟩
             intake := s.intake.afterTenth
             link := s.made [deviceRecord .clockSet none ⟨day, sec, 0⟩] }))) ∧
  (∀ s : State,
     let lost := deviceRecord .ppsLost none s.time.now
     (s.time.pps ≠ .tracking → exec .ppsLost s = .next s) ∧
     (s.time.pps = .tracking → s.time.pendingSet = none →
       exec .ppsLost s = .next (State.blocksClock s.time.now.nextSecond
         { s with
           time := ⟨s.time.now.nextSecond, none, .lost, s.time.lastEdge⟩
           intake := s.intake.afterTenth
           link := s.made [lost] })) ∧
     ∀ day sec, s.time.pps = .tracking → s.time.pendingSet = some (day, sec) →
       exec .ppsLost s = .next (State.blocksClock ⟨day, sec, 0⟩
         { s with
           time := ⟨⟨day, sec, 0⟩, none, .lost, s.time.lastEdge⟩
           intake := s.intake.afterTenth
           link := s.made [lost, deviceRecord .clockSet none ⟨day, sec, 0⟩] }))

/-- R175, R17, R48, R64, R82, R126, R146, R162: while not TRACKING, the oscillator's clock second, at which the tenth passes
from 9 to 0, advances the time, lets the silence timers run on (assumption 9) and comes to every block. Where none of them has more to do than count (no stand-in second,
no loss of E quality, no episode open or opening, no entry at its 60th second, no link silence), a clock second raises the
measurement ages, cools the transformers out of service and counts their de-energised time, ages E, counts the waits and
steps the link-silence timer. While TRACKING the oscillator makes none; and at another tenth CLOCK_SECOND changes nothing,
which is the model's choice for a command that cannot come about then (assumption 7). -/
def Obligations.ClockSecondCounts : Prop :=
  (∀ s : State,
     (s.time.pps = .tracking ∨ s.time.now.tenth ≠ 9 → exec .clockSecond s = .next s) ∧
     (s.time.pps ≠ .tracking → s.time.now.tenth = 9 → exec .clockSecond s = .next
       (State.blocksClock s.time.now.nextSecond
         { s with time := { s.time with now := s.time.now.nextSecond }, intake := s.intake.afterTenth }))) ∧
  ∀ (stamp : Stamp) (s : State), NoTickWaits s →
    (∀ i : Fin 16, s.live[i].service = .inService → s.live[i].age < 2) →
    (s.field.age < 9 ∨ s.field.latest.quality = .none) → s.tracker.openEpisode = none → s.activitySecond = false →
    (∀ e ∈ s.capture.waiting, e.wait < 59) → (∀ n, s.driver.linkTimer = some n → 2 ≤ n) →
    s.blocksClock stamp =
      { s with
        live := Vector.ofFn fun i =>
          match s.live[i].service with
          | .off => s.live[i]
          | .outOfService =>
            { s.live[i] with steady := 0, heat := heatTowards s.cfg.transformers[i] s.live[i].heat 0 }
          | .inService => { s.live[i] with age := s.live[i].age + 1 }
        channels := Vector.ofFn fun ch =>
          if s.live[ch].service = .outOfService then
            { s.channels[ch] with deenergisedTime := min 65535 (s.channels[ch].deenergisedTime + 1) }
          else s.channels[ch]
        field := { s.field with age := min 65535 (s.field.age + 1) }
        capture := { s.capture with waiting := s.capture.waiting.map fun e => { e with wait := e.wait + 1 } }
        driver := { s.driver with linkTimer := s.driver.linkTimer.map (· - 1) } }

/-- The model's choice (assumption 6): a clock second comes to the records, the Field Estimator, the Episode Tracker, the
Capture Unit and the link timer, and each takes it at once (`Obligations.EvaluationOfTransformer`,
`Obligations.EpisodeClockSecond`), unless it would bring about a row of its own: then it waits, stamped, for that row's
command. The Field Estimator's also waits for the stand-in evaluations, which read E age, and the Episode Tracker's for
those and for the Field Estimator, so that the order of the commands gives the order in which the blocks take it (R75, R121,
R125); once a row has taken its own, the blocks that waited only for it take theirs, but that a second which would open an
episode goes on waiting while an evaluation's hand-off is on its way (R134; `Obligations.EvaluationReachesEpisode`). One that still waits when the next
comes is taken first, as it stands. R64, R65, R125, R129 to R131, R146, R154, R162: what the clock seconds that wait for
FIELD_NONE, EPISODE_QUIET_CLOSE, CAPTURE_MISSED and LINK_SILENT bring about, each with its transition stamped with that
clock second; one that waits for a link timer which has stopped or been reloaded since only takes what it then takes
(R162). -/
def Obligations.WaitingClockSeconds : Prop :=
  (∀ (stamp : Stamp) (s : State),
     s.blocksClock stamp = State.linkClock stamp (State.captureSecond stamp (State.trackerClock stamp
       (State.fieldClock stamp ((List.finRange 16).foldl (fun u i => u.recordClock stamp i) s)))) ∧
     (∀ i : Fin 16,
       let standsIn := s.live[i].service = .inService ∧ 2 ≤ s.live[i].age
       let tick := fun o : Option Stamp =>
         { s with handOffs := { s.handOffs with recordTicks := s.handOffs.recordTicks.set i o } }
       (s.handOffs.recordTicks[i] = none → standsIn → s.recordClock stamp i = tick (some stamp)) ∧
       (s.handOffs.recordTicks[i] = none → ¬ standsIn → s.recordClock stamp i = s.recordSecond i stamp) ∧
       ∀ earlier, s.handOffs.recordTicks[i] = some earlier →
         s.recordClock stamp i = State.recordClock stamp i (State.recordSecond i earlier (tick none))) ∧
     (let tick := fun o : Option Stamp => { s with handOffs := { s.handOffs with fieldTick := o } }
      let aged := { s.field with age := min 65535 (s.field.age + 1) }
      (s.handOffs.fieldTick = none → LosesGrade s ∨ RecordWaits s → s.fieldClock stamp = tick (some stamp)) ∧
      (s.handOffs.fieldTick = none → ¬ LosesGrade s → ¬ RecordWaits s → s.fieldClock stamp = s.fieldSecond stamp) ∧
      (∀ earlier, s.handOffs.fieldTick = some earlier →
        s.fieldClock stamp = State.fieldClock stamp (State.fieldSecond earlier (tick none))) ∧
      (¬ LosesGrade s → s.fieldSecond stamp = { s with field := aged }) ∧
      (LosesGrade s → s.fieldSecond stamp =
        { s with
          field := { aged with latest := { s.field.latest with quality := .none } }
          link := s.made [deviceRecord .fieldNone (some 4) stamp] })) ∧
     (let tick := fun o : Option Stamp => { s with handOffs := { s.handOffs with trackerTick := o } }
      let waits := ClosesQuiet s ∨ RecordWaits s ∨ s.handOffs.fieldTick ≠ none
      (s.handOffs.trackerTick = none → waits → s.trackerClock stamp = tick (some stamp)) ∧
      (s.handOffs.trackerTick = none → ¬ waits → s.trackerClock stamp = s.trackerSecond stamp) ∧
      ∀ earlier, s.handOffs.trackerTick = some earlier →
        s.trackerClock stamp = State.trackerClock stamp (State.trackerSecond earlier (tick none))) ∧
     ((s.handOffs.linkTick = none → s.driver.linkTimer = some 1 →
         s.linkClock stamp = { s with handOffs := { s.handOffs with linkTick := some stamp } }) ∧
      (s.handOffs.linkTick = none → s.driver.linkTimer = none → s.linkClock stamp = s) ∧
      (∀ n, s.handOffs.linkTick = none → s.driver.linkTimer = some n → 2 ≤ n →
         s.linkClock stamp = { s with driver := { s.driver with linkTimer := some (n - 1) } }) ∧
      (s.handOffs.linkTick ≠ none →
         ∃ t, exec .linkSilent s = .next t ∧ s.linkClock stamp = State.linkClock stamp t)) ∧
     ((∀ e ∈ s.capture.waiting, e.expiry = none) →
       s.captureSecond stamp = { s with capture := { s.capture with waiting := s.capture.waiting.map fun e =>
         if e.wait < 59 then { e with wait := e.wait + 1 } else { e with expiry := some stamp } } }) ∧
     ∀ (e : PendingEntry) (before after : List PendingEntry), s.capture.waiting = before ++ e :: after →
       (∀ f ∈ before ++ after, f.channel ≠ e.channel) → (∀ f ∈ before, f.expiry = none) → e.expiry ≠ none →
       ∃ t, exec (.captureMissed e.channel) s = .next t ∧ s.captureSecond stamp = State.captureSecond stamp t) ∧
  (∀ s : State,
     (RecordWaits s ∨ s.handOffs.fieldTick = none ∨ LosesGrade s → TrackerFollows s s.settleClock) ∧
     ∀ stamp, s.handOffs.fieldTick = some stamp → ¬ RecordWaits s → ¬ LosesGrade s →
       TrackerFollows
         { s with
           field := { s.field with age := min 65535 (s.field.age + 1) }
           handOffs := { s.handOffs with fieldTick := none } } s.settleClock) ∧
  (∀ (stamp : Stamp) (s : State),
     (s.handOffs.fieldTick = some stamp →
       (LosesGrade s → ∃ t, exec .fieldNone s = .next t ∧ TrackerFollows
         { s with
           field := { s.field with
             age := min 65535 (s.field.age + 1), latest := { s.field.latest with quality := .none } }
           link := s.made [deviceRecord .fieldNone (some 4) stamp]
           handOffs := { s.handOffs with fieldTick := none } } t) ∧
       (¬ LosesGrade s → ∃ t, exec .fieldNone s = .next t ∧ TrackerFollows
         { s with
           field := { s.field with age := min 65535 (s.field.age + 1) }
           handOffs := { s.handOffs with fieldTick := none } } t)) ∧
     (s.handOffs.trackerTick = some stamp →
       exec .episodeQuietClose s = .next (State.trackerSecond stamp
         { s with handOffs := { s.handOffs with trackerTick := none } }) ∧
       ∀ e : Episode, s.tracker.openEpisode = some e → s.activitySecond = false → s.tracker.quietTimer ≤ 1 →
         exec .episodeQuietClose s = .next (State.closedQuiet e stamp
           { s with handOffs := { s.handOffs with trackerTick := none } })) ∧
     (∀ (e : PendingEntry) (before after : List PendingEntry), s.capture.waiting = before ++ e :: after →
       (∀ f ∈ before ++ after, f.channel ≠ e.channel) → e.expiry = some stamp →
       exec (.captureMissed e.channel) s = .next
         { s with
           capture := { s.capture with waiting := before ++ after }
           link := s.made [transformerRecord e.channel .captureMissed none none stamp s.live[e.channel]] }) ∧
     (s.handOffs.linkTick = some stamp →
       let taken := { s.handOffs with linkTick := none }
       (s.driver.linkTimer = some 1 → exec .linkSilent s = .next
         { s with
           driver := { s.driver with linkTimer := none, linkSilent := true }
           link := s.made [deviceRecord .linkSilent none stamp]
           handOffs := if s.driver.linkSilent then taken else { taken with reports := taken.reports ++ [.linkSilence] } }) ∧
       (s.driver.linkTimer = none → exec .linkSilent s = .next { s with handOffs := taken }) ∧
       ∀ n, s.driver.linkTimer = some n → 2 ≤ n → exec .linkSilent s = .next
         { s with driver := { s.driver with linkTimer := some (n - 1) }, handOffs := taken }))

/-! ### Episodes -/

/-- R125 to R129: what makes a clock second an activity second; QUIET, it opens an episode with the next number, whose
entries start from the transformers as they stand; ACTIVE, max |E| is compared and the quiet timer loaded or stepped, and
one without activity at which the timer reaches 0 closes the episode (R129, R130). When the Episode Tracker takes the clock
second that comes to it: `Obligations.WaitingClockSeconds`. -/
def Obligations.EpisodeClockSecond : Prop :=
  ∀ (stamp : Stamp) (s : State),
    let size := max s.field.latest.north.natAbs s.field.latest.east.natAbs
    let quiet := s.cfg.device.quietTime
    (s.activitySecond = true ↔
      (∃ i : Fin 16, s.live[i].service = .inService ∧ s.live[i].suppressed = false ∧
        Level.rank .watch ≤ s.live[i].level.rank) ∨
      s.field.latest.quality ≠ .none ∧ s.cfg.device.eStart ≤ size) ∧
    (s.tracker.openEpisode = none → s.activitySecond = false → s.trackerSecond stamp = s) ∧
    (s.tracker.openEpisode = none → s.activitySecond = true → s.trackerSecond stamp =
      { s with
        tracker :=
          { s.tracker with
            openEpisode := some
              { number := s.tracker.nextNumber
                start := stamp
                closed := none
                maxE := if s.field.latest.quality = .none then none else some (size, stamp)
                entries := Vector.ofFn fun i => ⟨none, s.live[i].level, 0, s.live[i].heat⟩ }
            nextNumber := if s.tracker.nextNumber < 65535 then s.tracker.nextNumber + 1 else 1
            quietTimer := quiet }
        link := s.made [deviceRecord .episodeOpen (some s.tracker.nextNumber) stamp]
        handOffs := { s.handOffs with reports := s.handOffs.reports ++ [.tracker] } }) ∧
    ∀ e : Episode, s.tracker.openEpisode = some e →
      (s.activitySecond = false → s.tracker.quietTimer ≤ 1 → s.trackerSecond stamp = s.closedQuiet e stamp) ∧
      (s.activitySecond = true ∨ 2 ≤ s.tracker.quietTimer → s.trackerSecond stamp =
        { s with
          tracker :=
            { s.tracker with
              openEpisode := some { e with
                maxE := if s.field.latest.quality = .none ∨ ∃ m, e.maxE = some m ∧ size ≤ m.1 then e.maxE
                  else some (size, stamp) }
              quietTimer := if s.activitySecond then quiet else s.tracker.quietTimer - 1 } })

/-- R133: an evaluation handed to the tracker adds its basis to the charge, up to the limit, and raises peak, highest
level and max T of its transformer's entry where it is greater; QUIET, it changes nothing. R134: a clock second that would
open an episode and has waited for the hand-offs on their way is taken behind the last of them, so that none of their X joins
the charge; that it waits for them is the model's choice (assumption 6; `Obligations.WaitingClockSeconds`). -/
def Obligations.EvaluationReachesEpisode : Prop :=
  ∀ (h : EvaluationHandOff) (before after : List EvaluationHandOff) (s : State),
    s.handOffs.evaluations = before ++ h :: after → (∀ g ∈ before, g.transformer ≠ h.transformer) →
    let taken : State := { s with handOffs := { s.handOffs with evaluations := before ++ after } }
    (s.tracker.openEpisode = none →
      (s.handOffs.trackerTick = none → exec (.episodeHandoff h.transformer) s = .next taken) ∧
      ∃ t, exec (.episodeHandoff h.transformer) s = .next t ∧ TrackerFollows taken t) ∧
    ∀ e : Episode, s.tracker.openEpisode = some e →
      ∃ n : EpisodeEntry,
        exec (.episodeHandoff h.transformer) s = .next
          { taken with tracker := { s.tracker with
            openEpisode := some { e with entries := e.entries.set h.transformer n } } } ∧
        (h.basis = none → n.charge = e.entries[h.transformer].charge ∧ n.peak = e.entries[h.transformer].peak) ∧
        (∀ X, h.basis = some X → n.charge = min 4294967295 (e.entries[h.transformer].charge + X) ∧
          (e.entries[h.transformer].peak = none → n.peak = some (X, h.stamp)) ∧
          ∀ p, e.entries[h.transformer].peak = some p → n.peak = if p.1 < X then some (X, h.stamp) else some p) ∧
        n.highest = (if e.entries[h.transformer].highest.rank < h.level.rank then h.level
          else e.entries[h.transformer].highest) ∧
        n.maxT = max e.entries[h.transformer].maxT h.heat

/-! ### Inputs, service and panel -/

/-- R6: a raw level that differs from the debounced state starts the hold timer and one that equals it stops it; a
hold that completes gives the debounced state the new value and reports an EN or PANEL change. No other input is
touched. -/
def Obligations.DebouncedInputs : Prop :=
  ∀ (p : Pin) (s : State),
    let x := s.inputs.get p
    (∀ (level : Bool) (now : Nat), ∃ v : Inputs,
      exec (.inputLevelChange p level now) s = .next { s with inputs := v } ∧
      v.get p = ⟨level, x.debounced, if level = x.debounced then none else some (x.hold.getD now)⟩ ∧
      ∀ q, q ≠ p → v.get q = s.inputs.get q) ∧
    (x.hold = none → exec (.debounceComplete p) s = .next s) ∧
    (x.hold ≠ none → ∃ v : Inputs,
      exec (.debounceComplete p) s = .next
        { s with
          inputs := v
          handOffs :=
            match p with
            | .en i => { s.handOffs with enReports := s.handOffs.enReports ++ [⟨i, x.raw⟩] }
            | .panel => { s.handOffs with panelReports := s.handOffs.panelReports ++ [x.raw] }
            | .lock => s.handOffs } ∧
      v.get p = ⟨x.raw, x.raw, none⟩ ∧ ∀ q, q ≠ p → v.get q = s.inputs.get q)

/-- R7, R10, R11: a reported energising brings an OUT_OF_SERVICE transformer IN_SERVICE, and a reported de-energising takes
an IN_SERVICE one OUT_OF_SERVICE, each with its transition and what else its rule clears or keeps; in the other service
states (a dash of R7's table) the report leaves the transformer as it is, and that it is consumed there is the model's
choice (assumption 18). -/
def Obligations.ServiceChangesByInput : Prop :=
  ∀ (i : Fin 16) (level : Bool) (before after : List EnReport) (s : State),
    s.handOffs.enReports = before ++ ⟨i, level⟩ :: after → (∀ r ∈ before, r.transformer ≠ i) →
    let l := s.live[i]
    let c := s.channels[i]
    let taken : State := { s with handOffs := { s.handOffs with enReports := before ++ after } }
    let told := { taken.handOffs with reports := s.handOffs.reports ++ [.transformer i] }
    (level = true →
      (l.service ≠ .outOfService → exec (.energised i) s = .next taken) ∧
      (l.service = .outOfService → exec (.energised i) s = .next
        { taken with
          live := s.live.set i { l with service := .inService, age := 0 }
          channels := s.channels.set i { c with learning := ⟨0, 0, 0⟩, deenergisedTime := 0 }
          link := s.made [transformerRecord i .inService none none s.time.now l]
          handOffs := told })) ∧
    (level = false →
      (l.service ≠ .inService → exec (.deenergised i) s = .next taken) ∧
      (l.service = .inService → exec (.deenergised i) s = .next
        { taken with
          live := s.live.set i
            { l with
              service := .outOfService, level := .normal, riseAge := 0, calmAge := 0, reminderCount := 0
              doubt := false, lost := false, outsideRun := 0, insideRun := 0, steady := 0
              predicted := none, basis := none }
          channels := s.channels.set i { c with deenergisedTime := 0 }
          link := s.made [transformerRecord i .outOfService l.basis none s.time.now l]
          handOffs := told }))

/-- R164, R165: a press in IDLE makes PRESSED with the timer started, or IGNORED under panel lock, and moves no other
state; at 4 s PRESSED becomes TEST and at 30 s TEST becomes TEST_ENDED. At every panel event outputs and lamp are judged
afresh (R161, R163), at one that moves nothing too. R164, R160, R114: a release in PRESSED is an Acknowledge All: it clears
unacknowledged for all transformers, each change reported with its transformer (R119, R157), and moves each LATCH contact
by the Acknowledged column; a release in another state acknowledges nothing. -/
def Obligations.PanelPressTestAndRelease : Prop :=
  (∀ s : State,
     (∀ rest : List Bool, s.handOffs.panelReports = true :: rest →
       let taken : State := { s with handOffs := { s.handOffs with panelReports := rest } }
       (s.driver.panel ≠ .idle → ∃ t, exec .panelPress s = .next t ∧
         PanelMoved s.driver.panel s.driver.panelTimer taken t) ∧
       (s.driver.panel = .idle → ∃ t, exec .panelPress s = .next t ∧
         if s.cfg.device.panelLock then PanelMoved .ignored false taken t else PanelMoved .pressed true taken t)) ∧
     (s.driver.panel = .pressed → ∃ t, exec .panelTestStart s = .next t ∧ PanelMoved .test true s t) ∧
     (s.driver.panel ≠ .pressed → exec .panelTestStart s = .next s) ∧
     (s.driver.panel = .test → ∃ t, exec .panelTestTimeout s = .next t ∧ PanelMoved .testEnded false s t) ∧
     (s.driver.panel ≠ .test → exec .panelTestTimeout s = .next s)) ∧
  (∀ (rest : List Bool) (s : State), s.handOffs.panelReports = false :: rest →
     let taken : State := { s with handOffs := { s.handOffs with panelReports := rest } }
     (s.driver.panel = .idle → ∃ t, exec .panelRelease s = .next t ∧ PanelMoved .idle s.driver.panelTimer taken t) ∧
     (s.driver.panel = .test ∨ s.driver.panel = .testEnded ∨ s.driver.panel = .ignored →
       ∃ t, exec .panelRelease s = .next t ∧ PanelMoved .idle false taken t) ∧
     (s.driver.panel = .pressed → ∃ t, exec .panelRelease s = .next t ∧ Driven t ∧
       (∀ k : Fin 4, t.driver.contacts[k].source = s.driver.contacts[k].source ∧
         t.driver.contacts[k].state =
           (if s.cfg.maps[k].mode = .latch ∧ s.driver.contacts[k].state = .closedActive then .closedAcked
           else if s.cfg.maps[k].mode = .latch ∧ s.driver.contacts[k].state = .closedHeld then .open
           else s.driver.contacts[k].state)) ∧
       t = { taken with
         live := Vector.ofFn fun i => { s.live[i] with unacknowledged := false }
         driver := { s.driver with
           contacts := t.driver.contacts, lamp := t.driver.lamp, panel := .idle, panelTimer := false }
         handOffs := { taken.handOffs with reports := s.handOffs.reports ++
           ((List.finRange 16).filter fun i => s.live[i].unacknowledged).map .transformer } }))

/-! ### Contacts -/

/-- R156: the source of a contact holds when a mapped transformer IN_SERVICE and not suppressed stands at the minimum
level or above, or when a mapped device source holds. R158, R161, R165: its output is in alarm in every state but OPEN, and
during panel test, where its map enables the test, in every state; its driver is on while the output is in alarm, or while
it is not, by the sense. R157, R158, R163: a report taken judges the source of every contact, moves a FOLLOW contact to it
and a LATCH contact by the columns of R159, drives the outputs and judges the lamp; nothing else changes. -/
def Obligations.ContactReportTaken : Prop :=
  (∀ (m : ContactMap) (s : State),
     let counted := fun i : Fin 16 => s.live[i].service = .inService ∧ s.live[i].suppressed = false
     s.sourceOf m = true ↔
       (∃ i : Fin 16, m.transformers.getLsbD i = true ∧ counted i ∧ m.minLevel.rank ≤ s.live[i].level.rank) ∨
       (m.sources.getLsbD 0 = true ∧ ∃ i, counted i ∧ s.live[i].doubt = true) ∨
       (m.sources.getLsbD 1 = true ∧ ∃ i, counted i ∧ s.live[i].lost = true) ∨
       (m.sources.getLsbD 2 = true ∧ ∃ (c : Fin 5) (r : Byte), s.intake.converters[c].state = .faulted r) ∨
       (m.sources.getLsbD 3 = true ∧ s.driver.linkSilent = true) ∨
       (m.sources.getLsbD 4 = true ∧ s.tracker.openEpisode ≠ none)) ∧
  (∀ (p : PanelState) (m : ContactMap) (st : ContactState),
     (outputInAlarm p m st = true ↔ st ≠ .open ∨ p = .test ∧ m.testEnable = true) ∧
     ∀ inAlarm : Bool, driverOn .energiseOnAlarm inAlarm = inAlarm ∧ driverOn .deenergiseOnAlarm inAlarm = !inAlarm) ∧
  (∀ (r : ContactReport) (rest : List ContactReport) (s : State), s.handOffs.reports = r :: rest →
     ∃ t, exec .contactReport s = .next t ∧ Driven t ∧
       (∀ k : Fin 4,
         let was := s.driver.contacts[k].state
         let source := s.sourceOf s.cfg.maps[k]
         t.driver.contacts[k].source = source ∧
         (s.cfg.maps[k].mode = .follow → t.driver.contacts[k].state = if source then .closed else .open) ∧
         (s.cfg.maps[k].mode = .latch → was ≠ .closed → t.driver.contacts[k].state =
           if source then (if was = .open ∨ was = .closedHeld then .closedActive else was)
           else if was = .closedActive then .closedHeld else if was = .closedAcked then .open else was)) ∧
       t = { s with
         driver := { s.driver with contacts := t.driver.contacts, lamp := t.driver.lamp }
         handOffs := { s.handOffs with reports := rest } })

/-- R159: the whole table of a LATCH contact: its states, which of them are in alarm, and where each event takes
it. -/
def Obligations.LatchTable : Prop :=
  (latchJudged true .open = .closedActive ∧ latchJudged false .open = .open ∧ acknowledgedState .latch .open = .open) ∧
  (latchJudged true .closedActive = .closedActive ∧ latchJudged false .closedActive = .closedHeld ∧
    acknowledgedState .latch .closedActive = .closedAcked) ∧
  (latchJudged true .closedHeld = .closedActive ∧ latchJudged false .closedHeld = .closedHeld ∧
    acknowledgedState .latch .closedHeld = .open) ∧
  (latchJudged true .closedAcked = .closedAcked ∧ latchJudged false .closedAcked = .open ∧
    acknowledgedState .latch .closedAcked = .closedAcked) ∧
  ∀ (m : ContactMap) (p : PanelState) (st : ContactState), p ≠ .test →
    (outputInAlarm p m st = true ↔ st ≠ .open)

/-! ### Captures -/

/-- R137, R139: storing codes from a slot on, in the wrapping order, makes exactly those slots read as the codes and
leaves every other slot as it was, and keeps the memory's canonical form. R140, R143: a LEVEL trigger is dropped for
an OFF transformer, raises the target of an active capture of its channel, merges into an entry of its channel, starts a
capture at once where none is active, fewer than 8 records stand and there is room for the pre cycles and one more, and
otherwise joins the pending set. R141: a start makes a record with the next number at the write position, stores the most
recent cycles of the ring there, oldest first, and moves the next number and the write position on. -/
def Obligations.LevelTriggersAndCaptureMemory : Prop :=
  (∀ (m : SlotMemory) (pos : Nat) (codes : List Int), Memory.wf m = true → codes.length ≤ 16384 →
     readCodes (storeCodes m pos codes) pos codes.length = codes ∧
     (∀ slot, (∀ j < codes.length, (pos + j) % 16384 ≠ slot) → slotRead (storeCodes m pos codes) slot = slotRead m slot) ∧
     Memory.wf (storeCodes m pos codes) = true) ∧
  (∀ (g : TriggerHandOff) (before after : List TriggerHandOff) (s : State),
     s.handOffs.triggers = before ++ g :: after → (∀ h ∈ before, h.channel ≠ g.channel) →
     let taken : State := { s with handOffs := { s.handOffs with triggers := before ++ after } }
     let cap := s.capture
     (s.live[g.channel].service = .off → exec (.levelTrigger g.channel) s = .next taken) ∧
     (s.live[g.channel].service ≠ .off →
       (∀ (older : List CaptureRecord) (r : CaptureRecord), cap.records = older ++ [r] → (∀ q ∈ older, q.state = .done) →
         r.state ≠ .done → r.channel = g.channel → exec (.levelTrigger g.channel) s = .next
           { taken with capture := { cap with records := older ++
             [{ r with
               postTarget := min 250 (max r.postTarget (r.postStored + g.post))
               extensions := min 255 (r.extensions + 1) }] } }) ∧
       (s.NoActive (fun ch => ch = g.channel) →
         (∀ (e : PendingEntry) (front back : List PendingEntry), cap.waiting = front ++ e :: back →
           e.channel = g.channel → (∀ f ∈ front ++ back, f.channel ≠ g.channel) →
           exec (.levelTrigger g.channel) s = .next
             { taken with capture := { cap with waiting := front ++
               { e with cause := .level, pre := max e.pre g.pre, post := max e.post g.post } :: back } }) ∧
         ((∀ e ∈ cap.waiting, e.channel ≠ g.channel) →
           ((∀ r ∈ cap.records, r.state = .done) → cap.records.length < 8 → 32 * (g.pre + 1) ≤ cap.freeSlots →
             exec (.levelTrigger g.channel) s
               = .next (taken.startCapture g.channel .level g.stamp g.pre g.post none)) ∧
           ((∃ r ∈ cap.records, r.state ≠ .done) ∨ 8 ≤ cap.records.length ∨ cap.freeSlots < 32 * (g.pre + 1) →
             exec (.levelTrigger g.channel) s = .next
               { taken with capture := { cap with waiting := cap.waiting ++
                 [⟨g.channel, .level, g.stamp, g.pre, g.post, 0, 0, none⟩] } }))))) ∧
  (∀ (ch : Fin 16) (cause : CaptureCause) (stamp : Stamp) (pre post : Nat) (delay : Option Nat) (s : State),
     let cap := s.capture
     let ring := s.channels[ch].ring
     let cycles := ring.drop (ring.length - pre)
     (∀ cycle ∈ ring, cycle.length = 32) → cap.writePos < 16384 →
     s.startCapture ch cause stamp pre post delay =
       { s with capture :=
         { cap with
           memory := storeCodes cap.memory cap.writePos cycles.flatten
           writePos := (cap.writePos + 32 * cycles.length) % 16384
           records := cap.records ++
             [⟨cap.nextNumber, ch, cause, stamp, delay, .filling, cycles.length, post, 0, cap.writePos, none, false, 0⟩]
           nextNumber := if cap.nextNumber < 255 then cap.nextNumber + 1 else 1 } })

/-- R142, R144, R145, R154: a cycle offered adds one to the cycle count of each pending entry of its channel. Offered to the
active capture of its channel it is stored while 32 slots are free, ends the capture at its target with CAPTURE_DONE,
suspends it for want of room the first time and ends it truncated the second time, and is skipped while it is SUSPENDED; an
end serves the pending set (`Obligations.PendingSetAndDisables`). With no active capture of its channel nothing else
happens. That an end serves a pending set in which this cycle has already been counted, which shows where an entry and an
active capture of one channel stand together, is the model's reading (assumption 20). -/
def Obligations.OfferedCycle : Prop :=
  (∀ (ch : Fin 16) (codes : List Int) (s : State), s.NoActive (fun other => other = ch) →
     s.offerCycle ch codes =
       { s with capture := { s.capture with waiting := s.capture.waiting.map fun e =>
         if e.channel = ch then { e with cycles := min 65535 (e.cycles + 1) } else e } }) ∧
  ∀ (r : CaptureRecord) (older newer : List CaptureRecord) (codes : List Int) (s : State),
    let cap : CaptureUnit := { s.capture with waiting := s.capture.waiting.map fun e =>
      if e.channel = r.channel then { e with cycles := min 65535 (e.cycles + 1) } else e }
    let stored : CaptureUnit := { cap with
      memory := storeCodes cap.memory cap.writePos codes, writePos := (cap.writePos + 32) % 16384 }
    let kept := fun (c : CaptureUnit) (n : CaptureRecord) =>
      { s with capture := { c with records := older ++ n :: newer } }
    let ended := fun (c : CaptureUnit) (n : CaptureRecord) => State.serve
      { kept c n with
        link := s.made [transformerRecord r.channel .captureDone none (some r.number) s.time.now s.live[r.channel]] }
    cap.records = older ++ r :: newer → (∀ q ∈ older ++ newer, q.state = .done) →
    (r.state = .filling →
      (32 ≤ cap.freeSlots → r.postStored + 1 ≠ r.postTarget →
        s.offerCycle r.channel codes = kept stored { r with postStored := r.postStored + 1 }) ∧
      (32 ≤ cap.freeSlots → r.postStored + 1 = r.postTarget → s.offerCycle r.channel codes =
        ended stored { r with postStored := r.postStored + 1, state := .done, truncated := false }) ∧
      (cap.freeSlots < 32 → r.gap = none → s.offerCycle r.channel codes =
        kept cap { r with state := .suspended, gap := some (r.preCount + r.postStored, 1) }) ∧
      (cap.freeSlots < 32 → r.gap ≠ none →
        s.offerCycle r.channel codes = ended cap { r with state := .done, truncated := true })) ∧
    (r.state = .suspended → ∀ at' n, r.gap = some (at', n) →
      s.offerCycle r.channel codes = kept cap { r with gap := some (at', min 65535 (n + 1)) })

/-- R145, R151: the pending set stands in the order of its trigger stamps, equal stamps by channel, and the first entry is
served: it starts if it has room, with its cycle count as start delay, and otherwise none does; with no entry waiting
nothing happens. R148: a disable drops the channel's pending entry, without a transition, and then ends an active capture of
the channel DONE and truncated, with CAPTURE_DONE, upon which the pending set is served. -/
def Obligations.PendingSetAndDisables : Prop :=
  (∀ a b : Stamp, a.le b = true ↔
     a.day < b.day ∨ a.day = b.day ∧ (a.second < b.second ∨ a.second = b.second ∧ a.tenth ≤ b.tenth)) ∧
  (∀ waiting : List PendingEntry, (servingOrder waiting).Perm waiting ∧ (servingOrder waiting).Pairwise fun e f =>
     e.stamp ≠ f.stamp ∧ e.stamp.le f.stamp = true ∨ e.stamp = f.stamp ∧ e.channel.val ≤ f.channel.val) ∧
  (∀ s : State, s.capture.waiting = [] → s.serve = s) ∧
  (∀ (e : PendingEntry) (s : State), e ∈ s.capture.waiting →
     (s.capture.waiting.map PendingEntry.channel).Nodup →
     (∀ f ∈ s.capture.waiting, f ≠ e →
       f.stamp ≠ e.stamp ∧ e.stamp.le f.stamp = true ∨ f.stamp = e.stamp ∧ e.channel.val < f.channel.val) →
     (s.capture.records.length < 8 → 32 * (e.pre + 1) ≤ s.capture.freeSlots →
       s.serve = State.startCapture e.channel e.cause e.stamp e.pre e.post (some e.cycles)
         { s with capture := { s.capture with
           waiting := s.capture.waiting.filter fun f => decide (f.channel ≠ e.channel) } }) ∧
     (8 ≤ s.capture.records.length ∨ s.capture.freeSlots < 32 * (e.pre + 1) → s.serve = s)) ∧
  (∀ (ch : Fin 16) (before after : List (Fin 16)) (s : State), s.handOffs.disables = before ++ ch :: after → ch ∉ before →
     let taken : State := { s with handOffs := { s.handOffs with disables := before ++ after } }
     let left := s.capture.waiting.filter fun e => decide (e.channel ≠ ch)
     (s.NoActive (fun other => other = ch) → exec (.captureDisableReport ch) s = .next
       { taken with capture := { s.capture with waiting := left } }) ∧
     ∀ (r : CaptureRecord) (older newer : List CaptureRecord), s.capture.records = older ++ r :: newer →
       (∀ q ∈ older ++ newer, q.state = .done) → r.state ≠ .done → r.channel = ch →
       exec (.captureDisableReport ch) s = .next (State.serve
         { taken with
           capture := { s.capture with
             waiting := left, records := older ++ { r with state := .done, truncated := true } :: newer }
           link := s.made [transformerRecord ch .captureDone none (some r.number) s.time.now s.live[ch]] }))

/-! ### The host link -/

/-- R168, R169, R162, R182: a request frame whose check byte agrees, found while hunting, is reported for link silence
and joins the buffer, or at a full buffer is discarded and disarms the restart; a LATCH contact is judged with the report of a
cleared flag, when that is taken (the model's choice, assumption 31; `Obligations.ContactReportTaken`). R168: a frame short of its LEN bytes
is abandoned by a gap or a damaged byte, one whose LEN or check byte fails is discarded, and none of them sets or
emits anything; behind a check byte that fails, hunting resumes with the byte after SYN, so that what follows is what the
frame's later bytes, received while hunting, make of it. A damaged byte while hunting is passed over, which is the model's
choice (assumption 28). -/
def Obligations.RequestFramesArrive : Prop :=
  (∀ (kind tag : Byte) (body : List Byte) (s : State), body.length ≤ 236 → s.link.line = [] →
     let counted := BitVec.ofNat 8 (body.length + 2) :: kind :: tag :: body
     let heard : State :=
       if s.cfg.device.linkSilence = 0 then s
       else { s with
         driver := { s.driver with linkTimer := some s.cfg.device.linkSilence, linkSilent := false }
         handOffs := if s.driver.linkSilent then { s.handOffs with reports := s.handOffs.reports ++ [.linkSilence] }
           else s.handOffs }
     exec (.requestFrame (0xE7 :: (counted ++ [crc8 counted]))) s = .next
       (if s.link.buffer.length < 2 then { heard with link := { s.link with buffer := s.link.buffer ++ [⟨kind, tag, body⟩] } }
       else if s.link.restart = .due then heard else { heard with link := { s.link with restart := .disarmed } })) ∧
  (∀ (noise : List Byte) (s : State), s.link.line = [] → (0xE7 : Byte) ∉ noise →
     exec (.hostDamagedByte noise) s = .next s) ∧
  (∀ (len : Byte) (more : List Byte) (s : State), s.link.line = [] →
     (2 ≤ len.toNat → len.toNat ≤ 238 → more.length ≤ len.toNat →
       exec (.hostFrameGap (0xE7 :: len :: more)) s = .next s ∧ exec (.hostDamagedByte (0xE7 :: len :: more)) s = .next s) ∧
     (len.toNat < 2 ∨ 238 < len.toNat → exec (.hostFrameDiscard [0xE7, len]) s = .next s) ∧
     (∀ check : Byte, 2 ≤ len.toNat → len.toNat ≤ 238 → more.length = len.toNat → crc8 (len :: more) ≠ check →
       exec (.hostFrameDiscard (0xE7 :: len :: (more ++ [check]))) s
         = exec (.hostFrameDiscard (len :: (more ++ [check]))) s ∧
       ((0xE7 : Byte) ∉ len :: (more ++ [check]) →
         exec (.hostFrameDiscard (0xE7 :: len :: (more ++ [check]))) s = .next s)))

/-- R169, R170, R184: the layout of every reply; the end of a reply frees its request's place; a KIND that names no
request kind and a body of another length than its kind's are answered with the status alone. The model's choices: a Fetch
Transitions answered so leaves the kept reply as it is (assumption 19), and a Restart answered so disarms (assumption
27). -/
def Obligations.RepliesAndMalformedRequests : Prop :=
  (∀ (r : Request) (st : Status) (body : List Byte),
    let counted := BitVec.ofNat 8 (body.length + 3) :: (if r.kind.toNat < 0x80 then r.kind + 0x80 else r.kind) :: r.tag
      :: st.code :: body
    replyFrame r st body = 0xE7 :: (counted ++ [crc8 counted])) ∧
  (∀ s : State, (s.link.sending = none → exec .replySent s = .next s) ∧
    (s.link.sending ≠ none → exec .replySent s = .next
      { s with link := { s.link with sending := none, buffer := s.link.buffer.tail } })) ∧
  (∀ (r : Request) (s : State), s.Takes r.kind r → r.kind.toNat = 0 ∨ 0x20 < r.kind.toNat →
    exec .unknownKindRequest s = .next (s.replied r .unknownKind [])) ∧
  ∀ now : Nat, ∀ k ∈ ([(.identify, 0x01, 0), (.readClock, 0x02, 0), (.setClock, 0x03, 6), (.readDeviceSettings, 0x04, 0),
      (.writeDeviceSettings now, 0x05, 15), (.readTransformerSettings, 0x06, 1), (.writeTransformerSettings, 0x07, 81),
      (.readLive, 0x08, 1), (.snapshot, 0x09, 0), (.readSnapshot, 0x0A, 1), (.acknowledge, 0x0B, 3), (.suppress, 0x0C, 3),
      (.readGroundResponse, 0x0E, 0), (.readField, 0x0F, 2), (.readContactMap, 0x10, 1), (.writeContactMap, 0x11, 8),
      (.fetchSummary, 0x12, 0), (.changeNoticeMask, 0x13, 2), (.fetchTransitions, 0x14, 0), (.readEpisode, 0x15, 2),
      (.readEpisodeEntry, 0x16, 3), (.closeEpisode, 0x17, 0), (.captureNow, 0x18, 3), (.extendCapture, 0x19, 2),
      (.listCaptures, 0x1A, 1), (.readCaptureSamples, 0x1B, 4), (.releaseCapture, 0x1C, 1), (.readIntakeStatus, 0x1D, 0),
      (.clearConverterFault, 0x1E, 1), (.saveSettings, 0x1F, 0), (.restart, 0x20, 0)] : List (Instr × Byte × Nat)),
    ∀ (r : Request) (s : State), s.Takes k.2.1 r → r.body.length ≠ k.2.2 →
      exec k.1 s = .next (s.replied r .badLength [])

/-- R170: while LOCK is asserted the six settings kinds and Suppress are answered LOCKED, and otherwise, while a save
is in progress, the six and Restart are answered BUSY; the record in force follows where its kind's rule says so, and
nothing but the reply and the arming changes. -/
def Obligations.LockedAndBusy : Prop :=
  ∀ (now : Nat) (r : Request) (s : State),
    let first := u8 r.body 0
    let kinds : List (Instr × Byte × Nat × List Byte) :=
      [(.writeTransformerSettings, 0x07, 81, if h : first < 16 then (s.cfg.transformers[first]).bytes else []),
        (.loadGroundResponse, 0x0D, r.body.length, []),
        (.writeContactMap, 0x11, 8, if h : 1 ≤ first ∧ first ≤ 4 then (s.cfg.maps[first - 1]).bytes else []),
        (.writeDeviceSettings now, 0x05, 15, s.cfg.device.bytes), (.changeNoticeMask, 0x13, 2, []),
        (.saveSettings, 0x1F, 0, [])]
    (s.inputs.lock.debounced = true →
      (∀ k ∈ kinds, s.Takes k.2.1 r → r.body.length = k.2.2.1 → exec k.1 s = .next (s.replied r .locked k.2.2.2)) ∧
      (s.Takes 0x0C r → r.body.length = 3 → exec .suppress s = .next (s.replied r .locked []))) ∧
    (s.store.save ≠ none →
      (s.inputs.lock.debounced = false →
        ∀ k ∈ kinds, s.Takes k.2.1 r → r.body.length = k.2.2.1 → exec k.1 s = .next (s.replied r .busy k.2.2.2)) ∧
      (s.Takes 0x20 r → r.body = [] → exec .restart s = .next (s.replied r .busy [])))

/-- R12, R14, R33, R69, R70, R135, R136, R151, R152, R167, R178, R179, R183: every read is answered OK with what it names
as it stands, and changes nothing else; the bytes of its body are those `Obligations.RecordsReadBack` gives. A selector of
0 names the open episode or else the newest closed one, another names an episode by its number. Read Field carries at most
32 entries and Read Capture Samples at most 100 codes, and none beyond the end: with fewer than were asked for they answer
CLAMPED. Read Intake Status also clears the eleven flags it reports. Read Contact Map shows the source as the state stands
when the reply is formed, which is the model's choice (assumption 17). -/
def Obligations.ReadsAnswerAndChangeNothing : Prop :=
  ∀ (r : Request) (s : State),
    let answered := fun (st : Status) (body : List Byte) =>
      Host.Outcome.next (φ := Fault) (ρ := Refusal) (s.replied r st body)
    let ok := answered .ok
    (s.Takes 0x01 r → r.body = [] → exec .identify s = ok
      [0x4D, 0x4B, 0x21, 0x60, 0x01, BitVec.ofNat 8 s.cause.code, BitVec.ofNat 8 s.source.code,
        if s.inputs.lock.debounced then 1 else 0]) ∧
    (s.Takes 0x02 r → r.body = [] → exec .readClock s = ok s.clockBody) ∧
    (s.Takes 0x04 r → r.body = [] → exec .readDeviceSettings s = ok s.cfg.device.bytes) ∧
    (∀ i : Fin 16, r.body = [BitVec.ofNat 8 i.val] →
      (s.Takes 0x06 r → exec .readTransformerSettings s = ok s.cfg.transformers[i].bytes) ∧
      (s.Takes 0x08 r → exec .readLive s = ok (s.time.now.bytes ++ s.live[i].bytes)) ∧
      (∀ p, s.snapshots = some p → s.Takes 0x0A r → exec .readSnapshot s = ok (p.stamp.bytes ++ p.copies[i].bytes))) ∧
    (s.Takes 0x0E r → r.body = [] → exec .readGroundResponse s = ok (tapBytes s.cfg.taps)) ∧
    (s.Takes 0x0F r → r.body.length = 2 → u8 r.body 0 ≤ 63 →
      let count := min (u8 r.body 1) (min 32 (64 - u8 r.body 0))
      exec .readField s
        = answered (if count < u8 r.body 1 then .clamped else .ok) (s.fieldBody (u8 r.body 0) count)) ∧
    (∀ k : Fin 4, r.body = [BitVec.ofNat 8 (k.val + 1)] → s.Takes 0x10 r →
      exec .readContactMap s = ok (s.contactBody k)) ∧
    (∀ e : Episode,
      (u16 r.body 0 = 0 ∧
          (s.tracker.openEpisode = some e ∨ s.tracker.openEpisode = none ∧ s.tracker.history.getLast? = some e)) ∨
        (u16 r.body 0 ≠ 0 ∧ e.number = u16 r.body 0 ∧ ∃ before after : List Episode,
          s.tracker.openEpisode.toList ++ s.tracker.history = before ++ e :: after ∧
            ∀ f ∈ before, f.number ≠ e.number) →
      (s.Takes 0x15 r → r.body.length = 2 → exec .readEpisode s = ok (s.episodeBody e)) ∧
      ∀ i : Fin 16, s.Takes 0x16 r → r.body.length = 3 → u8 r.body 2 = i.val →
        exec .readEpisodeEntry s = ok (e.entryBody i)) ∧
    (s.Takes 0x1A r → (r.body = [0] → exec .listCaptures s = ok s.capture.listBytes) ∧
      (r.body = [1] → exec .listCaptures s = ok s.capture.pendingBytes)) ∧
    (∀ (c : CaptureRecord) (older newer : List CaptureRecord), s.capture.records = older ++ c :: newer →
      (∀ q ∈ older, q.number ≠ c.number) → s.Takes 0x1B r → r.body.length = 4 → u8 r.body 0 = c.number →
      u16 r.body 1 ≤ 32 * (c.preCount + c.postStored) →
      let count := min (min (u8 r.body 3) 100) (32 * (c.preCount + c.postStored) - u16 r.body 1)
      exec .readCaptureSamples s = answered (if count < u8 r.body 3 then .clamped else .ok)
        (s.capture.sampleBytes c (u16 r.body 1) count)) ∧
    (s.Takes 0x1D r → r.body = [] → exec .readIntakeStatus s = .next
      (State.replied r .ok s.intake.bytes
        { s with intake := { s.intake with
          crcSeen := false
          converters := Vector.ofFn fun c =>
            { s.intake.converters[c] with overrun := false, resyncSeen := false } } }))

/-- R2, R12, R14, R30, R70, R135, R136, R149 to R153, R167: a number that names nothing the part holds is answered NOT_FOUND
with the status alone, and nothing else changes: of a transformer (of Write Transformer Settings too, where neither LOCK nor
a save refuses it), a snapshot, a field entry, a contact, an episode, a capture, a converter. Of Write Contact Map,
`Obligations.TableAndMapWritten` says it. -/
def Obligations.UnknownNumbersNotFound : Prop :=
  ∀ (r : Request) (s : State),
    let n := u8 r.body 0
    let noEpisode := u16 r.body 0 = 0 ∧ s.tracker.openEpisode = none ∧ s.tracker.history = [] ∨
      u16 r.body 0 ≠ 0 ∧ ∀ e ∈ s.tracker.openEpisode.toList ++ s.tracker.history, e.number ≠ u16 r.body 0
    let notFound := Host.Outcome.next (φ := Fault) (ρ := Refusal) (s.replied r .notFound [])
    (r.body.length = 1 →
      (16 ≤ n → (s.Takes 0x06 r → exec .readTransformerSettings s = notFound) ∧
        (s.Takes 0x08 r → exec .readLive s = notFound) ∧ (s.Takes 0x0A r → exec .readSnapshot s = notFound)) ∧
      (s.snapshots = none → s.Takes 0x0A r → exec .readSnapshot s = notFound) ∧
      (n = 0 ∨ 4 < n → s.Takes 0x10 r → exec .readContactMap s = notFound) ∧
      (1 < n → s.Takes 0x1A r → exec .listCaptures s = notFound) ∧
      (4 < n → s.Takes 0x1E r → exec .clearConverterFault s = notFound) ∧
      ((∀ q ∈ s.capture.records, q.number ≠ n) → s.Takes 0x1C r → exec .releaseCapture s = notFound)) ∧
    (r.body.length = 2 →
      (63 < n → s.Takes 0x0F r → exec .readField s = notFound) ∧
      ((∀ q ∈ s.capture.records, q.number ≠ n) → s.Takes 0x19 r → exec .extendCapture s = notFound) ∧
      (noEpisode → s.Takes 0x15 r → exec .readEpisode s = notFound)) ∧
    (r.body.length = 3 →
      (16 ≤ n → s.Takes 0x18 r → exec .captureNow s = notFound) ∧
      (noEpisode ∨ 16 ≤ u8 r.body 2 → s.Takes 0x16 r → exec .readEpisodeEntry s = notFound)) ∧
    (r.body.length = 81 → 16 ≤ n → s.inputs.lock.debounced = false → s.store.save = none → s.Takes 0x07 r →
      exec .writeTransformerSettings s = notFound) ∧
    (r.body.length = 4 → (∀ q ∈ s.capture.records, q.number = n → q.length < u16 r.body 1) → s.Takes 0x1B r →
      exec .readCaptureSamples s = notFound)

/-- R2, R3, R7, R8, R9: a settings part taken is the record with each field beyond its range at the nearest end (a reminder
of 1 to 59 at 60), each enumerated code outside its set at the highest, any nonzero yes/no byte yes; in force at once. A new
O_set sets O_eff and clears OFFSET_FAULT, learning turned off discards its accumulation, a disable and an enable change the
service state; a record out of order is REFUSED with the record in force and the first order it breaks. That an enable goes
by the input as it stood before the first change of it still waiting to be taken is read from R7 (assumption 18). That
CLAMPED is answered exactly when the bytes stored differ from the bytes sent (a yes/no byte above 1 among them) is the
model's reading (assumption 12). A number above 15 is answered NOT_FOUND (`Obligations.UnknownNumbersNotFound`). -/
def Obligations.WriteTransformerSettingsTaken : Prop :=
  (∀ sent : List Byte,
    let within := fun low high v : Nat => max low (min high v)
    settingsOf sent =
      { enabled := decide (u8 sent 0 ≠ 0)
        gain := within 1 65535 (u16 sent 1)
        offsetSet := max (-2047) (min 2047 (s16 sent 3))
        learning := decide (u8 sent 5 ≠ 0)
        iWatch := within 1 30000 (u16 sent 6)
        iWarn := within 1 30000 (u16 sent 8)
        iAlarm := within 1 30000 (u16 sent 10)
        hyst := within 0 5000 (u16 sent 12)
        dWatch := within 0 600 (u16 sent 14)
        dWarn := within 0 600 (u16 sent 16)
        dAlarm := within 0 600 (u16 sent 18)
        dFall := within 0 3600 (u16 sent 20)
        breakpoints := Vector.ofFn fun k : Fin 8 =>
          ⟨within 1 30000 (u16 sent (22 + 4 * k.val)), within 0 20000 (u16 sent (24 + 4 * k.val))⟩
        tauHeat := within 10 7200 (u16 sent 54)
        tauCool := within 10 7200 (u16 sent 56)
        tWarn := within 1 20000 (u16 sent 58)
        tAlarm := within 1 20000 (u16 sent 60)
        tHys := within 0 2000 (u16 sent 62)
        checkMode := if u8 sent 64 = 0 then .off else if u8 sent 64 = 1 then .report else .guard
        coefA := s16 sent 65
        coefB := s16 sent 67
        wAbs := within 1 30000 (u16 sent 69)
        wPct := within 0 100 (u8 sent 71)
        doubtD := within 1 3600 (u16 sent 72)
        reminder := if u16 sent 74 = 0 then 0 else within 60 3600 (u16 sent 74)
        latched := decide (u8 sent 76 ≠ 0)
        captureLevel := if u8 sent 77 = 0 then .none else if u8 sent 77 = 1 then .warn else .alarm
        capturePre := within 0 4 (u8 sent 78)
        capturePost := within 1 250 (u8 sent 79) }) ∧
  ∀ (i : Fin 16) (r : Request) (s : State), s.Takes 0x07 r → r.body.length = 81 → u8 r.body 0 = i.val →
    s.inputs.lock.debounced = false → s.store.save = none →
    let sent := r.body.drop 1
    let c := settingsOf sent
    let old := s.cfg.transformers[i]
    let thresholds := c.iWatch < c.iWarn ∧ c.iWarn < c.iAlarm
    let points := ∀ k : Fin 7, c.breakpoints[k.val].x < c.breakpoints[k.val + 1].x ∧
      c.breakpoints[k.val].r ≤ c.breakpoints[k.val + 1].r
    (¬ thresholds →
      exec .writeTransformerSettings s = .next (s.replied r .refused (old.bytes ++ [0]))) ∧
    (thresholds → ¬ points →
      exec .writeTransformerSettings s = .next (s.replied r .refused (old.bytes ++ [1]))) ∧
    (thresholds → points → c.tAlarm ≤ c.tWarn →
      exec .writeTransformerSettings s = .next (s.replied r .refused (old.bytes ++ [2]))) ∧
    (thresholds → points → c.tWarn < c.tAlarm →
      let status := if c.bytes = sent then Status.ok else .clamped
      let l := if c.offsetSet = old.offsetSet then s.live[i]
        else { s.live[i] with offsetEff := c.offsetSet, offsetFault := false }
      let ch := if old.learning ∧ ¬ c.learning then { s.channels[i] with learning := ⟨0, 0, 0⟩ } else s.channels[i]
      let stored : State := { s with cfg := { s.cfg with transformers := s.cfg.transformers.set i c } }
      let told := { s.handOffs with reports := s.handOffs.reports ++ [.transformer i] }
      (c.enabled = old.enabled → exec .writeTransformerSettings s = .next (State.replied r status c.bytes
        { stored with live := s.live.set i l, channels := s.channels.set i ch })) ∧
      (old.enabled = true → c.enabled = false → exec .writeTransformerSettings s = .next (State.replied r status c.bytes
        { stored with
          live := s.live.set i
            { l with
              service := .off, level := .normal, riseAge := 0, calmAge := 0, reminderCount := 0, doubt := false
              lost := false, unacknowledged := false, outsideRun := 0, insideRun := 0, age := 0, measured := none
              predicted := none, basis := none, heat := 0, steady := 0 }
          channels := s.channels.set i { s.channels[i] with learning := ⟨0, 0, 0⟩, deenergisedTime := 0 }
          handOffs := { told with disables := s.handOffs.disables ++ [i] } })) ∧
      (old.enabled = false → c.enabled = true →
        let waiting := s.handOffs.enReports.find? fun e => e.transformer = i
        let into := (waiting.map fun e => !e.level).getD s.inputs.en[i].debounced
        exec .writeTransformerSettings s = .next (State.replied r status c.bytes
          { stored with
            live := s.live.set i
              (if into then { l with service := .inService, age := 0 } else { l with service := .outOfService })
            channels := s.channels.set i { ch with deenergisedTime := 0 }
            link := s.made [transformerRecord i (if into then .inService else .outOfService) none none s.time.now l]
            handOffs := told })))

/-- R179, R46, R147, R6, R162, R165, R176: device settings taken are the record with each field beyond its range at the
nearest end (a link silence of 1 to 9 at 10), a mains code other than 50 at 60, a fill code other than 0 at ZERO, any
nonzero yes/no byte yes, and with the mask that stands. Of the fields that act at once, a change of mains abandons all
partial work and ends an active capture truncated, a change of debounce completes the holds that have lasted it, each EN and
PANEL change of them reported, a change of link silence loads or stops its timer and clears its flag, panel lock turned on
ends a press or a test, and pps use turned on or off makes LOST or UNUSED. That CLAMPED is answered exactly when the bytes
differ is the model's reading (assumption 12), and so is the order of the reports of holds that complete together, EN0 to
EN15 (assumption 15). -/
def Obligations.WriteDeviceSettingsTaken : Prop :=
  (∀ (sent : List Byte) (mask : CategorySet),
    deviceOf sent mask =
      { mains := if u8 sent 0 = 50 then .hz50 else .hz60
        fill := Vector.ofFn fun c : Fin 4 => if u8 sent (1 + c.val) = 0 then .hold else .zero
        debounce := max 4 (min 250 (u8 sent 5))
        quietTime := max 60 (min 86400 (u24 sent 6))
        eStart := max 1 (min 32767 (u16 sent 9))
        linkSilence := if u16 sent 11 = 0 then 0 else max 10 (min 3600 (u16 sent 11))
        panelLock := decide (u8 sent 13 ≠ 0)
        ppsUse := decide (u8 sent 14 ≠ 0)
        noticeMask := mask }) ∧
  ∀ (now : Nat) (r : Request) (s : State), s.Takes 0x05 r → r.body.length = 15 →
    s.inputs.lock.debounced = false → s.store.save = none →
    let old := s.cfg.device
    let d := deviceOf r.body old.noticeMask
    let stored : State := { s with cfg := { s.cfg with device := d } }
    let answer := fun t : State => exec (.writeDeviceSettings now) s
      = .next (t.replied r (if d.writtenBytes = r.body then .ok else .clamped) d.bytes)
    let lockOn := old.panelLock = false ∧ d.panelLock = true
    (d.mains = old.mains → d.debounce = old.debounce → d.linkSilence = old.linkSilence → ¬ lockOn →
      (d.ppsUse = old.ppsUse → answer stored) ∧
      (old.ppsUse = false → d.ppsUse = true → answer { stored with time := { s.time with pps := .lost } }) ∧
      (old.ppsUse = true → d.ppsUse = false →
        (s.time.pendingSet = none → answer { stored with time := { s.time with pps := .unused } }) ∧
        ∀ day sec, s.time.pendingSet = some (day, sec) → answer { stored with
          time := ⟨⟨day, sec, s.time.now.tenth⟩, none, .unused, s.time.lastEdge⟩
          link := s.made [deviceRecord .clockSet none ⟨day, sec, s.time.now.tenth⟩] })) ∧
    (d.ppsUse = old.ppsUse →
      (d.mains ≠ old.mains → d.debounce = old.debounce → d.linkSilence = old.linkSilence → ¬ lockOn →
        ∃ (u : CaptureUnit) (ts : List Transition), NoticeTaken (fun _ => True) s u ts ∧
          answer { stored with capture := u, channels := s.emptied fun _ => True, link := s.made ts }) ∧
      (d.mains = old.mains → d.debounce = old.debounce → d.linkSilence ≠ old.linkSilence → ¬ lockOn →
        answer { stored with
          driver := { s.driver with
            linkTimer := if d.linkSilence = 0 then none else some d.linkSilence, linkSilent := false }
          handOffs := if s.driver.linkSilent then
            { s.handOffs with reports := s.handOffs.reports ++ [.linkSilence] } else s.handOffs }) ∧
      (d.mains = old.mains → d.debounce ≠ old.debounce → d.linkSilence = old.linkSilence → ¬ lockOn →
        let lasted := fun p : Pin => (s.inputs.get p).hold.any fun start => decide (d.debounce ≤ now - start)
        ∃ v : Inputs,
          (∀ p : Pin, v.get p =
            if lasted p then ⟨(s.inputs.get p).raw, (s.inputs.get p).raw, none⟩ else s.inputs.get p) ∧
          answer { stored with
            inputs := v
            handOffs := { s.handOffs with
              enReports := s.handOffs.enReports ++
                ((List.finRange 16).filter fun i => lasted (.en i)).map fun i => ⟨i, s.inputs.en[i].raw⟩
              panelReports := s.handOffs.panelReports ++
                if lasted .panel then [s.inputs.panel.raw] else [] } }) ∧
      (d.mains = old.mains → d.debounce = old.debounce → d.linkSilence = old.linkSilence → lockOn →
        (s.driver.panel = .idle ∨ s.driver.panel = .ignored → answer stored) ∧
        (s.driver.panel = .pressed ∨ s.driver.panel = .test ∨ s.driver.panel = .testEnded →
          ∃ t, answer t ∧ PanelMoved .ignored false stored t)))

/-- R68, R166: a ground response table and a contact map taken are in force at once; of a map, a code that names no minimum
level, mode or sense takes the highest, a device source that is none is dropped, and a nonzero test enable is yes. The
contact whose map is written is judged under it, keeping its state where the mode is unchanged, and the outputs and the lamp
follow. The model's readings: CLAMPED exactly when the bytes differ (assumption 12), and a report that joins those waiting
although the contact has been judged at once (assumption 16). -/
def Obligations.TableAndMapWritten : Prop :=
  (∀ sent : List Byte,
    mapOf sent =
      { transformers := BitVec.ofNat 16 (u16 sent 0)
        minLevel := if u8 sent 2 = 1 then .watch else if u8 sent 2 = 2 then .warn else .alarm
        sources := BitVec.ofNat 5 (u8 sent 3 % 32)
        mode := if u8 sent 4 = 0 then .follow else .latch
        sense := if u8 sent 5 = 0 then .energiseOnAlarm else .deenergiseOnAlarm
        testEnable := decide (u8 sent 6 ≠ 0) }) ∧
  ∀ (r : Request) (s : State), s.inputs.lock.debounced = false → s.store.save = none →
    (s.Takes 0x0D r →
      (∀ n : Nat, 1 ≤ n → n ≤ 64 → u8 r.body 0 = n → r.body.length = 1 + 2 * n →
        exec .loadGroundResponse s = .next (State.replied r .ok []
          { s with cfg := { s.cfg with taps := (List.range n).map fun j => s16 r.body (1 + 2 * j) } })) ∧
      (u8 r.body 0 = 0 ∨ 64 < u8 r.body 0 ∨ r.body.length ≠ 1 + 2 * u8 r.body 0 →
        exec .loadGroundResponse s = .next (s.replied r .badLength []))) ∧
    (s.Takes 0x11 r → r.body.length = 8 →
      (u8 r.body 0 = 0 ∨ 4 < u8 r.body 0 → exec .writeContactMap s = .next (s.replied r .notFound [])) ∧
      ∀ k : Fin 4, u8 r.body 0 = k.val + 1 →
        let m := mapOf (r.body.drop 1)
        let c := s.driver.contacts[k]
        let source := s.sourceOf m
        let state := if m.mode = .follow then (if source then .closed else .open)
          else if s.cfg.maps[k].mode = .latch then latchJudged source c.state
          else if source then .closedActive else .open
        ∃ t, exec .writeContactMap s = .next
            (t.replied r (if m.bytes = r.body.drop 1 then .ok else .clamped) m.bytes) ∧
          Driven t ∧ t.driver.contacts[k].state = state ∧ t.driver.contacts[k].source = source ∧
          (∀ j : Fin 4, j ≠ k → t.driver.contacts[j].state = s.driver.contacts[j].state ∧
            t.driver.contacts[j].source = s.driver.contacts[j].source) ∧
          t = { s with
            cfg := { s.cfg with maps := s.cfg.maps.set k m }
            driver := { s.driver with contacts := t.driver.contacts, lamp := t.driver.lamp }
            handOffs := { s.handOffs with reports := s.handOffs.reports ++ [.map k] } })

/-- R177: Set Clock brings second and tenth within range; while TRACKING it stages day and second, replacing a set
already pending, and otherwise sets the time at once with CLOCK_SET. R171, R184: the category of each kind of transition, as
its bit of a summary set. R171 to R174: a transition joins the queue, or is discarded at 64 with QUEUE_FULL, and its
category joins the summary set; Fetch Summary reports and empties the set, Change Notice Mask changes the mask, ATTN
following both; Fetch Transitions takes up to eight records, and a repeated TAG gets the kept reply. -/
def Obligations.ClockTransitionsAndNotices : Prop :=
  (∀ (r : Request) (s : State), s.Takes 0x03 r → r.body.length = 6 →
     let day := u16 r.body 0
     let second := min 86399 (u24 r.body 2)
     let tenth := min 9 (u8 r.body 5)
     let status := if 86399 < u24 r.body 2 ∨ 9 < u8 r.body 5 then Status.clamped else .ok
     (s.time.pps = .tracking → exec .setClock s = .next
       (State.replied r status [1] { s with time := { s.time with pendingSet := some (day, second) } })) ∧
     (s.time.pps ≠ .tracking → exec .setClock s = .next
       (State.replied r status [0]
         { s with
           time := { s.time with now := ⟨day, second, tenth⟩ }
           link := s.made [deviceRecord .clockSet none ⟨day, second, tenth⟩] }))) ∧
  (∀ p ∈ ([([.levelUp, .levelDown, .reminder, .outOfService, .inService], 0x01),
       ([.doubtOn, .doubtOff, .lostOn, .lostOff, .offsetLearned, .offsetFault, .converterResync, .converterFault,
         .converterAbsent, .fieldNone], 0x02),
       ([.episodeOpen, .episodeClose], 0x04), ([.captureDone, .captureMissed], 0x08),
       ([.clockSet, .ppsLost, .settingsSaved, .settingsSaveFailed, .linkSilent, .restarted], 0x10)]
         : List (List TransitionKind × CategorySet)), ∀ kind ∈ p.1, kind.category.bit = p.2) ∧
  ((∀ (t : Transition) (s : State),
     let l := s.made [t]
     let joined := s.link.summary ||| t.kind.category.bit
     (s.link.transitions.length < 64 → l.transitions = s.link.transitions ++ [t] ∧ l.summary = joined) ∧
     (64 ≤ s.link.transitions.length → l.transitions = s.link.transitions ∧ l.summary = joined ||| 0x20) ∧
     (l.attn = true ↔ l.summary &&& s.cfg.device.noticeMask ≠ 0) ∧
     l = { s.link with transitions := l.transitions, summary := l.summary, attn := l.attn }) ∧
   ∀ (r : Request) (s : State),
     (s.Takes 0x12 r → r.body = [] → exec .fetchSummary s = .next
       (State.replied r .ok [s.link.summary.setWidth 8, BitVec.ofNat 8 s.link.transitions.length]
         { s with link := { s.link with summary := 0, attn := false } })) ∧
     (∀ action code : Byte, r.body = [action, code] → s.Takes 0x13 r → s.inputs.lock.debounced = false →
       s.store.save = none →
       let named : CategorySet := code.setWidth 6
       let mask := if action = 1 then s.cfg.device.noticeMask &&& ~~~named else s.cfg.device.noticeMask ||| named
       exec .changeNoticeMask s = .next
         (State.replied r (if code.toNat < 64 then .ok else .clamped) [mask.setWidth 8]
           { s with
             cfg := { s.cfg with device := { s.cfg.device with noticeMask := mask } }
             link := { s.link with attn := decide (s.link.summary &&& mask ≠ 0) } })) ∧
     (s.Takes 0x14 r → r.body = [] →
       (∀ frame, s.link.kept = some (r.tag, frame) → exec .fetchTransitions s = .next
         { s with link := { s.link with restart := .disarmed, sending := some frame } }) ∧
       ((∀ k, s.link.kept = some k → k.1 ≠ r.tag) →
         let taken := s.link.transitions.take 8
         let left := s.link.transitions.drop 8
         let frame := replyFrame r .ok
           (BitVec.ofNat 8 taken.length :: BitVec.ofNat 8 left.length :: taken.flatMap Transition.bytes)
         exec .fetchTransitions s = .next
           { s with link := { s.link with
             restart := .disarmed, transitions := left, kept := some (r.tag, frame), sending := some frame } })))

/-- R113, R117, R119, R157, R160: Acknowledge clears unacknowledged of the transformers named, answers with those that were
owed, and with its contacts flag moves each LATCH contact by the Acknowledged column; Suppress sets or clears suppressed of
those named and answers with all that are suppressed. Each transformer whose flag changed is reported to the Contact Driver
with its number. -/
def Obligations.AcknowledgeAndSuppress : Prop :=
  ∀ (r : Request) (s : State), r.body.length = 3 →
    let named : TransformerSet := BitVec.ofNat 16 (u16 r.body 0)
    (s.Takes 0x0B r → ∃ (owed : TransformerSet) (t : State),
      exec .acknowledge s = .next (t.replied r .ok (beBytes 2 owed.toNat)) ∧
      (∀ i : Fin 16, owed.getLsbD i = true ↔ named.getLsbD i = true ∧ s.live[i].unacknowledged = true) ∧
      t = { s with
        live := Vector.ofFn fun i =>
          if named.getLsbD i then { s.live[i] with unacknowledged := false } else s.live[i]
        driver := { s.driver with contacts := t.driver.contacts, lamp := t.driver.lamp }
        handOffs := { s.handOffs with reports := s.handOffs.reports ++
          ((List.finRange 16).filter fun i => owed.getLsbD i.val).map .transformer } } ∧
      (u8 r.body 2 = 0 → t.driver = s.driver) ∧
      (u8 r.body 2 ≠ 0 → Driven t ∧ ∀ k : Fin 4,
        t.driver.contacts[k].source = s.driver.contacts[k].source ∧
        t.driver.contacts[k].state =
          (if s.cfg.maps[k].mode = .latch ∧ s.driver.contacts[k].state = .closedActive then .closedAcked
          else if s.cfg.maps[k].mode = .latch ∧ s.driver.contacts[k].state = .closedHeld then .open
          else s.driver.contacts[k].state))) ∧
    (s.Takes 0x0C r → s.inputs.lock.debounced = false → ∃ (all : TransformerSet) (t : State),
      exec .suppress s = .next (t.replied r .ok (beBytes 2 all.toNat)) ∧
      (∀ i : Fin 16, all.getLsbD i = true ↔ t.live[i].suppressed = true) ∧
      t = { s with
        live := Vector.ofFn fun i =>
          if named.getLsbD i then { s.live[i] with suppressed := decide (u8 r.body 2 ≠ 1) } else s.live[i]
        handOffs := { s.handOffs with reports := s.handOffs.reports ++
          ((List.finRange 16).filter fun i => t.live[i].suppressed != s.live[i].suppressed).map .transformer } })

/-- R13, R30, R132: Snapshot replaces the snapshot set; Clear Converter Fault makes a FAULTED converter LOCKED and
answers WRONG_STATE for any other; Close Episode closes the open episode FORCED and answers WRONG_STATE with none
open. -/
def Obligations.SnapshotClearAndClose : Prop :=
  ∀ (r : Request) (s : State),
    (s.Takes 0x09 r → r.body = [] → exec .snapshot s = .next
      (State.replied r .ok s.time.now.bytes { s with snapshots := some ⟨s.time.now, s.live⟩ })) ∧
    (∀ c : Fin 5, r.body = [BitVec.ofNat 8 c.val] → s.Takes 0x1E r →
      (∀ ref, s.intake.converters[c].state = .faulted ref → exec .clearConverterFault s = .next
        (State.replied r .ok []
          { s with
            intake :=
              { s.intake with
                converters := s.intake.converters.set c { s.intake.converters[c] with state := .locked ref } }
            handOffs := { s.handOffs with reports := s.handOffs.reports ++ [.converter c] } })) ∧
      ((∀ ref, s.intake.converters[c].state ≠ .faulted ref) →
        exec .clearConverterFault s = .next (s.replied r .wrongState []))) ∧
    (s.Takes 0x17 r → r.body = [] →
      (s.tracker.openEpisode = none → exec .closeEpisode s = .next (s.replied r .wrongState [])) ∧
      ∀ e : Episode, s.tracker.openEpisode = some e →
        let held := s.tracker.history ++ [{ e with closed := some (s.time.now, .forced) }]
        exec .closeEpisode s = .next (State.replied r .ok (beBytes 2 e.number)
          { s with
            tracker := { s.tracker with openEpisode := none, quietTimer := 0, history := held.drop (held.length - 8) }
            link := s.made [deviceRecord .episodeClose (some e.number) s.time.now]
            handOffs := { s.handOffs with reports := s.handOffs.reports ++ [.tracker] } }))

/-- R149, R150, R143: Capture Now refuses an OFF transformer and a channel with an entry, extends an active capture of
its channel, starts one where it can and else joins the pending set; Extend Capture raises the target of the active
capture, and answers WRONG_STATE for a DONE one. R153, R144: Release Capture takes the oldest record out of the list
when it is DONE, a SUSPENDED capture resumes where 32 slots are then free, with no capture active the pending set is served
(`Obligations.PendingSetAndDisables`), and the reply carries the free slots; a record that is not the oldest or not DONE is
answered WRONG_STATE. -/
def Obligations.CaptureRequests : Prop :=
  (∀ (r : Request) (s : State),
     let cap := s.capture
     (∀ ch : Fin 16, s.Takes 0x18 r → r.body.length = 3 → u8 r.body 0 = ch.val →
       let pre := min 4 (u8 r.body 1)
       let post := max 1 (min 250 (u8 r.body 2))
       let clamped := pre ≠ u8 r.body 1 ∨ post ≠ u8 r.body 2
       let status := if clamped then Status.clamped else .ok
       (s.live[ch].service = .off ∨ (∃ e ∈ cap.waiting, e.channel = ch) →
         exec .captureNow s = .next (s.replied r .wrongState [])) ∧
       (s.live[ch].service ≠ .off → (∀ e ∈ cap.waiting, e.channel ≠ ch) →
         (∀ (older : List CaptureRecord) (a : CaptureRecord), cap.records = older ++ [a] → (∀ q ∈ older, q.state = .done) →
           a.state ≠ .done → a.channel = ch →
           let target := max a.postTarget (a.postStored + post)
           exec .captureNow s = .next (State.replied r (if clamped ∨ 250 < target then .clamped else .ok)
             [1, BitVec.ofNat 8 a.number]
             { s with capture := { cap with records :=
               older ++ [{ a with postTarget := min 250 target, extensions := min 255 (a.extensions + 1) }] } })) ∧
         ((∀ q ∈ cap.records, q.state = .done) → cap.records.length < 8 → 32 * (pre + 1) ≤ cap.freeSlots →
           exec .captureNow s = .next (State.replied r status [0, BitVec.ofNat 8 cap.nextNumber]
             (s.startCapture ch .request s.time.now pre post none))) ∧
         (s.NoActive (fun other => other = ch) →
           (∃ q ∈ cap.records, q.state ≠ .done) ∨ 8 ≤ cap.records.length ∨ cap.freeSlots < 32 * (pre + 1) →
           exec .captureNow s = .next (State.replied r status [2, 0]
             { s with capture := { cap with waiting := cap.waiting ++
               [⟨ch, .request, s.time.now, pre, post, 0, 0, none⟩] } })))) ∧
     ∀ (older newer : List CaptureRecord) (a : CaptureRecord), s.Takes 0x19 r → r.body.length = 2 →
       u8 r.body 0 = a.number → cap.records = older ++ a :: newer → (∀ q ∈ older, q.number ≠ a.number) →
       (a.state = .done → exec .extendCapture s = .next (s.replied r .wrongState [])) ∧
       (a.state ≠ .done → (∀ q ∈ older ++ newer, q.state = .done) →
         let target := a.postTarget + u8 r.body 1
         exec .extendCapture s = .next (State.replied r (if 250 < target then .clamped else .ok)
           [BitVec.ofNat 8 (min 250 target), BitVec.ofNat 8 a.postStored]
           { s with capture := { cap with records := older ++
             { a with postTarget := min 250 target, extensions := min 255 (a.extensions + 1) } :: newer } }))) ∧
  (∀ (r : Request) (a : CaptureRecord) (rest : List CaptureRecord) (s : State), s.Takes 0x1C r → r.body.length = 1 →
     s.capture.records = a :: rest →
     (u8 r.body 0 = a.number → a.state ≠ .done → exec .releaseCapture s = .next (s.replied r .wrongState [])) ∧
     (u8 r.body 0 ≠ a.number → (∃ q ∈ rest, q.number = u8 r.body 0) → a ∉ rest →
       exec .releaseCapture s = .next (s.replied r .wrongState [])) ∧
     (u8 r.body 0 = a.number → a.state = .done →
       let left : State := { s with capture := { s.capture with
         records := if 32 ≤ 16384 - usedSlots rest then
             rest.map (fun q => if q.state = .suspended then { q with state := .filling } else q)
           else rest } }
       let answer := fun t : State =>
         exec .releaseCapture s = .next (t.replied r .ok (beBytes 2 (16384 - usedSlots t.capture.records)))
       ((∃ q ∈ rest, q.state ≠ .done) → answer left) ∧ ((∀ q ∈ rest, q.state = .done) → answer left.serve)))

/-- R180, R182: Save Settings begins a save with a copy of the settings, whose completion stores them with
SETTINGS_SAVED or leaves the image invalid with SETTINGS_SAVE_FAILED; a Restart arms, and a second one in a row makes
the reset due. -/
def Obligations.SaveAndRestart : Prop :=
  ∀ (r : Request) (s : State),
    (s.Takes 0x1F r → r.body = [] → s.inputs.lock.debounced = false → s.store.save = none →
      exec .saveSettings s = .next (State.replied r .ok [] { s with store := { s.store with save := some s.cfg } })) ∧
    (∀ copy, s.store.save = some copy →
      exec (.saveCompletion true) s = .next
        { s with store := ⟨copy, true, none⟩, link := s.made [deviceRecord .settingsSaved none s.time.now] } ∧
      exec (.saveCompletion false) s = .next
        { s with
          store := ⟨s.store.image, false, none⟩
          link := s.made [deviceRecord .settingsSaveFailed none s.time.now] }) ∧
    (∀ agrees, s.store.save = none → exec (.saveCompletion agrees) s = .next s) ∧
    (s.Takes 0x20 r → r.body = [] → s.store.save = none →
      exec .restart s = .next { s with link := { s.link with
        restart := if s.link.restart = .disarmed then .armed else .due
        sending := some (replyFrame r .ok []) } })
end

