-- ==== Sys2Proof/Laws/Arith.lean ====
section
/-! SUPPORT. What the shared arithmetic and list operations can do, said once. -/

namespace Sys2Proof.Machine

/-! ### Clamps and saturating counts -/

/-- A clamped integer lies within its range. -/
theorem clampInt_mem {lo hi n : Int} (h : lo ≤ hi) : lo ≤ clampInt lo hi n ∧ clampInt lo hi n ≤ hi := by
  unfold clampInt; omega

/-- A value within the range is left as it is. -/
theorem clampInt_of_mem {lo hi n : Int} (h : lo ≤ n) (h' : n ≤ hi) : clampInt lo hi n = n := by
  unfold clampInt; omega

theorem clampNat_mem {lo hi n : Nat} (h : lo ≤ hi) : lo ≤ clampNat lo hi n ∧ clampNat lo hi n ≤ hi := by
  unfold clampNat; omega

theorem clampNat_of_mem {lo hi n : Nat} (h : lo ≤ n) (h' : n ≤ hi) : clampNat lo hi n = n := by
  unfold clampNat; omega

/-- A saturating count never passes its limit. -/
theorem satSucc_le (limit n : Nat) : satSucc limit n ≤ limit := by unfold satSucc; omega

/-- Below its limit a saturating count counts. -/
theorem satSucc_of_lt {limit n : Nat} (h : n < limit) : satSucc limit n = n + 1 := by unfold satSucc; omega

/-! ### Taking the first of a list -/

/-- Nothing is taken exactly where nothing is picked. -/
theorem takeFirst_eq_none {α : Type} {p : α → Bool} {l : List α} :
    takeFirst p l = none ↔ ∀ a ∈ l, p a = false := by
  induction l with
  | nil => simp [takeFirst]
  | cons a rest ih =>
    cases h : takeFirst p rest with
    | none =>
      cases hp : p a
      · simpa [takeFirst, hp, h] using ih.mp h
      · simp [takeFirst, hp]
    | some r =>
      have : ¬ ∀ a ∈ rest, p a = false := fun hr => by simp [ih.mpr hr] at h
      cases hp : p a <;> simp [takeFirst, hp, h, this]

/-- What is taken is the first picked; what stood before and after it stays, in order. -/
theorem takeFirst_eq_some {α : Type} {p : α → Bool} {l : List α} {a : α} {rest : List α} :
    takeFirst p l = some (a, rest) ↔
      ∃ before after, l = before ++ a :: after ∧ rest = before ++ after ∧ p a = true ∧ ∀ b ∈ before, p b = false := by
  induction l generalizing rest with
  | nil => simp [takeFirst]
  | cons c others ih =>
    cases hc : p c with
    | true =>
      constructor
      · intro h
        simp only [takeFirst, hc, if_true, Option.some.injEq, Prod.mk.injEq] at h
        obtain ⟨rfl, rfl⟩ := h
        exact ⟨[], others, rfl, rfl, hc, by simp⟩
      · rintro ⟨before, after, hl, rfl, -, hb⟩
        cases before with
        | nil => obtain ⟨rfl, rfl⟩ := List.cons.inj hl; simp [takeFirst, hc]
        | cons d ds =>
          obtain ⟨rfl, -⟩ := List.cons.inj hl
          exact absurd hc (by simp [hb])
    | false =>
      cases hr : takeFirst p others with
      | none =>
        simp only [takeFirst, hc, hr, Bool.false_eq_true, if_false, reduceCtorEq, false_iff]
        rintro ⟨before, after, hl, -, ha, -⟩
        have hmem : a ∈ c :: others := by rw [hl]; simp
        rcases List.mem_cons.mp hmem with rfl | hm
        · simp [hc] at ha
        · simp [takeFirst_eq_none.mp hr a hm] at ha
      | some q =>
        obtain ⟨b, left⟩ := q
        simp only [takeFirst, hc, hr, Bool.false_eq_true, if_false, Option.some.injEq, Prod.mk.injEq]
        constructor
        · rintro ⟨rfl, rfl⟩
          obtain ⟨before, after, rfl, rfl, hb, hbefore⟩ := (ih.mp hr)
          exact ⟨c :: before, after, rfl, rfl, hb, by simpa [hc] using hbefore⟩
        · rintro ⟨before, after, hl, rfl, ha, hb⟩
          cases before with
          | nil => obtain ⟨rfl, -⟩ := List.cons.inj hl; simp [hc] at ha
          | cons d ds =>
            obtain ⟨rfl, rfl⟩ := List.cons.inj hl
            have := ih.mpr ⟨ds, after, rfl, rfl, ha, fun x hx => hb x (List.mem_cons_of_mem _ hx)⟩
            rw [hr] at this
            simpa using this

/-! ### Numbers and grades -/

/-- The list of the sixteen numbers has them all. -/
theorem mem_allSixteen (i : Fin 16) : i ∈ allSixteen := by revert i; decide

/-- `any` over the sixteen numbers. -/
theorem any_allSixteen {p : Fin 16 → Bool} : allSixteen.any p = true ↔ ∃ i, p i = true := by
  simp [List.any_eq_true, mem_allSixteen]

/-- The channel at position `ch` mod 4 of the channel's own converter is the channel. -/
theorem channelOf_converterOf (ch : Fin 16) : channelOf (converterOf ch) ⟨ch.val % 4, by omega⟩ = ch := by
  ext; simp [channelOf, converterOf]; omega

/-- A channel belongs to the converter it was numbered from. -/
theorem converterOf_channelOf (c p : Fin 4) : converterOf (channelOf c p) = c := by
  ext; simp [channelOf, converterOf]; omega

end Sys2Proof.Machine
end

