-- ==== Sys2Proof/Laws/State.lean ====
section
/-! SUPPORT. One lemma per field per update of the state, true by `rfl`, so that no later proof unfolds a record
update. -/

namespace Sys2Proof.Machine

/-! ### `State.setLive` -/

@[simp] theorem State.setLive_pending (i : Fin 16) (l : Live) (s : State) : (s.setLive i l).pending = s.pending := rfl
@[simp] theorem State.setLive_cfg (i : Fin 16) (l : Live) (s : State) : (s.setLive i l).cfg = s.cfg := rfl
@[simp] theorem State.setLive_live (i : Fin 16) (l : Live) (s : State) : (s.setLive i l).live = s.live.set i l := rfl
@[simp] theorem State.setLive_snapshots (i : Fin 16) (l : Live) (s : State) :
    (s.setLive i l).snapshots = s.snapshots := rfl
@[simp] theorem State.setLive_intake (i : Fin 16) (l : Live) (s : State) : (s.setLive i l).intake = s.intake := rfl
@[simp] theorem State.setLive_inputs (i : Fin 16) (l : Live) (s : State) : (s.setLive i l).inputs = s.inputs := rfl
@[simp] theorem State.setLive_channels (i : Fin 16) (l : Live) (s : State) :
    (s.setLive i l).channels = s.channels := rfl
@[simp] theorem State.setLive_field (i : Fin 16) (l : Live) (s : State) : (s.setLive i l).field = s.field := rfl
@[simp] theorem State.setLive_tracker (i : Fin 16) (l : Live) (s : State) : (s.setLive i l).tracker = s.tracker := rfl
@[simp] theorem State.setLive_capture (i : Fin 16) (l : Live) (s : State) : (s.setLive i l).capture = s.capture := rfl
@[simp] theorem State.setLive_driver (i : Fin 16) (l : Live) (s : State) : (s.setLive i l).driver = s.driver := rfl
@[simp] theorem State.setLive_link (i : Fin 16) (l : Live) (s : State) : (s.setLive i l).link = s.link := rfl
@[simp] theorem State.setLive_time (i : Fin 16) (l : Live) (s : State) : (s.setLive i l).time = s.time := rfl
@[simp] theorem State.setLive_store (i : Fin 16) (l : Live) (s : State) : (s.setLive i l).store = s.store := rfl
@[simp] theorem State.setLive_cause (i : Fin 16) (l : Live) (s : State) : (s.setLive i l).cause = s.cause := rfl
@[simp] theorem State.setLive_source (i : Fin 16) (l : Live) (s : State) : (s.setLive i l).source = s.source := rfl
@[simp] theorem State.setLive_handOffs (i : Fin 16) (l : Live) (s : State) :
    (s.setLive i l).handOffs = s.handOffs := rfl

/-! ### `State.setChannel` -/

@[simp] theorem State.setChannel_pending (ch : Fin 16) (c : Channel) (s : State) :
    (s.setChannel ch c).pending = s.pending := rfl
@[simp] theorem State.setChannel_cfg (ch : Fin 16) (c : Channel) (s : State) : (s.setChannel ch c).cfg = s.cfg := rfl
@[simp] theorem State.setChannel_live (ch : Fin 16) (c : Channel) (s : State) :
    (s.setChannel ch c).live = s.live := rfl
@[simp] theorem State.setChannel_snapshots (ch : Fin 16) (c : Channel) (s : State) :
    (s.setChannel ch c).snapshots = s.snapshots := rfl
@[simp] theorem State.setChannel_intake (ch : Fin 16) (c : Channel) (s : State) :
    (s.setChannel ch c).intake = s.intake := rfl
@[simp] theorem State.setChannel_inputs (ch : Fin 16) (c : Channel) (s : State) :
    (s.setChannel ch c).inputs = s.inputs := rfl
@[simp] theorem State.setChannel_channels (ch : Fin 16) (c : Channel) (s : State) :
    (s.setChannel ch c).channels = s.channels.set ch c := rfl
@[simp] theorem State.setChannel_field (ch : Fin 16) (c : Channel) (s : State) :
    (s.setChannel ch c).field = s.field := rfl
@[simp] theorem State.setChannel_tracker (ch : Fin 16) (c : Channel) (s : State) :
    (s.setChannel ch c).tracker = s.tracker := rfl
@[simp] theorem State.setChannel_capture (ch : Fin 16) (c : Channel) (s : State) :
    (s.setChannel ch c).capture = s.capture := rfl
@[simp] theorem State.setChannel_driver (ch : Fin 16) (c : Channel) (s : State) :
    (s.setChannel ch c).driver = s.driver := rfl
@[simp] theorem State.setChannel_link (ch : Fin 16) (c : Channel) (s : State) :
    (s.setChannel ch c).link = s.link := rfl
@[simp] theorem State.setChannel_time (ch : Fin 16) (c : Channel) (s : State) :
    (s.setChannel ch c).time = s.time := rfl
@[simp] theorem State.setChannel_store (ch : Fin 16) (c : Channel) (s : State) :
    (s.setChannel ch c).store = s.store := rfl
@[simp] theorem State.setChannel_cause (ch : Fin 16) (c : Channel) (s : State) :
    (s.setChannel ch c).cause = s.cause := rfl
@[simp] theorem State.setChannel_source (ch : Fin 16) (c : Channel) (s : State) :
    (s.setChannel ch c).source = s.source := rfl
@[simp] theorem State.setChannel_handOffs (ch : Fin 16) (c : Channel) (s : State) :
    (s.setChannel ch c).handOffs = s.handOffs := rfl

/-! ### `State.setConverter` -/

@[simp] theorem State.setConverter_pending (c : Fin 5) (v : Converter) (s : State) :
    (s.setConverter c v).pending = s.pending := rfl
@[simp] theorem State.setConverter_cfg (c : Fin 5) (v : Converter) (s : State) :
    (s.setConverter c v).cfg = s.cfg := rfl
@[simp] theorem State.setConverter_live (c : Fin 5) (v : Converter) (s : State) :
    (s.setConverter c v).live = s.live := rfl
@[simp] theorem State.setConverter_snapshots (c : Fin 5) (v : Converter) (s : State) :
    (s.setConverter c v).snapshots = s.snapshots := rfl
@[simp] theorem State.setConverter_intake (c : Fin 5) (v : Converter) (s : State) :
    (s.setConverter c v).intake = { s.intake with converters := s.intake.converters.set c v } := rfl
@[simp] theorem State.setConverter_inputs (c : Fin 5) (v : Converter) (s : State) :
    (s.setConverter c v).inputs = s.inputs := rfl
@[simp] theorem State.setConverter_channels (c : Fin 5) (v : Converter) (s : State) :
    (s.setConverter c v).channels = s.channels := rfl
@[simp] theorem State.setConverter_field (c : Fin 5) (v : Converter) (s : State) :
    (s.setConverter c v).field = s.field := rfl
@[simp] theorem State.setConverter_tracker (c : Fin 5) (v : Converter) (s : State) :
    (s.setConverter c v).tracker = s.tracker := rfl
@[simp] theorem State.setConverter_capture (c : Fin 5) (v : Converter) (s : State) :
    (s.setConverter c v).capture = s.capture := rfl
@[simp] theorem State.setConverter_driver (c : Fin 5) (v : Converter) (s : State) :
    (s.setConverter c v).driver = s.driver := rfl
@[simp] theorem State.setConverter_link (c : Fin 5) (v : Converter) (s : State) :
    (s.setConverter c v).link = s.link := rfl
@[simp] theorem State.setConverter_time (c : Fin 5) (v : Converter) (s : State) :
    (s.setConverter c v).time = s.time := rfl
@[simp] theorem State.setConverter_store (c : Fin 5) (v : Converter) (s : State) :
    (s.setConverter c v).store = s.store := rfl
@[simp] theorem State.setConverter_cause (c : Fin 5) (v : Converter) (s : State) :
    (s.setConverter c v).cause = s.cause := rfl
@[simp] theorem State.setConverter_source (c : Fin 5) (v : Converter) (s : State) :
    (s.setConverter c v).source = s.source := rfl
@[simp] theorem State.setConverter_handOffs (c : Fin 5) (v : Converter) (s : State) :
    (s.setConverter c v).handOffs = s.handOffs := rfl

/-! ### `State.setHandOffs` -/

@[simp] theorem State.setHandOffs_pending (h : HandOffs) (s : State) : (s.setHandOffs h).pending = s.pending := rfl
@[simp] theorem State.setHandOffs_cfg (h : HandOffs) (s : State) : (s.setHandOffs h).cfg = s.cfg := rfl
@[simp] theorem State.setHandOffs_live (h : HandOffs) (s : State) : (s.setHandOffs h).live = s.live := rfl
@[simp] theorem State.setHandOffs_snapshots (h : HandOffs) (s : State) :
    (s.setHandOffs h).snapshots = s.snapshots := rfl
@[simp] theorem State.setHandOffs_intake (h : HandOffs) (s : State) : (s.setHandOffs h).intake = s.intake := rfl
@[simp] theorem State.setHandOffs_inputs (h : HandOffs) (s : State) : (s.setHandOffs h).inputs = s.inputs := rfl
@[simp] theorem State.setHandOffs_channels (h : HandOffs) (s : State) : (s.setHandOffs h).channels = s.channels := rfl
@[simp] theorem State.setHandOffs_field (h : HandOffs) (s : State) : (s.setHandOffs h).field = s.field := rfl
@[simp] theorem State.setHandOffs_tracker (h : HandOffs) (s : State) : (s.setHandOffs h).tracker = s.tracker := rfl
@[simp] theorem State.setHandOffs_capture (h : HandOffs) (s : State) : (s.setHandOffs h).capture = s.capture := rfl
@[simp] theorem State.setHandOffs_driver (h : HandOffs) (s : State) : (s.setHandOffs h).driver = s.driver := rfl
@[simp] theorem State.setHandOffs_link (h : HandOffs) (s : State) : (s.setHandOffs h).link = s.link := rfl
@[simp] theorem State.setHandOffs_time (h : HandOffs) (s : State) : (s.setHandOffs h).time = s.time := rfl
@[simp] theorem State.setHandOffs_store (h : HandOffs) (s : State) : (s.setHandOffs h).store = s.store := rfl
@[simp] theorem State.setHandOffs_cause (h : HandOffs) (s : State) : (s.setHandOffs h).cause = s.cause := rfl
@[simp] theorem State.setHandOffs_source (h : HandOffs) (s : State) : (s.setHandOffs h).source = s.source := rfl
@[simp] theorem State.setHandOffs_handOffs (h : HandOffs) (s : State) : (s.setHandOffs h).handOffs = h := rfl

/-! ### `State.setCapture` -/

@[simp] theorem State.setCapture_pending (c : CaptureUnit) (s : State) : (s.setCapture c).pending = s.pending := rfl
@[simp] theorem State.setCapture_cfg (c : CaptureUnit) (s : State) : (s.setCapture c).cfg = s.cfg := rfl
@[simp] theorem State.setCapture_live (c : CaptureUnit) (s : State) : (s.setCapture c).live = s.live := rfl
@[simp] theorem State.setCapture_snapshots (c : CaptureUnit) (s : State) :
    (s.setCapture c).snapshots = s.snapshots := rfl
@[simp] theorem State.setCapture_intake (c : CaptureUnit) (s : State) : (s.setCapture c).intake = s.intake := rfl
@[simp] theorem State.setCapture_inputs (c : CaptureUnit) (s : State) : (s.setCapture c).inputs = s.inputs := rfl
@[simp] theorem State.setCapture_channels (c : CaptureUnit) (s : State) :
    (s.setCapture c).channels = s.channels := rfl
@[simp] theorem State.setCapture_field (c : CaptureUnit) (s : State) : (s.setCapture c).field = s.field := rfl
@[simp] theorem State.setCapture_tracker (c : CaptureUnit) (s : State) : (s.setCapture c).tracker = s.tracker := rfl
@[simp] theorem State.setCapture_capture (c : CaptureUnit) (s : State) : (s.setCapture c).capture = c := rfl
@[simp] theorem State.setCapture_driver (c : CaptureUnit) (s : State) : (s.setCapture c).driver = s.driver := rfl
@[simp] theorem State.setCapture_link (c : CaptureUnit) (s : State) : (s.setCapture c).link = s.link := rfl
@[simp] theorem State.setCapture_time (c : CaptureUnit) (s : State) : (s.setCapture c).time = s.time := rfl
@[simp] theorem State.setCapture_store (c : CaptureUnit) (s : State) : (s.setCapture c).store = s.store := rfl
@[simp] theorem State.setCapture_cause (c : CaptureUnit) (s : State) : (s.setCapture c).cause = s.cause := rfl
@[simp] theorem State.setCapture_source (c : CaptureUnit) (s : State) : (s.setCapture c).source = s.source := rfl
@[simp] theorem State.setCapture_handOffs (c : CaptureUnit) (s : State) :
    (s.setCapture c).handOffs = s.handOffs := rfl

/-! ### `State.setDriver` -/

@[simp] theorem State.setDriver_pending (d : ContactDriver) (s : State) : (s.setDriver d).pending = s.pending := rfl
@[simp] theorem State.setDriver_cfg (d : ContactDriver) (s : State) : (s.setDriver d).cfg = s.cfg := rfl
@[simp] theorem State.setDriver_live (d : ContactDriver) (s : State) : (s.setDriver d).live = s.live := rfl
@[simp] theorem State.setDriver_snapshots (d : ContactDriver) (s : State) :
    (s.setDriver d).snapshots = s.snapshots := rfl
@[simp] theorem State.setDriver_intake (d : ContactDriver) (s : State) : (s.setDriver d).intake = s.intake := rfl
@[simp] theorem State.setDriver_inputs (d : ContactDriver) (s : State) : (s.setDriver d).inputs = s.inputs := rfl
@[simp] theorem State.setDriver_channels (d : ContactDriver) (s : State) :
    (s.setDriver d).channels = s.channels := rfl
@[simp] theorem State.setDriver_field (d : ContactDriver) (s : State) : (s.setDriver d).field = s.field := rfl
@[simp] theorem State.setDriver_tracker (d : ContactDriver) (s : State) : (s.setDriver d).tracker = s.tracker := rfl
@[simp] theorem State.setDriver_capture (d : ContactDriver) (s : State) : (s.setDriver d).capture = s.capture := rfl
@[simp] theorem State.setDriver_driver (d : ContactDriver) (s : State) : (s.setDriver d).driver = d := rfl
@[simp] theorem State.setDriver_link (d : ContactDriver) (s : State) : (s.setDriver d).link = s.link := rfl
@[simp] theorem State.setDriver_time (d : ContactDriver) (s : State) : (s.setDriver d).time = s.time := rfl
@[simp] theorem State.setDriver_store (d : ContactDriver) (s : State) : (s.setDriver d).store = s.store := rfl
@[simp] theorem State.setDriver_cause (d : ContactDriver) (s : State) : (s.setDriver d).cause = s.cause := rfl
@[simp] theorem State.setDriver_source (d : ContactDriver) (s : State) : (s.setDriver d).source = s.source := rfl
@[simp] theorem State.setDriver_handOffs (d : ContactDriver) (s : State) :
    (s.setDriver d).handOffs = s.handOffs := rfl

/-! ### `State.setTracker` -/

@[simp] theorem State.setTracker_pending (t : EpisodeTracker) (s : State) :
    (s.setTracker t).pending = s.pending := rfl
@[simp] theorem State.setTracker_cfg (t : EpisodeTracker) (s : State) : (s.setTracker t).cfg = s.cfg := rfl
@[simp] theorem State.setTracker_live (t : EpisodeTracker) (s : State) : (s.setTracker t).live = s.live := rfl
@[simp] theorem State.setTracker_snapshots (t : EpisodeTracker) (s : State) :
    (s.setTracker t).snapshots = s.snapshots := rfl
@[simp] theorem State.setTracker_intake (t : EpisodeTracker) (s : State) : (s.setTracker t).intake = s.intake := rfl
@[simp] theorem State.setTracker_inputs (t : EpisodeTracker) (s : State) : (s.setTracker t).inputs = s.inputs := rfl
@[simp] theorem State.setTracker_channels (t : EpisodeTracker) (s : State) :
    (s.setTracker t).channels = s.channels := rfl
@[simp] theorem State.setTracker_field (t : EpisodeTracker) (s : State) : (s.setTracker t).field = s.field := rfl
@[simp] theorem State.setTracker_tracker (t : EpisodeTracker) (s : State) : (s.setTracker t).tracker = t := rfl
@[simp] theorem State.setTracker_capture (t : EpisodeTracker) (s : State) :
    (s.setTracker t).capture = s.capture := rfl
@[simp] theorem State.setTracker_driver (t : EpisodeTracker) (s : State) : (s.setTracker t).driver = s.driver := rfl
@[simp] theorem State.setTracker_link (t : EpisodeTracker) (s : State) : (s.setTracker t).link = s.link := rfl
@[simp] theorem State.setTracker_time (t : EpisodeTracker) (s : State) : (s.setTracker t).time = s.time := rfl
@[simp] theorem State.setTracker_store (t : EpisodeTracker) (s : State) : (s.setTracker t).store = s.store := rfl
@[simp] theorem State.setTracker_cause (t : EpisodeTracker) (s : State) : (s.setTracker t).cause = s.cause := rfl
@[simp] theorem State.setTracker_source (t : EpisodeTracker) (s : State) : (s.setTracker t).source = s.source := rfl
@[simp] theorem State.setTracker_handOffs (t : EpisodeTracker) (s : State) :
    (s.setTracker t).handOffs = s.handOffs := rfl

/-! ### `State.setField` -/

@[simp] theorem State.setField_pending (f : FieldEstimator) (s : State) : (s.setField f).pending = s.pending := rfl
@[simp] theorem State.setField_cfg (f : FieldEstimator) (s : State) : (s.setField f).cfg = s.cfg := rfl
@[simp] theorem State.setField_live (f : FieldEstimator) (s : State) : (s.setField f).live = s.live := rfl
@[simp] theorem State.setField_snapshots (f : FieldEstimator) (s : State) :
    (s.setField f).snapshots = s.snapshots := rfl
@[simp] theorem State.setField_intake (f : FieldEstimator) (s : State) : (s.setField f).intake = s.intake := rfl
@[simp] theorem State.setField_inputs (f : FieldEstimator) (s : State) : (s.setField f).inputs = s.inputs := rfl
@[simp] theorem State.setField_channels (f : FieldEstimator) (s : State) : (s.setField f).channels = s.channels := rfl
@[simp] theorem State.setField_field (f : FieldEstimator) (s : State) : (s.setField f).field = f := rfl
@[simp] theorem State.setField_tracker (f : FieldEstimator) (s : State) : (s.setField f).tracker = s.tracker := rfl
@[simp] theorem State.setField_capture (f : FieldEstimator) (s : State) : (s.setField f).capture = s.capture := rfl
@[simp] theorem State.setField_driver (f : FieldEstimator) (s : State) : (s.setField f).driver = s.driver := rfl
@[simp] theorem State.setField_link (f : FieldEstimator) (s : State) : (s.setField f).link = s.link := rfl
@[simp] theorem State.setField_time (f : FieldEstimator) (s : State) : (s.setField f).time = s.time := rfl
@[simp] theorem State.setField_store (f : FieldEstimator) (s : State) : (s.setField f).store = s.store := rfl
@[simp] theorem State.setField_cause (f : FieldEstimator) (s : State) : (s.setField f).cause = s.cause := rfl
@[simp] theorem State.setField_source (f : FieldEstimator) (s : State) : (s.setField f).source = s.source := rfl
@[simp] theorem State.setField_handOffs (f : FieldEstimator) (s : State) : (s.setField f).handOffs = s.handOffs := rfl

/-! ### `State.setTime` -/

@[simp] theorem State.setTime_pending (t : TimeBase) (s : State) : (s.setTime t).pending = s.pending := rfl
@[simp] theorem State.setTime_cfg (t : TimeBase) (s : State) : (s.setTime t).cfg = s.cfg := rfl
@[simp] theorem State.setTime_live (t : TimeBase) (s : State) : (s.setTime t).live = s.live := rfl
@[simp] theorem State.setTime_snapshots (t : TimeBase) (s : State) : (s.setTime t).snapshots = s.snapshots := rfl
@[simp] theorem State.setTime_intake (t : TimeBase) (s : State) : (s.setTime t).intake = s.intake := rfl
@[simp] theorem State.setTime_inputs (t : TimeBase) (s : State) : (s.setTime t).inputs = s.inputs := rfl
@[simp] theorem State.setTime_channels (t : TimeBase) (s : State) : (s.setTime t).channels = s.channels := rfl
@[simp] theorem State.setTime_field (t : TimeBase) (s : State) : (s.setTime t).field = s.field := rfl
@[simp] theorem State.setTime_tracker (t : TimeBase) (s : State) : (s.setTime t).tracker = s.tracker := rfl
@[simp] theorem State.setTime_capture (t : TimeBase) (s : State) : (s.setTime t).capture = s.capture := rfl
@[simp] theorem State.setTime_driver (t : TimeBase) (s : State) : (s.setTime t).driver = s.driver := rfl
@[simp] theorem State.setTime_link (t : TimeBase) (s : State) : (s.setTime t).link = s.link := rfl
@[simp] theorem State.setTime_time (t : TimeBase) (s : State) : (s.setTime t).time = t := rfl
@[simp] theorem State.setTime_store (t : TimeBase) (s : State) : (s.setTime t).store = s.store := rfl
@[simp] theorem State.setTime_cause (t : TimeBase) (s : State) : (s.setTime t).cause = s.cause := rfl
@[simp] theorem State.setTime_source (t : TimeBase) (s : State) : (s.setTime t).source = s.source := rfl
@[simp] theorem State.setTime_handOffs (t : TimeBase) (s : State) : (s.setTime t).handOffs = s.handOffs := rfl

/-! ### `State.setLink` -/

@[simp] theorem State.setLink_pending (l : MessageLink) (s : State) : (s.setLink l).pending = s.pending := rfl
@[simp] theorem State.setLink_cfg (l : MessageLink) (s : State) : (s.setLink l).cfg = s.cfg := rfl
@[simp] theorem State.setLink_live (l : MessageLink) (s : State) : (s.setLink l).live = s.live := rfl
@[simp] theorem State.setLink_snapshots (l : MessageLink) (s : State) : (s.setLink l).snapshots = s.snapshots := rfl
@[simp] theorem State.setLink_intake (l : MessageLink) (s : State) : (s.setLink l).intake = s.intake := rfl
@[simp] theorem State.setLink_inputs (l : MessageLink) (s : State) : (s.setLink l).inputs = s.inputs := rfl
@[simp] theorem State.setLink_channels (l : MessageLink) (s : State) : (s.setLink l).channels = s.channels := rfl
@[simp] theorem State.setLink_field (l : MessageLink) (s : State) : (s.setLink l).field = s.field := rfl
@[simp] theorem State.setLink_tracker (l : MessageLink) (s : State) : (s.setLink l).tracker = s.tracker := rfl
@[simp] theorem State.setLink_capture (l : MessageLink) (s : State) : (s.setLink l).capture = s.capture := rfl
@[simp] theorem State.setLink_driver (l : MessageLink) (s : State) : (s.setLink l).driver = s.driver := rfl
@[simp] theorem State.setLink_link (l : MessageLink) (s : State) : (s.setLink l).link = l := rfl
@[simp] theorem State.setLink_time (l : MessageLink) (s : State) : (s.setLink l).time = s.time := rfl
@[simp] theorem State.setLink_store (l : MessageLink) (s : State) : (s.setLink l).store = s.store := rfl
@[simp] theorem State.setLink_cause (l : MessageLink) (s : State) : (s.setLink l).cause = s.cause := rfl
@[simp] theorem State.setLink_source (l : MessageLink) (s : State) : (s.setLink l).source = s.source := rfl
@[simp] theorem State.setLink_handOffs (l : MessageLink) (s : State) : (s.setLink l).handOffs = s.handOffs := rfl

/-! ### `State.emit` -/

@[simp] theorem State.emit_pending (t : Transition) (s : State) : (s.emit t).pending = s.pending := rfl
@[simp] theorem State.emit_cfg (t : Transition) (s : State) : (s.emit t).cfg = s.cfg := rfl
@[simp] theorem State.emit_live (t : Transition) (s : State) : (s.emit t).live = s.live := rfl
@[simp] theorem State.emit_snapshots (t : Transition) (s : State) : (s.emit t).snapshots = s.snapshots := rfl
@[simp] theorem State.emit_intake (t : Transition) (s : State) : (s.emit t).intake = s.intake := rfl
@[simp] theorem State.emit_inputs (t : Transition) (s : State) : (s.emit t).inputs = s.inputs := rfl
@[simp] theorem State.emit_channels (t : Transition) (s : State) : (s.emit t).channels = s.channels := rfl
@[simp] theorem State.emit_field (t : Transition) (s : State) : (s.emit t).field = s.field := rfl
@[simp] theorem State.emit_tracker (t : Transition) (s : State) : (s.emit t).tracker = s.tracker := rfl
@[simp] theorem State.emit_capture (t : Transition) (s : State) : (s.emit t).capture = s.capture := rfl
@[simp] theorem State.emit_driver (t : Transition) (s : State) : (s.emit t).driver = s.driver := rfl
@[simp] theorem State.emit_link (t : Transition) (s : State) :
    (s.emit t).link = s.link.withTransition s.cfg.device.noticeMask t := rfl
@[simp] theorem State.emit_time (t : Transition) (s : State) : (s.emit t).time = s.time := rfl
@[simp] theorem State.emit_store (t : Transition) (s : State) : (s.emit t).store = s.store := rfl
@[simp] theorem State.emit_cause (t : Transition) (s : State) : (s.emit t).cause = s.cause := rfl
@[simp] theorem State.emit_source (t : Transition) (s : State) : (s.emit t).source = s.source := rfl
@[simp] theorem State.emit_handOffs (t : Transition) (s : State) : (s.emit t).handOffs = s.handOffs := rfl

/-! ### `State.emitDevice` -/

@[simp] theorem State.emitDevice_pending (k : TransitionKind) (d : Option Nat) (t : Stamp) (s : State) :
    (s.emitDevice k d t).pending = s.pending := rfl
@[simp] theorem State.emitDevice_cfg (k : TransitionKind) (d : Option Nat) (t : Stamp) (s : State) :
    (s.emitDevice k d t).cfg = s.cfg := rfl
@[simp] theorem State.emitDevice_live (k : TransitionKind) (d : Option Nat) (t : Stamp) (s : State) :
    (s.emitDevice k d t).live = s.live := rfl
@[simp] theorem State.emitDevice_snapshots (k : TransitionKind) (d : Option Nat) (t : Stamp) (s : State) :
    (s.emitDevice k d t).snapshots = s.snapshots := rfl
@[simp] theorem State.emitDevice_intake (k : TransitionKind) (d : Option Nat) (t : Stamp) (s : State) :
    (s.emitDevice k d t).intake = s.intake := rfl
@[simp] theorem State.emitDevice_inputs (k : TransitionKind) (d : Option Nat) (t : Stamp) (s : State) :
    (s.emitDevice k d t).inputs = s.inputs := rfl
@[simp] theorem State.emitDevice_channels (k : TransitionKind) (d : Option Nat) (t : Stamp) (s : State) :
    (s.emitDevice k d t).channels = s.channels := rfl
@[simp] theorem State.emitDevice_field (k : TransitionKind) (d : Option Nat) (t : Stamp) (s : State) :
    (s.emitDevice k d t).field = s.field := rfl
@[simp] theorem State.emitDevice_tracker (k : TransitionKind) (d : Option Nat) (t : Stamp) (s : State) :
    (s.emitDevice k d t).tracker = s.tracker := rfl
@[simp] theorem State.emitDevice_capture (k : TransitionKind) (d : Option Nat) (t : Stamp) (s : State) :
    (s.emitDevice k d t).capture = s.capture := rfl
@[simp] theorem State.emitDevice_driver (k : TransitionKind) (d : Option Nat) (t : Stamp) (s : State) :
    (s.emitDevice k d t).driver = s.driver := rfl
@[simp] theorem State.emitDevice_link (k : TransitionKind) (d : Option Nat) (t : Stamp) (s : State) :
    (s.emitDevice k d t).link = s.link.withTransition s.cfg.device.noticeMask ⟨t, none, k, none, none, none, d, false⟩ := rfl
@[simp] theorem State.emitDevice_time (k : TransitionKind) (d : Option Nat) (t : Stamp) (s : State) :
    (s.emitDevice k d t).time = s.time := rfl
@[simp] theorem State.emitDevice_store (k : TransitionKind) (d : Option Nat) (t : Stamp) (s : State) :
    (s.emitDevice k d t).store = s.store := rfl
@[simp] theorem State.emitDevice_cause (k : TransitionKind) (d : Option Nat) (t : Stamp) (s : State) :
    (s.emitDevice k d t).cause = s.cause := rfl
@[simp] theorem State.emitDevice_source (k : TransitionKind) (d : Option Nat) (t : Stamp) (s : State) :
    (s.emitDevice k d t).source = s.source := rfl
@[simp] theorem State.emitDevice_handOffs (k : TransitionKind) (d : Option Nat) (t : Stamp) (s : State) :
    (s.emitDevice k d t).handOffs = s.handOffs := rfl

/-! ### `State.emitTransformer` -/

@[simp] theorem State.emitTransformer_pending (i : Fin 16) (k : TransitionKind) (v : Option (Level × Level)) (x d : Option Nat) (t : Stamp) (s : State) :
    (s.emitTransformer i k v x d t).pending = s.pending := rfl
@[simp] theorem State.emitTransformer_cfg (i : Fin 16) (k : TransitionKind) (v : Option (Level × Level)) (x d : Option Nat) (t : Stamp) (s : State) :
    (s.emitTransformer i k v x d t).cfg = s.cfg := rfl
@[simp] theorem State.emitTransformer_live (i : Fin 16) (k : TransitionKind) (v : Option (Level × Level)) (x d : Option Nat) (t : Stamp) (s : State) :
    (s.emitTransformer i k v x d t).live = s.live := rfl
@[simp] theorem State.emitTransformer_snapshots (i : Fin 16) (k : TransitionKind) (v : Option (Level × Level)) (x d : Option Nat) (t : Stamp) (s : State) :
    (s.emitTransformer i k v x d t).snapshots = s.snapshots := rfl
@[simp] theorem State.emitTransformer_intake (i : Fin 16) (k : TransitionKind) (v : Option (Level × Level)) (x d : Option Nat) (t : Stamp) (s : State) :
    (s.emitTransformer i k v x d t).intake = s.intake := rfl
@[simp] theorem State.emitTransformer_inputs (i : Fin 16) (k : TransitionKind) (v : Option (Level × Level)) (x d : Option Nat) (t : Stamp) (s : State) :
    (s.emitTransformer i k v x d t).inputs = s.inputs := rfl
@[simp] theorem State.emitTransformer_channels (i : Fin 16) (k : TransitionKind) (v : Option (Level × Level)) (x d : Option Nat) (t : Stamp) (s : State) :
    (s.emitTransformer i k v x d t).channels = s.channels := rfl
@[simp] theorem State.emitTransformer_field (i : Fin 16) (k : TransitionKind) (v : Option (Level × Level)) (x d : Option Nat) (t : Stamp) (s : State) :
    (s.emitTransformer i k v x d t).field = s.field := rfl
@[simp] theorem State.emitTransformer_tracker (i : Fin 16) (k : TransitionKind) (v : Option (Level × Level)) (x d : Option Nat) (t : Stamp) (s : State) :
    (s.emitTransformer i k v x d t).tracker = s.tracker := rfl
@[simp] theorem State.emitTransformer_capture (i : Fin 16) (k : TransitionKind) (v : Option (Level × Level)) (x d : Option Nat) (t : Stamp) (s : State) :
    (s.emitTransformer i k v x d t).capture = s.capture := rfl
@[simp] theorem State.emitTransformer_driver (i : Fin 16) (k : TransitionKind) (v : Option (Level × Level)) (x d : Option Nat) (t : Stamp) (s : State) :
    (s.emitTransformer i k v x d t).driver = s.driver := rfl
@[simp] theorem State.emitTransformer_link (i : Fin 16) (k : TransitionKind) (v : Option (Level × Level)) (x d : Option Nat) (t : Stamp) (s : State) :
    (s.emitTransformer i k v x d t).link = s.link.withTransition s.cfg.device.noticeMask ⟨t, some i, k, v, x, some s.live[i].heat, d, s.live[i].suppressed⟩ := rfl
@[simp] theorem State.emitTransformer_time (i : Fin 16) (k : TransitionKind) (v : Option (Level × Level)) (x d : Option Nat) (t : Stamp) (s : State) :
    (s.emitTransformer i k v x d t).time = s.time := rfl
@[simp] theorem State.emitTransformer_store (i : Fin 16) (k : TransitionKind) (v : Option (Level × Level)) (x d : Option Nat) (t : Stamp) (s : State) :
    (s.emitTransformer i k v x d t).store = s.store := rfl
@[simp] theorem State.emitTransformer_cause (i : Fin 16) (k : TransitionKind) (v : Option (Level × Level)) (x d : Option Nat) (t : Stamp) (s : State) :
    (s.emitTransformer i k v x d t).cause = s.cause := rfl
@[simp] theorem State.emitTransformer_source (i : Fin 16) (k : TransitionKind) (v : Option (Level × Level)) (x d : Option Nat) (t : Stamp) (s : State) :
    (s.emitTransformer i k v x d t).source = s.source := rfl
@[simp] theorem State.emitTransformer_handOffs (i : Fin 16) (k : TransitionKind) (v : Option (Level × Level)) (x d : Option Nat) (t : Stamp) (s : State) :
    (s.emitTransformer i k v x d t).handOffs = s.handOffs := rfl

/-! ### `State.report` -/

@[simp] theorem State.report_pending (r : ContactReport) (s : State) : (s.report r).pending = s.pending := rfl
@[simp] theorem State.report_cfg (r : ContactReport) (s : State) : (s.report r).cfg = s.cfg := rfl
@[simp] theorem State.report_live (r : ContactReport) (s : State) : (s.report r).live = s.live := rfl
@[simp] theorem State.report_snapshots (r : ContactReport) (s : State) : (s.report r).snapshots = s.snapshots := rfl
@[simp] theorem State.report_intake (r : ContactReport) (s : State) : (s.report r).intake = s.intake := rfl
@[simp] theorem State.report_inputs (r : ContactReport) (s : State) : (s.report r).inputs = s.inputs := rfl
@[simp] theorem State.report_channels (r : ContactReport) (s : State) : (s.report r).channels = s.channels := rfl
@[simp] theorem State.report_field (r : ContactReport) (s : State) : (s.report r).field = s.field := rfl
@[simp] theorem State.report_tracker (r : ContactReport) (s : State) : (s.report r).tracker = s.tracker := rfl
@[simp] theorem State.report_capture (r : ContactReport) (s : State) : (s.report r).capture = s.capture := rfl
@[simp] theorem State.report_driver (r : ContactReport) (s : State) : (s.report r).driver = s.driver := rfl
@[simp] theorem State.report_link (r : ContactReport) (s : State) : (s.report r).link = s.link := rfl
@[simp] theorem State.report_time (r : ContactReport) (s : State) : (s.report r).time = s.time := rfl
@[simp] theorem State.report_store (r : ContactReport) (s : State) : (s.report r).store = s.store := rfl
@[simp] theorem State.report_cause (r : ContactReport) (s : State) : (s.report r).cause = s.cause := rfl
@[simp] theorem State.report_source (r : ContactReport) (s : State) : (s.report r).source = s.source := rfl
@[simp] theorem State.report_handOffs (r : ContactReport) (s : State) :
    (s.report r).handOffs = { s.handOffs with reports := s.handOffs.reports ++ [r] } := rfl

/-! ### `State.setDevice` -/

@[simp] theorem State.setDevice_pending (d : DeviceSettings) (s : State) : (s.setDevice d).pending = s.pending := rfl
@[simp] theorem State.setDevice_cfg (d : DeviceSettings) (s : State) :
    (s.setDevice d).cfg = { s.cfg with device := d } := rfl
@[simp] theorem State.setDevice_live (d : DeviceSettings) (s : State) : (s.setDevice d).live = s.live := rfl
@[simp] theorem State.setDevice_snapshots (d : DeviceSettings) (s : State) :
    (s.setDevice d).snapshots = s.snapshots := rfl
@[simp] theorem State.setDevice_intake (d : DeviceSettings) (s : State) : (s.setDevice d).intake = s.intake := rfl
@[simp] theorem State.setDevice_inputs (d : DeviceSettings) (s : State) : (s.setDevice d).inputs = s.inputs := rfl
@[simp] theorem State.setDevice_channels (d : DeviceSettings) (s : State) :
    (s.setDevice d).channels = s.channels := rfl
@[simp] theorem State.setDevice_field (d : DeviceSettings) (s : State) : (s.setDevice d).field = s.field := rfl
@[simp] theorem State.setDevice_tracker (d : DeviceSettings) (s : State) : (s.setDevice d).tracker = s.tracker := rfl
@[simp] theorem State.setDevice_capture (d : DeviceSettings) (s : State) : (s.setDevice d).capture = s.capture := rfl
@[simp] theorem State.setDevice_driver (d : DeviceSettings) (s : State) : (s.setDevice d).driver = s.driver := rfl
@[simp] theorem State.setDevice_link (d : DeviceSettings) (s : State) : (s.setDevice d).link = s.link := rfl
@[simp] theorem State.setDevice_time (d : DeviceSettings) (s : State) : (s.setDevice d).time = s.time := rfl
@[simp] theorem State.setDevice_store (d : DeviceSettings) (s : State) : (s.setDevice d).store = s.store := rfl
@[simp] theorem State.setDevice_cause (d : DeviceSettings) (s : State) : (s.setDevice d).cause = s.cause := rfl
@[simp] theorem State.setDevice_source (d : DeviceSettings) (s : State) : (s.setDevice d).source = s.source := rfl
@[simp] theorem State.setDevice_handOffs (d : DeviceSettings) (s : State) :
    (s.setDevice d).handOffs = s.handOffs := rfl

/-! ### `State.setSettings` -/

@[simp] theorem State.setSettings_pending (i : Fin 16) (c : Settings) (s : State) :
    (s.setSettings i c).pending = s.pending := rfl
@[simp] theorem State.setSettings_cfg (i : Fin 16) (c : Settings) (s : State) :
    (s.setSettings i c).cfg = { s.cfg with transformers := s.cfg.transformers.set i c } := rfl
@[simp] theorem State.setSettings_live (i : Fin 16) (c : Settings) (s : State) :
    (s.setSettings i c).live = s.live := rfl
@[simp] theorem State.setSettings_snapshots (i : Fin 16) (c : Settings) (s : State) :
    (s.setSettings i c).snapshots = s.snapshots := rfl
@[simp] theorem State.setSettings_intake (i : Fin 16) (c : Settings) (s : State) :
    (s.setSettings i c).intake = s.intake := rfl
@[simp] theorem State.setSettings_inputs (i : Fin 16) (c : Settings) (s : State) :
    (s.setSettings i c).inputs = s.inputs := rfl
@[simp] theorem State.setSettings_channels (i : Fin 16) (c : Settings) (s : State) :
    (s.setSettings i c).channels = s.channels := rfl
@[simp] theorem State.setSettings_field (i : Fin 16) (c : Settings) (s : State) :
    (s.setSettings i c).field = s.field := rfl
@[simp] theorem State.setSettings_tracker (i : Fin 16) (c : Settings) (s : State) :
    (s.setSettings i c).tracker = s.tracker := rfl
@[simp] theorem State.setSettings_capture (i : Fin 16) (c : Settings) (s : State) :
    (s.setSettings i c).capture = s.capture := rfl
@[simp] theorem State.setSettings_driver (i : Fin 16) (c : Settings) (s : State) :
    (s.setSettings i c).driver = s.driver := rfl
@[simp] theorem State.setSettings_link (i : Fin 16) (c : Settings) (s : State) :
    (s.setSettings i c).link = s.link := rfl
@[simp] theorem State.setSettings_time (i : Fin 16) (c : Settings) (s : State) :
    (s.setSettings i c).time = s.time := rfl
@[simp] theorem State.setSettings_store (i : Fin 16) (c : Settings) (s : State) :
    (s.setSettings i c).store = s.store := rfl
@[simp] theorem State.setSettings_cause (i : Fin 16) (c : Settings) (s : State) :
    (s.setSettings i c).cause = s.cause := rfl
@[simp] theorem State.setSettings_source (i : Fin 16) (c : Settings) (s : State) :
    (s.setSettings i c).source = s.source := rfl
@[simp] theorem State.setSettings_handOffs (i : Fin 16) (c : Settings) (s : State) :
    (s.setSettings i c).handOffs = s.handOffs := rfl

/-! ### `State.answer` -/

@[simp] theorem State.answer_pending (r : Request) (st : Status) (body : List Byte) (s : State) :
    (s.answer r st body).pending = s.pending := rfl
@[simp] theorem State.answer_cfg (r : Request) (st : Status) (body : List Byte) (s : State) :
    (s.answer r st body).cfg = s.cfg := rfl
@[simp] theorem State.answer_live (r : Request) (st : Status) (body : List Byte) (s : State) :
    (s.answer r st body).live = s.live := rfl
@[simp] theorem State.answer_snapshots (r : Request) (st : Status) (body : List Byte) (s : State) :
    (s.answer r st body).snapshots = s.snapshots := rfl
@[simp] theorem State.answer_intake (r : Request) (st : Status) (body : List Byte) (s : State) :
    (s.answer r st body).intake = s.intake := rfl
@[simp] theorem State.answer_inputs (r : Request) (st : Status) (body : List Byte) (s : State) :
    (s.answer r st body).inputs = s.inputs := rfl
@[simp] theorem State.answer_channels (r : Request) (st : Status) (body : List Byte) (s : State) :
    (s.answer r st body).channels = s.channels := rfl
@[simp] theorem State.answer_field (r : Request) (st : Status) (body : List Byte) (s : State) :
    (s.answer r st body).field = s.field := rfl
@[simp] theorem State.answer_tracker (r : Request) (st : Status) (body : List Byte) (s : State) :
    (s.answer r st body).tracker = s.tracker := rfl
@[simp] theorem State.answer_capture (r : Request) (st : Status) (body : List Byte) (s : State) :
    (s.answer r st body).capture = s.capture := rfl
@[simp] theorem State.answer_driver (r : Request) (st : Status) (body : List Byte) (s : State) :
    (s.answer r st body).driver = s.driver := rfl
@[simp] theorem State.answer_link (r : Request) (st : Status) (body : List Byte) (s : State) :
    (s.answer r st body).link = { s.link with sending := some (replyFrame r st body) } := rfl
@[simp] theorem State.answer_time (r : Request) (st : Status) (body : List Byte) (s : State) :
    (s.answer r st body).time = s.time := rfl
@[simp] theorem State.answer_store (r : Request) (st : Status) (body : List Byte) (s : State) :
    (s.answer r st body).store = s.store := rfl
@[simp] theorem State.answer_cause (r : Request) (st : Status) (body : List Byte) (s : State) :
    (s.answer r st body).cause = s.cause := rfl
@[simp] theorem State.answer_source (r : Request) (st : Status) (body : List Byte) (s : State) :
    (s.answer r st body).source = s.source := rfl
@[simp] theorem State.answer_handOffs (r : Request) (st : Status) (body : List Byte) (s : State) :
    (s.answer r st body).handOffs = s.handOffs := rfl

/-! ### `State.disarm` -/

@[simp] theorem State.disarm_pending (s : State) : (s.disarm).pending = s.pending := rfl
@[simp] theorem State.disarm_cfg (s : State) : (s.disarm).cfg = s.cfg := rfl
@[simp] theorem State.disarm_live (s : State) : (s.disarm).live = s.live := rfl
@[simp] theorem State.disarm_snapshots (s : State) : (s.disarm).snapshots = s.snapshots := rfl
@[simp] theorem State.disarm_intake (s : State) : (s.disarm).intake = s.intake := rfl
@[simp] theorem State.disarm_inputs (s : State) : (s.disarm).inputs = s.inputs := rfl
@[simp] theorem State.disarm_channels (s : State) : (s.disarm).channels = s.channels := rfl
@[simp] theorem State.disarm_field (s : State) : (s.disarm).field = s.field := rfl
@[simp] theorem State.disarm_tracker (s : State) : (s.disarm).tracker = s.tracker := rfl
@[simp] theorem State.disarm_capture (s : State) : (s.disarm).capture = s.capture := rfl
@[simp] theorem State.disarm_driver (s : State) : (s.disarm).driver = s.driver := rfl
@[simp] theorem State.disarm_link (s : State) :
    (s.disarm).link = { s.link with restart := disarmed s.link.restart } := rfl
@[simp] theorem State.disarm_time (s : State) : (s.disarm).time = s.time := rfl
@[simp] theorem State.disarm_store (s : State) : (s.disarm).store = s.store := rfl
@[simp] theorem State.disarm_cause (s : State) : (s.disarm).cause = s.cause := rfl
@[simp] theorem State.disarm_source (s : State) : (s.disarm).source = s.source := rfl
@[simp] theorem State.disarm_handOffs (s : State) : (s.disarm).handOffs = s.handOffs := rfl

/-! ### `State.hostAbandon` -/

@[simp] theorem State.hostAbandon_pending (s : State) : (s.hostAbandon).pending = s.pending := rfl
@[simp] theorem State.hostAbandon_cfg (s : State) : (s.hostAbandon).cfg = s.cfg := rfl
@[simp] theorem State.hostAbandon_live (s : State) : (s.hostAbandon).live = s.live := rfl
@[simp] theorem State.hostAbandon_snapshots (s : State) : (s.hostAbandon).snapshots = s.snapshots := rfl
@[simp] theorem State.hostAbandon_intake (s : State) : (s.hostAbandon).intake = s.intake := rfl
@[simp] theorem State.hostAbandon_inputs (s : State) : (s.hostAbandon).inputs = s.inputs := rfl
@[simp] theorem State.hostAbandon_channels (s : State) : (s.hostAbandon).channels = s.channels := rfl
@[simp] theorem State.hostAbandon_field (s : State) : (s.hostAbandon).field = s.field := rfl
@[simp] theorem State.hostAbandon_tracker (s : State) : (s.hostAbandon).tracker = s.tracker := rfl
@[simp] theorem State.hostAbandon_capture (s : State) : (s.hostAbandon).capture = s.capture := rfl
@[simp] theorem State.hostAbandon_driver (s : State) : (s.hostAbandon).driver = s.driver := rfl
@[simp] theorem State.hostAbandon_link (s : State) : (s.hostAbandon).link = { s.link with line := [] } := rfl
@[simp] theorem State.hostAbandon_time (s : State) : (s.hostAbandon).time = s.time := rfl
@[simp] theorem State.hostAbandon_store (s : State) : (s.hostAbandon).store = s.store := rfl
@[simp] theorem State.hostAbandon_cause (s : State) : (s.hostAbandon).cause = s.cause := rfl
@[simp] theorem State.hostAbandon_source (s : State) : (s.hostAbandon).source = s.source := rfl
@[simp] theorem State.hostAbandon_handOffs (s : State) : (s.hostAbandon).handOffs = s.handOffs := rfl

/-! ### Operations that run or not -/

/-- A report made only when something changed touches the reports alone. -/
@[simp] theorem State.reportIf_frame (b : Bool) (r : ContactReport) (s : State) :
    (s.reportIf b r).pending = s.pending ∧ (s.reportIf b r).cfg = s.cfg ∧ (s.reportIf b r).live = s.live
      ∧ (s.reportIf b r).snapshots = s.snapshots ∧ (s.reportIf b r).intake = s.intake
      ∧ (s.reportIf b r).inputs = s.inputs ∧ (s.reportIf b r).channels = s.channels
      ∧ (s.reportIf b r).field = s.field ∧ (s.reportIf b r).tracker = s.tracker
      ∧ (s.reportIf b r).capture = s.capture ∧ (s.reportIf b r).driver = s.driver
      ∧ (s.reportIf b r).link = s.link ∧ (s.reportIf b r).time = s.time ∧ (s.reportIf b r).store = s.store
      ∧ (s.reportIf b r).cause = s.cause ∧ (s.reportIf b r).source = s.source := by
  cases b <;> simp [State.reportIf]

/-- What `reportIf` does to the hand-offs. -/
theorem State.reportIf_handOffs (b : Bool) (r : ContactReport) (s : State) :
    (s.reportIf b r).handOffs =
      if b then { s.handOffs with reports := s.handOffs.reports ++ [r] } else s.handOffs := by
  cases b <;> simp [State.reportIf]

/-! ### The Message Link's own record -/

@[simp] theorem MessageLink.withTransition_baud (m : CategorySet) (t : Transition) (l : MessageLink) :
    (l.withTransition m t).baud = l.baud := rfl
@[simp] theorem MessageLink.withTransition_line (m : CategorySet) (t : Transition) (l : MessageLink) :
    (l.withTransition m t).line = l.line := rfl
@[simp] theorem MessageLink.withTransition_buffer (m : CategorySet) (t : Transition) (l : MessageLink) :
    (l.withTransition m t).buffer = l.buffer := rfl
@[simp] theorem MessageLink.withTransition_sending (m : CategorySet) (t : Transition) (l : MessageLink) :
    (l.withTransition m t).sending = l.sending := rfl
@[simp] theorem MessageLink.withTransition_kept (m : CategorySet) (t : Transition) (l : MessageLink) :
    (l.withTransition m t).kept = l.kept := rfl
@[simp] theorem MessageLink.withTransition_restart (m : CategorySet) (t : Transition) (l : MessageLink) :
    (l.withTransition m t).restart = l.restart := rfl
@[simp] theorem MessageLink.withTransition_transitions (m : CategorySet) (t : Transition) (l : MessageLink) :
    (l.withTransition m t).transitions = queueWith l.transitions t := rfl
@[simp] theorem MessageLink.withTransition_summary (m : CategorySet) (t : Transition) (l : MessageLink) :
    (l.withTransition m t).summary = summaryWith l.transitions l.summary t := rfl
@[simp] theorem MessageLink.withTransition_attn (m : CategorySet) (t : Transition) (l : MessageLink) :
    (l.withTransition m t).attn = attnOf (summaryWith l.transitions l.summary t) m := rfl

end Sys2Proof.Machine
end

