-- ==== Sys2Proof/Laws/Frames.lean ====
section
/-! SUPPORT. The frame of every shared operation: the parts of the state it leaves as they were. Each lemma's fields are
rewrite rules, so that a proof about a command never unfolds an operation for what it does not touch. -/

namespace Sys2Proof.Machine

/-- A fold whose every step keeps a quantity keeps it. -/
theorem foldl_same {α β γ : Type} (g : β → γ) (f : β → α → β) (h : ∀ u a, g (f u a) = g u) (l : List α) (s : β) :
    g (l.foldl f s) = g s := by
  induction l generalizing s with
  | nil => rfl
  | cons a l ih => exact (ih (f s a)).trans (h s a)

/-! ### Capture Unit -/

@[simp] theorem State.startCapture_frame (ch : Fin 16) (k : CaptureCause) (t : Stamp) (pre post : Nat) (d : Option Nat) (s : State) :
    (s.startCapture ch k t pre post d).pending = s.pending ∧ (s.startCapture ch k t pre post d).cfg = s.cfg
      ∧ (s.startCapture ch k t pre post d).live = s.live
      ∧ (s.startCapture ch k t pre post d).snapshots = s.snapshots
      ∧ (s.startCapture ch k t pre post d).intake = s.intake ∧ (s.startCapture ch k t pre post d).inputs = s.inputs
      ∧ (s.startCapture ch k t pre post d).channels = s.channels
      ∧ (s.startCapture ch k t pre post d).field = s.field ∧ (s.startCapture ch k t pre post d).tracker = s.tracker
      ∧ (s.startCapture ch k t pre post d).driver = s.driver ∧ (s.startCapture ch k t pre post d).link = s.link
      ∧ (s.startCapture ch k t pre post d).time = s.time ∧ (s.startCapture ch k t pre post d).store = s.store
      ∧ (s.startCapture ch k t pre post d).cause = s.cause ∧ (s.startCapture ch k t pre post d).source = s.source
      ∧ (s.startCapture ch k t pre post d).handOffs = s.handOffs := by
  simp [State.startCapture]

@[simp] theorem State.serve_frame (s : State) :
    (s.serve).pending = s.pending ∧ (s.serve).cfg = s.cfg ∧ (s.serve).live = s.live
      ∧ (s.serve).snapshots = s.snapshots ∧ (s.serve).intake = s.intake ∧ (s.serve).inputs = s.inputs
      ∧ (s.serve).channels = s.channels ∧ (s.serve).field = s.field ∧ (s.serve).tracker = s.tracker
      ∧ (s.serve).driver = s.driver ∧ (s.serve).link = s.link ∧ (s.serve).time = s.time ∧ (s.serve).store = s.store
      ∧ (s.serve).cause = s.cause ∧ (s.serve).source = s.source ∧ (s.serve).handOffs = s.handOffs := by
  and_intros <;> (simp only [State.serve]; (repeat' split) <;> simp)

@[simp] theorem State.endCapture_frame (b : Bool) (t : Stamp) (s : State) :
    (s.endCapture b t).pending = s.pending ∧ (s.endCapture b t).cfg = s.cfg ∧ (s.endCapture b t).live = s.live
      ∧ (s.endCapture b t).snapshots = s.snapshots ∧ (s.endCapture b t).intake = s.intake
      ∧ (s.endCapture b t).inputs = s.inputs ∧ (s.endCapture b t).channels = s.channels
      ∧ (s.endCapture b t).field = s.field ∧ (s.endCapture b t).tracker = s.tracker
      ∧ (s.endCapture b t).driver = s.driver ∧ (s.endCapture b t).time = s.time ∧ (s.endCapture b t).store = s.store
      ∧ (s.endCapture b t).cause = s.cause ∧ (s.endCapture b t).source = s.source
      ∧ (s.endCapture b t).handOffs = s.handOffs := by
  and_intros <;> (simp only [State.endCapture]; (repeat' split) <;> simp)

@[simp] theorem State.fillCapture_frame (r : CaptureRecord) (codes : List Int) (s : State) :
    (s.fillCapture r codes).pending = s.pending ∧ (s.fillCapture r codes).cfg = s.cfg
      ∧ (s.fillCapture r codes).live = s.live ∧ (s.fillCapture r codes).snapshots = s.snapshots
      ∧ (s.fillCapture r codes).intake = s.intake ∧ (s.fillCapture r codes).inputs = s.inputs
      ∧ (s.fillCapture r codes).channels = s.channels ∧ (s.fillCapture r codes).field = s.field
      ∧ (s.fillCapture r codes).tracker = s.tracker ∧ (s.fillCapture r codes).driver = s.driver
      ∧ (s.fillCapture r codes).time = s.time ∧ (s.fillCapture r codes).store = s.store
      ∧ (s.fillCapture r codes).cause = s.cause ∧ (s.fillCapture r codes).source = s.source
      ∧ (s.fillCapture r codes).handOffs = s.handOffs := by
  and_intros <;> (simp only [State.fillCapture]; (repeat' split) <;> simp)

@[simp] theorem State.offerCycle_frame (ch : Fin 16) (codes : List Int) (s : State) :
    (s.offerCycle ch codes).pending = s.pending ∧ (s.offerCycle ch codes).cfg = s.cfg
      ∧ (s.offerCycle ch codes).live = s.live ∧ (s.offerCycle ch codes).snapshots = s.snapshots
      ∧ (s.offerCycle ch codes).intake = s.intake ∧ (s.offerCycle ch codes).inputs = s.inputs
      ∧ (s.offerCycle ch codes).channels = s.channels ∧ (s.offerCycle ch codes).field = s.field
      ∧ (s.offerCycle ch codes).tracker = s.tracker ∧ (s.offerCycle ch codes).driver = s.driver
      ∧ (s.offerCycle ch codes).time = s.time ∧ (s.offerCycle ch codes).store = s.store
      ∧ (s.offerCycle ch codes).cause = s.cause ∧ (s.offerCycle ch codes).source = s.source
      ∧ (s.offerCycle ch codes).handOffs = s.handOffs := by
  and_intros <;> (simp only [State.offerCycle]; (repeat' split) <;> simp)

@[simp] theorem State.captureNotice_frame (p : Fin 16 → Bool) (s : State) :
    (s.captureNotice p).pending = s.pending ∧ (s.captureNotice p).cfg = s.cfg ∧ (s.captureNotice p).live = s.live
      ∧ (s.captureNotice p).snapshots = s.snapshots ∧ (s.captureNotice p).intake = s.intake
      ∧ (s.captureNotice p).inputs = s.inputs ∧ (s.captureNotice p).channels = s.channels
      ∧ (s.captureNotice p).field = s.field ∧ (s.captureNotice p).tracker = s.tracker
      ∧ (s.captureNotice p).driver = s.driver ∧ (s.captureNotice p).time = s.time
      ∧ (s.captureNotice p).store = s.store ∧ (s.captureNotice p).cause = s.cause
      ∧ (s.captureNotice p).source = s.source ∧ (s.captureNotice p).handOffs = s.handOffs := by
  and_intros <;> (simp only [State.captureNotice]; (repeat' split) <;> simp)

@[simp] theorem State.startOrWait_frame (ch : Fin 16) (k : CaptureCause) (t : Stamp) (pre post : Nat) (s : State) :
    (s.startOrWait ch k t pre post).pending = s.pending ∧ (s.startOrWait ch k t pre post).cfg = s.cfg
      ∧ (s.startOrWait ch k t pre post).live = s.live ∧ (s.startOrWait ch k t pre post).snapshots = s.snapshots
      ∧ (s.startOrWait ch k t pre post).intake = s.intake ∧ (s.startOrWait ch k t pre post).inputs = s.inputs
      ∧ (s.startOrWait ch k t pre post).channels = s.channels ∧ (s.startOrWait ch k t pre post).field = s.field
      ∧ (s.startOrWait ch k t pre post).tracker = s.tracker ∧ (s.startOrWait ch k t pre post).driver = s.driver
      ∧ (s.startOrWait ch k t pre post).link = s.link ∧ (s.startOrWait ch k t pre post).time = s.time
      ∧ (s.startOrWait ch k t pre post).store = s.store ∧ (s.startOrWait ch k t pre post).cause = s.cause
      ∧ (s.startOrWait ch k t pre post).source = s.source ∧ (s.startOrWait ch k t pre post).handOffs = s.handOffs := by
  and_intros <;> (simp only [State.startOrWait]; (repeat' split) <;> simp)

@[simp] theorem State.levelTriggered_frame (t : TriggerHandOff) (s : State) :
    (s.levelTriggered t).pending = s.pending ∧ (s.levelTriggered t).cfg = s.cfg ∧ (s.levelTriggered t).live = s.live
      ∧ (s.levelTriggered t).snapshots = s.snapshots ∧ (s.levelTriggered t).intake = s.intake
      ∧ (s.levelTriggered t).inputs = s.inputs ∧ (s.levelTriggered t).channels = s.channels
      ∧ (s.levelTriggered t).field = s.field ∧ (s.levelTriggered t).tracker = s.tracker
      ∧ (s.levelTriggered t).driver = s.driver ∧ (s.levelTriggered t).link = s.link
      ∧ (s.levelTriggered t).time = s.time ∧ (s.levelTriggered t).store = s.store
      ∧ (s.levelTriggered t).cause = s.cause ∧ (s.levelTriggered t).source = s.source
      ∧ (s.levelTriggered t).handOffs = s.handOffs := by
  and_intros <;> (simp only [State.levelTriggered]; (repeat' split) <;> simp)

@[simp] theorem State.captureDisabled_frame (ch : Fin 16) (s : State) :
    (s.captureDisabled ch).pending = s.pending ∧ (s.captureDisabled ch).cfg = s.cfg
      ∧ (s.captureDisabled ch).live = s.live ∧ (s.captureDisabled ch).snapshots = s.snapshots
      ∧ (s.captureDisabled ch).intake = s.intake ∧ (s.captureDisabled ch).inputs = s.inputs
      ∧ (s.captureDisabled ch).channels = s.channels ∧ (s.captureDisabled ch).field = s.field
      ∧ (s.captureDisabled ch).tracker = s.tracker ∧ (s.captureDisabled ch).driver = s.driver
      ∧ (s.captureDisabled ch).time = s.time ∧ (s.captureDisabled ch).store = s.store
      ∧ (s.captureDisabled ch).cause = s.cause ∧ (s.captureDisabled ch).source = s.source
      ∧ (s.captureDisabled ch).handOffs = s.handOffs := by
  simp [State.captureDisabled]

@[simp] theorem State.missCapture_frame (ch : Fin 16) (t : Stamp) (s : State) :
    (s.missCapture ch t).pending = s.pending ∧ (s.missCapture ch t).cfg = s.cfg ∧ (s.missCapture ch t).live = s.live
      ∧ (s.missCapture ch t).snapshots = s.snapshots ∧ (s.missCapture ch t).intake = s.intake
      ∧ (s.missCapture ch t).inputs = s.inputs ∧ (s.missCapture ch t).channels = s.channels
      ∧ (s.missCapture ch t).field = s.field ∧ (s.missCapture ch t).tracker = s.tracker
      ∧ (s.missCapture ch t).driver = s.driver ∧ (s.missCapture ch t).time = s.time
      ∧ (s.missCapture ch t).store = s.store ∧ (s.missCapture ch t).cause = s.cause
      ∧ (s.missCapture ch t).source = s.source ∧ (s.missCapture ch t).handOffs = s.handOffs := by
  simp [State.missCapture]

@[simp] theorem State.releaseOldest_frame (s : State) :
    (s.releaseOldest).pending = s.pending ∧ (s.releaseOldest).cfg = s.cfg ∧ (s.releaseOldest).live = s.live
      ∧ (s.releaseOldest).snapshots = s.snapshots ∧ (s.releaseOldest).intake = s.intake
      ∧ (s.releaseOldest).inputs = s.inputs ∧ (s.releaseOldest).channels = s.channels
      ∧ (s.releaseOldest).field = s.field ∧ (s.releaseOldest).tracker = s.tracker
      ∧ (s.releaseOldest).driver = s.driver ∧ (s.releaseOldest).link = s.link ∧ (s.releaseOldest).time = s.time
      ∧ (s.releaseOldest).store = s.store ∧ (s.releaseOldest).cause = s.cause ∧ (s.releaseOldest).source = s.source
      ∧ (s.releaseOldest).handOffs = s.handOffs := by
  and_intros <;> (simp only [State.releaseOldest]; (repeat' split) <;> simp)

/-! ### Current Extractor -/

@[simp] theorem State.completeSecond_frame (ch : Fin 16) (g : Nat) (s : State) :
    (s.completeSecond ch g).pending = s.pending ∧ (s.completeSecond ch g).cfg = s.cfg
      ∧ (s.completeSecond ch g).live = s.live ∧ (s.completeSecond ch g).snapshots = s.snapshots
      ∧ (s.completeSecond ch g).intake = s.intake ∧ (s.completeSecond ch g).inputs = s.inputs
      ∧ (s.completeSecond ch g).field = s.field ∧ (s.completeSecond ch g).tracker = s.tracker
      ∧ (s.completeSecond ch g).capture = s.capture ∧ (s.completeSecond ch g).driver = s.driver
      ∧ (s.completeSecond ch g).link = s.link ∧ (s.completeSecond ch g).time = s.time
      ∧ (s.completeSecond ch g).store = s.store ∧ (s.completeSecond ch g).cause = s.cause
      ∧ (s.completeSecond ch g).source = s.source := by
  simp [State.completeSecond]

@[simp] theorem State.completeBlock_frame (ch : Fin 16) (g : Nat) (s : State) :
    (s.completeBlock ch g).pending = s.pending ∧ (s.completeBlock ch g).cfg = s.cfg
      ∧ (s.completeBlock ch g).live = s.live ∧ (s.completeBlock ch g).snapshots = s.snapshots
      ∧ (s.completeBlock ch g).intake = s.intake ∧ (s.completeBlock ch g).inputs = s.inputs
      ∧ (s.completeBlock ch g).field = s.field ∧ (s.completeBlock ch g).tracker = s.tracker
      ∧ (s.completeBlock ch g).capture = s.capture ∧ (s.completeBlock ch g).driver = s.driver
      ∧ (s.completeBlock ch g).link = s.link ∧ (s.completeBlock ch g).time = s.time
      ∧ (s.completeBlock ch g).store = s.store ∧ (s.completeBlock ch g).cause = s.cause
      ∧ (s.completeBlock ch g).source = s.source := by
  and_intros <;> (simp only [State.completeBlock]; (repeat' split) <;> simp)

@[simp] theorem State.completeCycle_frame (ch : Fin 16) (c : PartialCycle) (s : State) :
    (s.completeCycle ch c).pending = s.pending ∧ (s.completeCycle ch c).cfg = s.cfg
      ∧ (s.completeCycle ch c).live = s.live ∧ (s.completeCycle ch c).snapshots = s.snapshots
      ∧ (s.completeCycle ch c).intake = s.intake ∧ (s.completeCycle ch c).inputs = s.inputs
      ∧ (s.completeCycle ch c).field = s.field ∧ (s.completeCycle ch c).tracker = s.tracker
      ∧ (s.completeCycle ch c).driver = s.driver ∧ (s.completeCycle ch c).time = s.time
      ∧ (s.completeCycle ch c).store = s.store ∧ (s.completeCycle ch c).cause = s.cause
      ∧ (s.completeCycle ch c).source = s.source := by
  and_intros <;> (simp only [State.completeCycle]; (repeat' split) <;> simp)

@[simp] theorem State.takeSample_frame (ch : Fin 16) (code : Int) (tag : Tag) (s : State) :
    (s.takeSample ch code tag).pending = s.pending ∧ (s.takeSample ch code tag).cfg = s.cfg
      ∧ (s.takeSample ch code tag).live = s.live ∧ (s.takeSample ch code tag).snapshots = s.snapshots
      ∧ (s.takeSample ch code tag).intake = s.intake ∧ (s.takeSample ch code tag).inputs = s.inputs
      ∧ (s.takeSample ch code tag).field = s.field ∧ (s.takeSample ch code tag).tracker = s.tracker
      ∧ (s.takeSample ch code tag).driver = s.driver ∧ (s.takeSample ch code tag).time = s.time
      ∧ (s.takeSample ch code tag).store = s.store ∧ (s.takeSample ch code tag).cause = s.cause
      ∧ (s.takeSample ch code tag).source = s.source := by
  and_intros <;> (simp only [State.takeSample]; (repeat' split) <;> simp)

@[simp] theorem State.abandonChannels_frame (p : Fin 16 → Bool) (s : State) :
    (s.abandonChannels p).pending = s.pending ∧ (s.abandonChannels p).cfg = s.cfg
      ∧ (s.abandonChannels p).live = s.live ∧ (s.abandonChannels p).snapshots = s.snapshots
      ∧ (s.abandonChannels p).intake = s.intake ∧ (s.abandonChannels p).inputs = s.inputs
      ∧ (s.abandonChannels p).field = s.field ∧ (s.abandonChannels p).tracker = s.tracker
      ∧ (s.abandonChannels p).capture = s.capture ∧ (s.abandonChannels p).driver = s.driver
      ∧ (s.abandonChannels p).link = s.link ∧ (s.abandonChannels p).time = s.time
      ∧ (s.abandonChannels p).store = s.store ∧ (s.abandonChannels p).cause = s.cause
      ∧ (s.abandonChannels p).source = s.source ∧ (s.abandonChannels p).handOffs = s.handOffs := by
  simp only [State.abandonChannels, and_self]

@[simp] theorem State.abandon_frame (p : Fin 16 → Bool) (s : State) :
    (s.abandon p).pending = s.pending ∧ (s.abandon p).cfg = s.cfg ∧ (s.abandon p).live = s.live
      ∧ (s.abandon p).snapshots = s.snapshots ∧ (s.abandon p).intake = s.intake ∧ (s.abandon p).inputs = s.inputs
      ∧ (s.abandon p).field = s.field ∧ (s.abandon p).tracker = s.tracker ∧ (s.abandon p).driver = s.driver
      ∧ (s.abandon p).time = s.time ∧ (s.abandon p).store = s.store ∧ (s.abandon p).cause = s.cause
      ∧ (s.abandon p).source = s.source ∧ (s.abandon p).handOffs = s.handOffs := by
  simp [State.abandon]

@[simp] theorem State.clearLearning_frame (ch : Fin 16) (s : State) :
    (s.clearLearning ch).pending = s.pending ∧ (s.clearLearning ch).cfg = s.cfg ∧ (s.clearLearning ch).live = s.live
      ∧ (s.clearLearning ch).snapshots = s.snapshots ∧ (s.clearLearning ch).intake = s.intake
      ∧ (s.clearLearning ch).inputs = s.inputs ∧ (s.clearLearning ch).field = s.field
      ∧ (s.clearLearning ch).tracker = s.tracker ∧ (s.clearLearning ch).capture = s.capture
      ∧ (s.clearLearning ch).driver = s.driver ∧ (s.clearLearning ch).link = s.link
      ∧ (s.clearLearning ch).time = s.time ∧ (s.clearLearning ch).store = s.store
      ∧ (s.clearLearning ch).cause = s.cause ∧ (s.clearLearning ch).source = s.source
      ∧ (s.clearLearning ch).handOffs = s.handOffs := by
  simp [State.clearLearning]

@[simp] theorem State.clearDeenergisedTime_frame (ch : Fin 16) (s : State) :
    (s.clearDeenergisedTime ch).pending = s.pending ∧ (s.clearDeenergisedTime ch).cfg = s.cfg
      ∧ (s.clearDeenergisedTime ch).live = s.live ∧ (s.clearDeenergisedTime ch).snapshots = s.snapshots
      ∧ (s.clearDeenergisedTime ch).intake = s.intake ∧ (s.clearDeenergisedTime ch).inputs = s.inputs
      ∧ (s.clearDeenergisedTime ch).field = s.field ∧ (s.clearDeenergisedTime ch).tracker = s.tracker
      ∧ (s.clearDeenergisedTime ch).capture = s.capture ∧ (s.clearDeenergisedTime ch).driver = s.driver
      ∧ (s.clearDeenergisedTime ch).link = s.link ∧ (s.clearDeenergisedTime ch).time = s.time
      ∧ (s.clearDeenergisedTime ch).store = s.store ∧ (s.clearDeenergisedTime ch).cause = s.cause
      ∧ (s.clearDeenergisedTime ch).source = s.source ∧ (s.clearDeenergisedTime ch).handOffs = s.handOffs := by
  simp [State.clearDeenergisedTime]

@[simp] theorem State.completeLearning_frame (i : Fin 16) (l : Learning) (s : State) :
    (s.completeLearning i l).pending = s.pending ∧ (s.completeLearning i l).cfg = s.cfg
      ∧ (s.completeLearning i l).snapshots = s.snapshots ∧ (s.completeLearning i l).intake = s.intake
      ∧ (s.completeLearning i l).inputs = s.inputs ∧ (s.completeLearning i l).field = s.field
      ∧ (s.completeLearning i l).tracker = s.tracker ∧ (s.completeLearning i l).capture = s.capture
      ∧ (s.completeLearning i l).driver = s.driver ∧ (s.completeLearning i l).time = s.time
      ∧ (s.completeLearning i l).store = s.store ∧ (s.completeLearning i l).cause = s.cause
      ∧ (s.completeLearning i l).source = s.source ∧ (s.completeLearning i l).handOffs = s.handOffs := by
  and_intros <;> (simp only [State.completeLearning]; (repeat' split) <;> simp)

@[simp] theorem State.offerLearning_frame (h : SecondHandOff) (s : State) :
    (s.offerLearning h).pending = s.pending ∧ (s.offerLearning h).cfg = s.cfg
      ∧ (s.offerLearning h).snapshots = s.snapshots ∧ (s.offerLearning h).intake = s.intake
      ∧ (s.offerLearning h).inputs = s.inputs ∧ (s.offerLearning h).field = s.field
      ∧ (s.offerLearning h).tracker = s.tracker ∧ (s.offerLearning h).capture = s.capture
      ∧ (s.offerLearning h).driver = s.driver ∧ (s.offerLearning h).time = s.time
      ∧ (s.offerLearning h).store = s.store ∧ (s.offerLearning h).cause = s.cause
      ∧ (s.offerLearning h).source = s.source ∧ (s.offerLearning h).handOffs = s.handOffs := by
  and_intros <;> (simp only [State.offerLearning]; (repeat' split) <;> simp)

/-! ### Field Estimator -/

@[simp] theorem State.completeField_frame (p : PartialField) (s : State) :
    (s.completeField p).pending = s.pending ∧ (s.completeField p).cfg = s.cfg ∧ (s.completeField p).live = s.live
      ∧ (s.completeField p).snapshots = s.snapshots ∧ (s.completeField p).intake = s.intake
      ∧ (s.completeField p).inputs = s.inputs ∧ (s.completeField p).channels = s.channels
      ∧ (s.completeField p).tracker = s.tracker ∧ (s.completeField p).capture = s.capture
      ∧ (s.completeField p).driver = s.driver ∧ (s.completeField p).link = s.link
      ∧ (s.completeField p).time = s.time ∧ (s.completeField p).store = s.store
      ∧ (s.completeField p).cause = s.cause ∧ (s.completeField p).source = s.source
      ∧ (s.completeField p).handOffs = s.handOffs := by
  simp [State.completeField]

@[simp] theorem State.takeFieldGroup_frame (n e : Int) (tag : Tag) (s : State) :
    (s.takeFieldGroup n e tag).pending = s.pending ∧ (s.takeFieldGroup n e tag).cfg = s.cfg
      ∧ (s.takeFieldGroup n e tag).live = s.live ∧ (s.takeFieldGroup n e tag).snapshots = s.snapshots
      ∧ (s.takeFieldGroup n e tag).intake = s.intake ∧ (s.takeFieldGroup n e tag).inputs = s.inputs
      ∧ (s.takeFieldGroup n e tag).channels = s.channels ∧ (s.takeFieldGroup n e tag).tracker = s.tracker
      ∧ (s.takeFieldGroup n e tag).capture = s.capture ∧ (s.takeFieldGroup n e tag).driver = s.driver
      ∧ (s.takeFieldGroup n e tag).link = s.link ∧ (s.takeFieldGroup n e tag).time = s.time
      ∧ (s.takeFieldGroup n e tag).store = s.store ∧ (s.takeFieldGroup n e tag).cause = s.cause
      ∧ (s.takeFieldGroup n e tag).source = s.source ∧ (s.takeFieldGroup n e tag).handOffs = s.handOffs := by
  and_intros <;> (simp only [State.takeFieldGroup]; (repeat' split) <;> simp)

@[simp] theorem State.abandonField_frame (s : State) :
    (s.abandonField).pending = s.pending ∧ (s.abandonField).cfg = s.cfg ∧ (s.abandonField).live = s.live
      ∧ (s.abandonField).snapshots = s.snapshots ∧ (s.abandonField).intake = s.intake
      ∧ (s.abandonField).inputs = s.inputs ∧ (s.abandonField).channels = s.channels
      ∧ (s.abandonField).tracker = s.tracker ∧ (s.abandonField).capture = s.capture
      ∧ (s.abandonField).driver = s.driver ∧ (s.abandonField).link = s.link ∧ (s.abandonField).time = s.time
      ∧ (s.abandonField).store = s.store ∧ (s.abandonField).cause = s.cause ∧ (s.abandonField).source = s.source
      ∧ (s.abandonField).handOffs = s.handOffs := by
  simp [State.abandonField]

@[simp] theorem State.fieldSecond_frame (t : Stamp) (s : State) :
    (s.fieldSecond t).pending = s.pending ∧ (s.fieldSecond t).cfg = s.cfg ∧ (s.fieldSecond t).live = s.live
      ∧ (s.fieldSecond t).snapshots = s.snapshots ∧ (s.fieldSecond t).intake = s.intake
      ∧ (s.fieldSecond t).inputs = s.inputs ∧ (s.fieldSecond t).channels = s.channels
      ∧ (s.fieldSecond t).tracker = s.tracker ∧ (s.fieldSecond t).capture = s.capture
      ∧ (s.fieldSecond t).driver = s.driver ∧ (s.fieldSecond t).time = s.time ∧ (s.fieldSecond t).store = s.store
      ∧ (s.fieldSecond t).cause = s.cause ∧ (s.fieldSecond t).source = s.source
      ∧ (s.fieldSecond t).handOffs = s.handOffs := by
  and_intros <;> (simp only [State.fieldSecond]; (repeat' split) <;> simp)

/-! ### Sample Intake -/

@[simp] theorem State.setConverterState_frame (c : Fin 5) (v : ConverterState) (s : State) :
    (s.setConverterState c v).pending = s.pending ∧ (s.setConverterState c v).cfg = s.cfg
      ∧ (s.setConverterState c v).live = s.live ∧ (s.setConverterState c v).snapshots = s.snapshots
      ∧ (s.setConverterState c v).inputs = s.inputs ∧ (s.setConverterState c v).channels = s.channels
      ∧ (s.setConverterState c v).field = s.field ∧ (s.setConverterState c v).tracker = s.tracker
      ∧ (s.setConverterState c v).capture = s.capture ∧ (s.setConverterState c v).driver = s.driver
      ∧ (s.setConverterState c v).link = s.link ∧ (s.setConverterState c v).time = s.time
      ∧ (s.setConverterState c v).store = s.store ∧ (s.setConverterState c v).cause = s.cause
      ∧ (s.setConverterState c v).source = s.source := by
  simp [State.setConverterState]

@[simp] theorem State.arrive_frame (f : Frame) (s : State) :
    (s.arrive f).pending = s.pending ∧ (s.arrive f).cfg = s.cfg ∧ (s.arrive f).live = s.live
      ∧ (s.arrive f).snapshots = s.snapshots ∧ (s.arrive f).inputs = s.inputs ∧ (s.arrive f).channels = s.channels
      ∧ (s.arrive f).field = s.field ∧ (s.arrive f).tracker = s.tracker ∧ (s.arrive f).capture = s.capture
      ∧ (s.arrive f).driver = s.driver ∧ (s.arrive f).link = s.link ∧ (s.arrive f).time = s.time
      ∧ (s.arrive f).store = s.store ∧ (s.arrive f).cause = s.cause ∧ (s.arrive f).source = s.source
      ∧ (s.arrive f).handOffs = s.handOffs := by
  and_intros <;> (simp only [State.arrive]; (repeat' split) <;> simp)

@[simp] theorem State.lineEvent_frame (e : LineEvent) (s : State) :
    (s.lineEvent e).pending = s.pending ∧ (s.lineEvent e).cfg = s.cfg ∧ (s.lineEvent e).live = s.live
      ∧ (s.lineEvent e).snapshots = s.snapshots ∧ (s.lineEvent e).inputs = s.inputs
      ∧ (s.lineEvent e).channels = s.channels ∧ (s.lineEvent e).field = s.field
      ∧ (s.lineEvent e).tracker = s.tracker ∧ (s.lineEvent e).capture = s.capture
      ∧ (s.lineEvent e).driver = s.driver ∧ (s.lineEvent e).link = s.link ∧ (s.lineEvent e).time = s.time
      ∧ (s.lineEvent e).store = s.store ∧ (s.lineEvent e).cause = s.cause ∧ (s.lineEvent e).source = s.source
      ∧ (s.lineEvent e).handOffs = s.handOffs := by
  and_intros <;> (simp only [State.lineEvent]; (repeat' split) <;> simp)

@[simp] theorem State.lineEvents_frame (es : List LineEvent) (s : State) :
    (s.lineEvents es).pending = s.pending ∧ (s.lineEvents es).cfg = s.cfg ∧ (s.lineEvents es).live = s.live
      ∧ (s.lineEvents es).snapshots = s.snapshots ∧ (s.lineEvents es).inputs = s.inputs
      ∧ (s.lineEvents es).channels = s.channels ∧ (s.lineEvents es).field = s.field
      ∧ (s.lineEvents es).tracker = s.tracker ∧ (s.lineEvents es).capture = s.capture
      ∧ (s.lineEvents es).driver = s.driver ∧ (s.lineEvents es).link = s.link ∧ (s.lineEvents es).time = s.time
      ∧ (s.lineEvents es).store = s.store ∧ (s.lineEvents es).cause = s.cause ∧ (s.lineEvents es).source = s.source
      ∧ (s.lineEvents es).handOffs = s.handOffs := by
  exact ⟨foldl_same State.pending _ (fun _ _ => by simp) _ _,
    foldl_same State.cfg _ (fun _ _ => by simp) _ _,
    foldl_same State.live _ (fun _ _ => by simp) _ _,
    foldl_same State.snapshots _ (fun _ _ => by simp) _ _,
    foldl_same State.inputs _ (fun _ _ => by simp) _ _,
    foldl_same State.channels _ (fun _ _ => by simp) _ _,
    foldl_same State.field _ (fun _ _ => by simp) _ _,
    foldl_same State.tracker _ (fun _ _ => by simp) _ _,
    foldl_same State.capture _ (fun _ _ => by simp) _ _,
    foldl_same State.driver _ (fun _ _ => by simp) _ _,
    foldl_same State.link _ (fun _ _ => by simp) _ _,
    foldl_same State.time _ (fun _ _ => by simp) _ _,
    foldl_same State.store _ (fun _ _ => by simp) _ _,
    foldl_same State.cause _ (fun _ _ => by simp) _ _,
    foldl_same State.source _ (fun _ _ => by simp) _ _,
    foldl_same State.handOffs _ (fun _ _ => by simp) _ _⟩

@[simp] theorem State.sampleBytes_frame (bytes : List Byte) (s : State) :
    (s.sampleBytes bytes).pending = s.pending ∧ (s.sampleBytes bytes).cfg = s.cfg
      ∧ (s.sampleBytes bytes).live = s.live ∧ (s.sampleBytes bytes).snapshots = s.snapshots
      ∧ (s.sampleBytes bytes).inputs = s.inputs ∧ (s.sampleBytes bytes).channels = s.channels
      ∧ (s.sampleBytes bytes).field = s.field ∧ (s.sampleBytes bytes).tracker = s.tracker
      ∧ (s.sampleBytes bytes).capture = s.capture ∧ (s.sampleBytes bytes).driver = s.driver
      ∧ (s.sampleBytes bytes).link = s.link ∧ (s.sampleBytes bytes).time = s.time
      ∧ (s.sampleBytes bytes).store = s.store ∧ (s.sampleBytes bytes).cause = s.cause
      ∧ (s.sampleBytes bytes).source = s.source ∧ (s.sampleBytes bytes).handOffs = s.handOffs := by
  simp [State.sampleBytes]

@[simp] theorem State.sampleIdle_frame (s : State) :
    (s.sampleIdle).pending = s.pending ∧ (s.sampleIdle).cfg = s.cfg ∧ (s.sampleIdle).live = s.live
      ∧ (s.sampleIdle).snapshots = s.snapshots ∧ (s.sampleIdle).inputs = s.inputs
      ∧ (s.sampleIdle).channels = s.channels ∧ (s.sampleIdle).field = s.field ∧ (s.sampleIdle).tracker = s.tracker
      ∧ (s.sampleIdle).capture = s.capture ∧ (s.sampleIdle).driver = s.driver ∧ (s.sampleIdle).link = s.link
      ∧ (s.sampleIdle).time = s.time ∧ (s.sampleIdle).store = s.store ∧ (s.sampleIdle).cause = s.cause
      ∧ (s.sampleIdle).source = s.source ∧ (s.sampleIdle).handOffs = s.handOffs := by
  simp [State.sampleIdle]

@[simp] theorem State.sampleDamaged_frame (s : State) :
    (s.sampleDamaged).pending = s.pending ∧ (s.sampleDamaged).cfg = s.cfg ∧ (s.sampleDamaged).live = s.live
      ∧ (s.sampleDamaged).snapshots = s.snapshots ∧ (s.sampleDamaged).inputs = s.inputs
      ∧ (s.sampleDamaged).channels = s.channels ∧ (s.sampleDamaged).field = s.field
      ∧ (s.sampleDamaged).tracker = s.tracker ∧ (s.sampleDamaged).capture = s.capture
      ∧ (s.sampleDamaged).driver = s.driver ∧ (s.sampleDamaged).link = s.link ∧ (s.sampleDamaged).time = s.time
      ∧ (s.sampleDamaged).store = s.store ∧ (s.sampleDamaged).cause = s.cause ∧ (s.sampleDamaged).source = s.source
      ∧ (s.sampleDamaged).handOffs = s.handOffs := by
  and_intros <;> (simp only [State.sampleDamaged]; (repeat' split) <;> simp)

@[simp] theorem State.takeGroup_frame (g : SampleGroup) (s : State) :
    (s.takeGroup g).pending = s.pending ∧ (s.takeGroup g).cfg = s.cfg ∧ (s.takeGroup g).live = s.live
      ∧ (s.takeGroup g).snapshots = s.snapshots ∧ (s.takeGroup g).intake = s.intake
      ∧ (s.takeGroup g).inputs = s.inputs ∧ (s.takeGroup g).tracker = s.tracker ∧ (s.takeGroup g).driver = s.driver
      ∧ (s.takeGroup g).time = s.time ∧ (s.takeGroup g).store = s.store ∧ (s.takeGroup g).cause = s.cause
      ∧ (s.takeGroup g).source = s.source := by
  cases g <;> simp [State.takeGroup]

@[simp] theorem State.handFill_frame (f : Frame) (q : Byte) (s : State) :
    (s.handFill f q).pending = s.pending ∧ (s.handFill f q).cfg = s.cfg ∧ (s.handFill f q).live = s.live
      ∧ (s.handFill f q).snapshots = s.snapshots ∧ (s.handFill f q).intake = s.intake
      ∧ (s.handFill f q).inputs = s.inputs ∧ (s.handFill f q).tracker = s.tracker
      ∧ (s.handFill f q).driver = s.driver ∧ (s.handFill f q).time = s.time ∧ (s.handFill f q).store = s.store
      ∧ (s.handFill f q).cause = s.cause ∧ (s.handFill f q).source = s.source := by
  simp [State.handFill]

@[simp] theorem State.handFills_frame (f : Frame) (q : Byte) (n : Nat) (s : State) :
    (s.handFills f q n).pending = s.pending ∧ (s.handFills f q n).cfg = s.cfg ∧ (s.handFills f q n).live = s.live
      ∧ (s.handFills f q n).snapshots = s.snapshots ∧ (s.handFills f q n).intake = s.intake
      ∧ (s.handFills f q n).inputs = s.inputs ∧ (s.handFills f q n).tracker = s.tracker
      ∧ (s.handFills f q n).driver = s.driver ∧ (s.handFills f q n).time = s.time
      ∧ (s.handFills f q n).store = s.store ∧ (s.handFills f q n).cause = s.cause
      ∧ (s.handFills f q n).source = s.source := by
  induction n generalizing s q with
  | zero => simp [State.handFills]
  | succ n ih => simpa [State.handFills] using ih (q + 1) (s.handFill f q)

@[simp] theorem State.handleStatus_frame (f : Frame) (s : State) :
    (s.handleStatus f).pending = s.pending ∧ (s.handleStatus f).cfg = s.cfg ∧ (s.handleStatus f).live = s.live
      ∧ (s.handleStatus f).snapshots = s.snapshots ∧ (s.handleStatus f).inputs = s.inputs
      ∧ (s.handleStatus f).channels = s.channels ∧ (s.handleStatus f).field = s.field
      ∧ (s.handleStatus f).tracker = s.tracker ∧ (s.handleStatus f).capture = s.capture
      ∧ (s.handleStatus f).driver = s.driver ∧ (s.handleStatus f).time = s.time ∧ (s.handleStatus f).store = s.store
      ∧ (s.handleStatus f).cause = s.cause ∧ (s.handleStatus f).source = s.source := by
  and_intros <;> (simp only [State.handleStatus]; (repeat' split) <;> simp)

@[simp] theorem State.handOwn_frame (f : Frame) (s : State) :
    (s.handOwn f).pending = s.pending ∧ (s.handOwn f).cfg = s.cfg ∧ (s.handOwn f).live = s.live
      ∧ (s.handOwn f).snapshots = s.snapshots ∧ (s.handOwn f).inputs = s.inputs ∧ (s.handOwn f).tracker = s.tracker
      ∧ (s.handOwn f).driver = s.driver ∧ (s.handOwn f).time = s.time ∧ (s.handOwn f).store = s.store
      ∧ (s.handOwn f).cause = s.cause ∧ (s.handOwn f).source = s.source := by
  and_intros <;> (simp only [State.handOwn]; (repeat' split) <;> simp)

@[simp] theorem State.followRef_frame (f : Frame) (s : State) :
    (s.followRef f).pending = s.pending ∧ (s.followRef f).cfg = s.cfg ∧ (s.followRef f).live = s.live
      ∧ (s.followRef f).snapshots = s.snapshots ∧ (s.followRef f).inputs = s.inputs
      ∧ (s.followRef f).channels = s.channels ∧ (s.followRef f).field = s.field
      ∧ (s.followRef f).tracker = s.tracker ∧ (s.followRef f).capture = s.capture
      ∧ (s.followRef f).driver = s.driver ∧ (s.followRef f).link = s.link ∧ (s.followRef f).time = s.time
      ∧ (s.followRef f).store = s.store ∧ (s.followRef f).cause = s.cause ∧ (s.followRef f).source = s.source := by
  simp [State.followRef]

@[simp] theorem State.abandonConverter_frame (c : Fin 5) (s : State) :
    (s.abandonConverter c).pending = s.pending ∧ (s.abandonConverter c).cfg = s.cfg
      ∧ (s.abandonConverter c).live = s.live ∧ (s.abandonConverter c).snapshots = s.snapshots
      ∧ (s.abandonConverter c).intake = s.intake ∧ (s.abandonConverter c).inputs = s.inputs
      ∧ (s.abandonConverter c).tracker = s.tracker ∧ (s.abandonConverter c).driver = s.driver
      ∧ (s.abandonConverter c).time = s.time ∧ (s.abandonConverter c).store = s.store
      ∧ (s.abandonConverter c).cause = s.cause ∧ (s.abandonConverter c).source = s.source
      ∧ (s.abandonConverter c).handOffs = s.handOffs := by
  and_intros <;> (simp only [State.abandonConverter]; (repeat' split) <;> simp)

@[simp] theorem State.resync_frame (f : Frame) (s : State) :
    (s.resync f).pending = s.pending ∧ (s.resync f).cfg = s.cfg ∧ (s.resync f).live = s.live
      ∧ (s.resync f).snapshots = s.snapshots ∧ (s.resync f).inputs = s.inputs ∧ (s.resync f).tracker = s.tracker
      ∧ (s.resync f).driver = s.driver ∧ (s.resync f).time = s.time ∧ (s.resync f).store = s.store
      ∧ (s.resync f).cause = s.cause ∧ (s.resync f).source = s.source := by
  simp [State.resync]

@[simp] theorem State.firstFrame_frame (f : Frame) (s : State) :
    (s.firstFrame f).pending = s.pending ∧ (s.firstFrame f).cfg = s.cfg ∧ (s.firstFrame f).live = s.live
      ∧ (s.firstFrame f).snapshots = s.snapshots ∧ (s.firstFrame f).inputs = s.inputs
      ∧ (s.firstFrame f).tracker = s.tracker ∧ (s.firstFrame f).driver = s.driver ∧ (s.firstFrame f).time = s.time
      ∧ (s.firstFrame f).store = s.store ∧ (s.firstFrame f).cause = s.cause ∧ (s.firstFrame f).source = s.source := by
  and_intros <;> (simp only [State.firstFrame]; (repeat' split) <;> simp)

@[simp] theorem State.judge_frame (f : Frame) (s : State) :
    (s.judge f).pending = s.pending ∧ (s.judge f).cfg = s.cfg ∧ (s.judge f).live = s.live
      ∧ (s.judge f).snapshots = s.snapshots ∧ (s.judge f).inputs = s.inputs ∧ (s.judge f).tracker = s.tracker
      ∧ (s.judge f).driver = s.driver ∧ (s.judge f).time = s.time ∧ (s.judge f).store = s.store
      ∧ (s.judge f).cause = s.cause ∧ (s.judge f).source = s.source := by
  and_intros <;> (simp only [State.judge]; (repeat' split) <;> simp)

@[simp] theorem State.takeHead_frame (p : Frame → Bool) (s : State) :
    (s.takeHead p).pending = s.pending ∧ (s.takeHead p).cfg = s.cfg ∧ (s.takeHead p).live = s.live
      ∧ (s.takeHead p).snapshots = s.snapshots ∧ (s.takeHead p).inputs = s.inputs
      ∧ (s.takeHead p).tracker = s.tracker ∧ (s.takeHead p).driver = s.driver ∧ (s.takeHead p).time = s.time
      ∧ (s.takeHead p).store = s.store ∧ (s.takeHead p).cause = s.cause ∧ (s.takeHead p).source = s.source := by
  and_intros <;> (simp only [State.takeHead]; (repeat' split) <;> simp)

@[simp] theorem State.silenceExpired_frame (c : Fin 5) (s : State) :
    (s.silenceExpired c).pending = s.pending ∧ (s.silenceExpired c).cfg = s.cfg ∧ (s.silenceExpired c).live = s.live
      ∧ (s.silenceExpired c).snapshots = s.snapshots ∧ (s.silenceExpired c).inputs = s.inputs
      ∧ (s.silenceExpired c).tracker = s.tracker ∧ (s.silenceExpired c).driver = s.driver
      ∧ (s.silenceExpired c).time = s.time ∧ (s.silenceExpired c).store = s.store
      ∧ (s.silenceExpired c).cause = s.cause ∧ (s.silenceExpired c).source = s.source := by
  and_intros <;> (simp only [State.silenceExpired]; (repeat' split) <;> simp)

/-! ### Evaluation -/

@[simp] theorem State.emitStageOne_frame (i : Fin 16) (ks : List TransitionKind) (x : Option Nat) (t : Stamp) (s : State) :
    (s.emitStageOne i ks x t).pending = s.pending ∧ (s.emitStageOne i ks x t).cfg = s.cfg
      ∧ (s.emitStageOne i ks x t).live = s.live ∧ (s.emitStageOne i ks x t).snapshots = s.snapshots
      ∧ (s.emitStageOne i ks x t).intake = s.intake ∧ (s.emitStageOne i ks x t).inputs = s.inputs
      ∧ (s.emitStageOne i ks x t).channels = s.channels ∧ (s.emitStageOne i ks x t).field = s.field
      ∧ (s.emitStageOne i ks x t).tracker = s.tracker ∧ (s.emitStageOne i ks x t).capture = s.capture
      ∧ (s.emitStageOne i ks x t).driver = s.driver ∧ (s.emitStageOne i ks x t).time = s.time
      ∧ (s.emitStageOne i ks x t).store = s.store ∧ (s.emitStageOne i ks x t).cause = s.cause
      ∧ (s.emitStageOne i ks x t).source = s.source ∧ (s.emitStageOne i ks x t).handOffs = s.handOffs := by
  exact ⟨foldl_same State.pending _ (fun _ _ => by simp) _ _,
    foldl_same State.cfg _ (fun _ _ => by simp) _ _,
    foldl_same State.live _ (fun _ _ => by simp) _ _,
    foldl_same State.snapshots _ (fun _ _ => by simp) _ _,
    foldl_same State.intake _ (fun _ _ => by simp) _ _,
    foldl_same State.inputs _ (fun _ _ => by simp) _ _,
    foldl_same State.channels _ (fun _ _ => by simp) _ _,
    foldl_same State.field _ (fun _ _ => by simp) _ _,
    foldl_same State.tracker _ (fun _ _ => by simp) _ _,
    foldl_same State.capture _ (fun _ _ => by simp) _ _,
    foldl_same State.driver _ (fun _ _ => by simp) _ _,
    foldl_same State.time _ (fun _ _ => by simp) _ _,
    foldl_same State.store _ (fun _ _ => by simp) _ _,
    foldl_same State.cause _ (fun _ _ => by simp) _ _,
    foldl_same State.source _ (fun _ _ => by simp) _ _,
    foldl_same State.handOffs _ (fun _ _ => by simp) _ _⟩

@[simp] theorem State.emitStageThree_frame (i : Fin 16) (es : List (TransitionKind × Option (Level × Level))) (x : Option Nat) (t : Stamp) (s : State) :
    (s.emitStageThree i es x t).pending = s.pending ∧ (s.emitStageThree i es x t).cfg = s.cfg
      ∧ (s.emitStageThree i es x t).live = s.live ∧ (s.emitStageThree i es x t).snapshots = s.snapshots
      ∧ (s.emitStageThree i es x t).intake = s.intake ∧ (s.emitStageThree i es x t).inputs = s.inputs
      ∧ (s.emitStageThree i es x t).channels = s.channels ∧ (s.emitStageThree i es x t).field = s.field
      ∧ (s.emitStageThree i es x t).tracker = s.tracker ∧ (s.emitStageThree i es x t).capture = s.capture
      ∧ (s.emitStageThree i es x t).driver = s.driver ∧ (s.emitStageThree i es x t).time = s.time
      ∧ (s.emitStageThree i es x t).store = s.store ∧ (s.emitStageThree i es x t).cause = s.cause
      ∧ (s.emitStageThree i es x t).source = s.source ∧ (s.emitStageThree i es x t).handOffs = s.handOffs := by
  exact ⟨foldl_same State.pending _ (fun _ _ => by simp) _ _,
    foldl_same State.cfg _ (fun _ _ => by simp) _ _,
    foldl_same State.live _ (fun _ _ => by simp) _ _,
    foldl_same State.snapshots _ (fun _ _ => by simp) _ _,
    foldl_same State.intake _ (fun _ _ => by simp) _ _,
    foldl_same State.inputs _ (fun _ _ => by simp) _ _,
    foldl_same State.channels _ (fun _ _ => by simp) _ _,
    foldl_same State.field _ (fun _ _ => by simp) _ _,
    foldl_same State.tracker _ (fun _ _ => by simp) _ _,
    foldl_same State.capture _ (fun _ _ => by simp) _ _,
    foldl_same State.driver _ (fun _ _ => by simp) _ _,
    foldl_same State.time _ (fun _ _ => by simp) _ _,
    foldl_same State.store _ (fun _ _ => by simp) _ _,
    foldl_same State.cause _ (fun _ _ => by simp) _ _,
    foldl_same State.source _ (fun _ _ => by simp) _ _,
    foldl_same State.handOffs _ (fun _ _ => by simp) _ _⟩

@[simp] theorem State.handTrigger_frame (c : Settings) (i : Fin 16) (t : Stamp) (s : State) :
    (s.handTrigger c i t).pending = s.pending ∧ (s.handTrigger c i t).cfg = s.cfg
      ∧ (s.handTrigger c i t).live = s.live ∧ (s.handTrigger c i t).snapshots = s.snapshots
      ∧ (s.handTrigger c i t).intake = s.intake ∧ (s.handTrigger c i t).inputs = s.inputs
      ∧ (s.handTrigger c i t).channels = s.channels ∧ (s.handTrigger c i t).field = s.field
      ∧ (s.handTrigger c i t).tracker = s.tracker ∧ (s.handTrigger c i t).capture = s.capture
      ∧ (s.handTrigger c i t).driver = s.driver ∧ (s.handTrigger c i t).link = s.link
      ∧ (s.handTrigger c i t).time = s.time ∧ (s.handTrigger c i t).store = s.store
      ∧ (s.handTrigger c i t).cause = s.cause ∧ (s.handTrigger c i t).source = s.source := by
  simp [State.handTrigger]

@[simp] theorem State.handEvaluation_frame (i : Fin 16) (l : Live) (t : Stamp) (s : State) :
    (s.handEvaluation i l t).pending = s.pending ∧ (s.handEvaluation i l t).cfg = s.cfg
      ∧ (s.handEvaluation i l t).live = s.live ∧ (s.handEvaluation i l t).snapshots = s.snapshots
      ∧ (s.handEvaluation i l t).intake = s.intake ∧ (s.handEvaluation i l t).inputs = s.inputs
      ∧ (s.handEvaluation i l t).channels = s.channels ∧ (s.handEvaluation i l t).field = s.field
      ∧ (s.handEvaluation i l t).tracker = s.tracker ∧ (s.handEvaluation i l t).capture = s.capture
      ∧ (s.handEvaluation i l t).driver = s.driver ∧ (s.handEvaluation i l t).link = s.link
      ∧ (s.handEvaluation i l t).time = s.time ∧ (s.handEvaluation i l t).store = s.store
      ∧ (s.handEvaluation i l t).cause = s.cause ∧ (s.handEvaluation i l t).source = s.source := by
  simp [State.handEvaluation]

@[simp] theorem State.evaluate_frame (i : Fin 16) (ev : Option SecondHandOff) (t : Stamp) (s : State) :
    (s.evaluate i ev t).pending = s.pending ∧ (s.evaluate i ev t).cfg = s.cfg
      ∧ (s.evaluate i ev t).snapshots = s.snapshots ∧ (s.evaluate i ev t).intake = s.intake
      ∧ (s.evaluate i ev t).inputs = s.inputs ∧ (s.evaluate i ev t).channels = s.channels
      ∧ (s.evaluate i ev t).field = s.field ∧ (s.evaluate i ev t).tracker = s.tracker
      ∧ (s.evaluate i ev t).capture = s.capture ∧ (s.evaluate i ev t).driver = s.driver
      ∧ (s.evaluate i ev t).time = s.time ∧ (s.evaluate i ev t).store = s.store
      ∧ (s.evaluate i ev t).cause = s.cause ∧ (s.evaluate i ev t).source = s.source := by
  and_intros <;> (simp only [State.evaluate]; (repeat' split) <;> simp)

/-! ### Episode Tracker -/

@[simp] theorem State.openEpisode_frame (t : Stamp) (s : State) :
    (s.openEpisode t).pending = s.pending ∧ (s.openEpisode t).cfg = s.cfg ∧ (s.openEpisode t).live = s.live
      ∧ (s.openEpisode t).snapshots = s.snapshots ∧ (s.openEpisode t).intake = s.intake
      ∧ (s.openEpisode t).inputs = s.inputs ∧ (s.openEpisode t).channels = s.channels
      ∧ (s.openEpisode t).field = s.field ∧ (s.openEpisode t).capture = s.capture
      ∧ (s.openEpisode t).driver = s.driver ∧ (s.openEpisode t).time = s.time ∧ (s.openEpisode t).store = s.store
      ∧ (s.openEpisode t).cause = s.cause ∧ (s.openEpisode t).source = s.source := by
  simp [State.openEpisode]

@[simp] theorem State.closeEpisodeRecord_frame (e : Episode) (t : Stamp) (c : CloseCause) (s : State) :
    (s.closeEpisodeRecord e t c).pending = s.pending ∧ (s.closeEpisodeRecord e t c).cfg = s.cfg
      ∧ (s.closeEpisodeRecord e t c).live = s.live ∧ (s.closeEpisodeRecord e t c).snapshots = s.snapshots
      ∧ (s.closeEpisodeRecord e t c).intake = s.intake ∧ (s.closeEpisodeRecord e t c).inputs = s.inputs
      ∧ (s.closeEpisodeRecord e t c).channels = s.channels ∧ (s.closeEpisodeRecord e t c).field = s.field
      ∧ (s.closeEpisodeRecord e t c).capture = s.capture ∧ (s.closeEpisodeRecord e t c).driver = s.driver
      ∧ (s.closeEpisodeRecord e t c).time = s.time ∧ (s.closeEpisodeRecord e t c).store = s.store
      ∧ (s.closeEpisodeRecord e t c).cause = s.cause ∧ (s.closeEpisodeRecord e t c).source = s.source := by
  simp [State.closeEpisodeRecord]

@[simp] theorem State.trackerSecond_frame (t : Stamp) (s : State) :
    (s.trackerSecond t).pending = s.pending ∧ (s.trackerSecond t).cfg = s.cfg ∧ (s.trackerSecond t).live = s.live
      ∧ (s.trackerSecond t).snapshots = s.snapshots ∧ (s.trackerSecond t).intake = s.intake
      ∧ (s.trackerSecond t).inputs = s.inputs ∧ (s.trackerSecond t).channels = s.channels
      ∧ (s.trackerSecond t).field = s.field ∧ (s.trackerSecond t).capture = s.capture
      ∧ (s.trackerSecond t).driver = s.driver ∧ (s.trackerSecond t).time = s.time
      ∧ (s.trackerSecond t).store = s.store ∧ (s.trackerSecond t).cause = s.cause
      ∧ (s.trackerSecond t).source = s.source := by
  and_intros <;> (simp only [State.trackerSecond]; (repeat' split) <;> simp)

@[simp] theorem State.trackEvaluation_frame (h : EvaluationHandOff) (s : State) :
    (s.trackEvaluation h).pending = s.pending ∧ (s.trackEvaluation h).cfg = s.cfg
      ∧ (s.trackEvaluation h).live = s.live ∧ (s.trackEvaluation h).snapshots = s.snapshots
      ∧ (s.trackEvaluation h).intake = s.intake ∧ (s.trackEvaluation h).inputs = s.inputs
      ∧ (s.trackEvaluation h).channels = s.channels ∧ (s.trackEvaluation h).field = s.field
      ∧ (s.trackEvaluation h).capture = s.capture ∧ (s.trackEvaluation h).driver = s.driver
      ∧ (s.trackEvaluation h).link = s.link ∧ (s.trackEvaluation h).time = s.time
      ∧ (s.trackEvaluation h).store = s.store ∧ (s.trackEvaluation h).cause = s.cause
      ∧ (s.trackEvaluation h).source = s.source ∧ (s.trackEvaluation h).handOffs = s.handOffs := by
  simp [State.trackEvaluation]

@[simp] theorem State.trackCooling_frame (i : Fin 16) (heat : Nat) (s : State) :
    (s.trackCooling i heat).pending = s.pending ∧ (s.trackCooling i heat).cfg = s.cfg
      ∧ (s.trackCooling i heat).live = s.live ∧ (s.trackCooling i heat).snapshots = s.snapshots
      ∧ (s.trackCooling i heat).intake = s.intake ∧ (s.trackCooling i heat).inputs = s.inputs
      ∧ (s.trackCooling i heat).channels = s.channels ∧ (s.trackCooling i heat).field = s.field
      ∧ (s.trackCooling i heat).capture = s.capture ∧ (s.trackCooling i heat).driver = s.driver
      ∧ (s.trackCooling i heat).link = s.link ∧ (s.trackCooling i heat).time = s.time
      ∧ (s.trackCooling i heat).store = s.store ∧ (s.trackCooling i heat).cause = s.cause
      ∧ (s.trackCooling i heat).source = s.source ∧ (s.trackCooling i heat).handOffs = s.handOffs := by
  and_intros <;> (simp only [State.trackCooling]; split <;> simp)

/-! ### Contact Driver -/

@[simp] theorem State.driveOutputs_frame (s : State) :
    (s.driveOutputs).pending = s.pending ∧ (s.driveOutputs).cfg = s.cfg ∧ (s.driveOutputs).live = s.live
      ∧ (s.driveOutputs).snapshots = s.snapshots ∧ (s.driveOutputs).intake = s.intake
      ∧ (s.driveOutputs).inputs = s.inputs ∧ (s.driveOutputs).channels = s.channels
      ∧ (s.driveOutputs).field = s.field ∧ (s.driveOutputs).tracker = s.tracker
      ∧ (s.driveOutputs).capture = s.capture ∧ (s.driveOutputs).link = s.link ∧ (s.driveOutputs).time = s.time
      ∧ (s.driveOutputs).store = s.store ∧ (s.driveOutputs).cause = s.cause ∧ (s.driveOutputs).source = s.source
      ∧ (s.driveOutputs).handOffs = s.handOffs := by
  simp [State.driveOutputs]

@[simp] theorem State.judgeContacts_frame (s : State) :
    (s.judgeContacts).pending = s.pending ∧ (s.judgeContacts).cfg = s.cfg ∧ (s.judgeContacts).live = s.live
      ∧ (s.judgeContacts).snapshots = s.snapshots ∧ (s.judgeContacts).intake = s.intake
      ∧ (s.judgeContacts).inputs = s.inputs ∧ (s.judgeContacts).channels = s.channels
      ∧ (s.judgeContacts).field = s.field ∧ (s.judgeContacts).tracker = s.tracker
      ∧ (s.judgeContacts).capture = s.capture ∧ (s.judgeContacts).link = s.link ∧ (s.judgeContacts).time = s.time
      ∧ (s.judgeContacts).store = s.store ∧ (s.judgeContacts).cause = s.cause ∧ (s.judgeContacts).source = s.source
      ∧ (s.judgeContacts).handOffs = s.handOffs := by
  simp [State.judgeContacts]

@[simp] theorem State.acknowledgeContacts_frame (s : State) :
    (s.acknowledgeContacts).pending = s.pending ∧ (s.acknowledgeContacts).cfg = s.cfg
      ∧ (s.acknowledgeContacts).live = s.live ∧ (s.acknowledgeContacts).snapshots = s.snapshots
      ∧ (s.acknowledgeContacts).intake = s.intake ∧ (s.acknowledgeContacts).inputs = s.inputs
      ∧ (s.acknowledgeContacts).channels = s.channels ∧ (s.acknowledgeContacts).field = s.field
      ∧ (s.acknowledgeContacts).tracker = s.tracker ∧ (s.acknowledgeContacts).capture = s.capture
      ∧ (s.acknowledgeContacts).link = s.link ∧ (s.acknowledgeContacts).time = s.time
      ∧ (s.acknowledgeContacts).store = s.store ∧ (s.acknowledgeContacts).cause = s.cause
      ∧ (s.acknowledgeContacts).source = s.source ∧ (s.acknowledgeContacts).handOffs = s.handOffs := by
  simp [State.acknowledgeContacts]

@[simp] theorem State.reportChanged_frame (c : Fin 16 → Bool) (s : State) :
    (s.reportChanged c).pending = s.pending ∧ (s.reportChanged c).cfg = s.cfg ∧ (s.reportChanged c).live = s.live
      ∧ (s.reportChanged c).snapshots = s.snapshots ∧ (s.reportChanged c).intake = s.intake
      ∧ (s.reportChanged c).inputs = s.inputs ∧ (s.reportChanged c).channels = s.channels
      ∧ (s.reportChanged c).field = s.field ∧ (s.reportChanged c).tracker = s.tracker
      ∧ (s.reportChanged c).capture = s.capture ∧ (s.reportChanged c).driver = s.driver
      ∧ (s.reportChanged c).link = s.link ∧ (s.reportChanged c).time = s.time
      ∧ (s.reportChanged c).store = s.store ∧ (s.reportChanged c).cause = s.cause
      ∧ (s.reportChanged c).source = s.source := by
  simp [State.reportChanged]

@[simp] theorem State.acknowledgeTransformers_frame (m : TransformerSet) (s : State) :
    (s.acknowledgeTransformers m).pending = s.pending ∧ (s.acknowledgeTransformers m).cfg = s.cfg
      ∧ (s.acknowledgeTransformers m).snapshots = s.snapshots ∧ (s.acknowledgeTransformers m).intake = s.intake
      ∧ (s.acknowledgeTransformers m).inputs = s.inputs ∧ (s.acknowledgeTransformers m).channels = s.channels
      ∧ (s.acknowledgeTransformers m).field = s.field ∧ (s.acknowledgeTransformers m).tracker = s.tracker
      ∧ (s.acknowledgeTransformers m).capture = s.capture ∧ (s.acknowledgeTransformers m).driver = s.driver
      ∧ (s.acknowledgeTransformers m).link = s.link ∧ (s.acknowledgeTransformers m).time = s.time
      ∧ (s.acknowledgeTransformers m).store = s.store ∧ (s.acknowledgeTransformers m).cause = s.cause
      ∧ (s.acknowledgeTransformers m).source = s.source := by
  simp [State.acknowledgeTransformers]

@[simp] theorem State.linkHeard_frame (s : State) :
    (s.linkHeard).pending = s.pending ∧ (s.linkHeard).cfg = s.cfg ∧ (s.linkHeard).live = s.live
      ∧ (s.linkHeard).snapshots = s.snapshots ∧ (s.linkHeard).intake = s.intake ∧ (s.linkHeard).inputs = s.inputs
      ∧ (s.linkHeard).channels = s.channels ∧ (s.linkHeard).field = s.field ∧ (s.linkHeard).tracker = s.tracker
      ∧ (s.linkHeard).capture = s.capture ∧ (s.linkHeard).link = s.link ∧ (s.linkHeard).time = s.time
      ∧ (s.linkHeard).store = s.store ∧ (s.linkHeard).cause = s.cause ∧ (s.linkHeard).source = s.source := by
  and_intros <;> (simp only [State.linkHeard]; (repeat' split) <;> simp)

@[simp] theorem State.linkSilenceWritten_frame (s : State) :
    (s.linkSilenceWritten).pending = s.pending ∧ (s.linkSilenceWritten).cfg = s.cfg
      ∧ (s.linkSilenceWritten).live = s.live ∧ (s.linkSilenceWritten).snapshots = s.snapshots
      ∧ (s.linkSilenceWritten).intake = s.intake ∧ (s.linkSilenceWritten).inputs = s.inputs
      ∧ (s.linkSilenceWritten).channels = s.channels ∧ (s.linkSilenceWritten).field = s.field
      ∧ (s.linkSilenceWritten).tracker = s.tracker ∧ (s.linkSilenceWritten).capture = s.capture
      ∧ (s.linkSilenceWritten).link = s.link ∧ (s.linkSilenceWritten).time = s.time
      ∧ (s.linkSilenceWritten).store = s.store ∧ (s.linkSilenceWritten).cause = s.cause
      ∧ (s.linkSilenceWritten).source = s.source := by
  and_intros <;> (simp only [State.linkSilenceWritten]; (repeat' split) <;> simp)

@[simp] theorem State.linkSecond_frame (t : Stamp) (s : State) :
    (s.linkSecond t).pending = s.pending ∧ (s.linkSecond t).cfg = s.cfg ∧ (s.linkSecond t).live = s.live
      ∧ (s.linkSecond t).snapshots = s.snapshots ∧ (s.linkSecond t).intake = s.intake
      ∧ (s.linkSecond t).inputs = s.inputs ∧ (s.linkSecond t).channels = s.channels
      ∧ (s.linkSecond t).field = s.field ∧ (s.linkSecond t).tracker = s.tracker
      ∧ (s.linkSecond t).capture = s.capture ∧ (s.linkSecond t).time = s.time ∧ (s.linkSecond t).store = s.store
      ∧ (s.linkSecond t).cause = s.cause ∧ (s.linkSecond t).source = s.source := by
  and_intros <;> (simp only [State.linkSecond]; (repeat' split) <;> simp)

@[simp] theorem State.setPanel_frame (p : PanelState) (b : Bool) (s : State) :
    (s.setPanel p b).pending = s.pending ∧ (s.setPanel p b).cfg = s.cfg ∧ (s.setPanel p b).live = s.live
      ∧ (s.setPanel p b).snapshots = s.snapshots ∧ (s.setPanel p b).intake = s.intake
      ∧ (s.setPanel p b).inputs = s.inputs ∧ (s.setPanel p b).channels = s.channels
      ∧ (s.setPanel p b).field = s.field ∧ (s.setPanel p b).tracker = s.tracker
      ∧ (s.setPanel p b).capture = s.capture ∧ (s.setPanel p b).link = s.link ∧ (s.setPanel p b).time = s.time
      ∧ (s.setPanel p b).store = s.store ∧ (s.setPanel p b).cause = s.cause ∧ (s.setPanel p b).source = s.source
      ∧ (s.setPanel p b).handOffs = s.handOffs := by
  simp [State.setPanel]

@[simp] theorem State.panelPressed_frame (s : State) :
    (s.panelPressed).pending = s.pending ∧ (s.panelPressed).cfg = s.cfg ∧ (s.panelPressed).live = s.live
      ∧ (s.panelPressed).snapshots = s.snapshots ∧ (s.panelPressed).intake = s.intake
      ∧ (s.panelPressed).inputs = s.inputs ∧ (s.panelPressed).channels = s.channels
      ∧ (s.panelPressed).field = s.field ∧ (s.panelPressed).tracker = s.tracker
      ∧ (s.panelPressed).capture = s.capture ∧ (s.panelPressed).link = s.link ∧ (s.panelPressed).time = s.time
      ∧ (s.panelPressed).store = s.store ∧ (s.panelPressed).cause = s.cause ∧ (s.panelPressed).source = s.source
      ∧ (s.panelPressed).handOffs = s.handOffs := by
  and_intros <;> (simp only [State.panelPressed]; (repeat' split) <;> simp)

@[simp] theorem State.panelReleased_frame (s : State) :
    (s.panelReleased).pending = s.pending ∧ (s.panelReleased).cfg = s.cfg
      ∧ (s.panelReleased).snapshots = s.snapshots ∧ (s.panelReleased).intake = s.intake
      ∧ (s.panelReleased).inputs = s.inputs ∧ (s.panelReleased).channels = s.channels
      ∧ (s.panelReleased).field = s.field ∧ (s.panelReleased).tracker = s.tracker
      ∧ (s.panelReleased).capture = s.capture ∧ (s.panelReleased).link = s.link ∧ (s.panelReleased).time = s.time
      ∧ (s.panelReleased).store = s.store ∧ (s.panelReleased).cause = s.cause ∧ (s.panelReleased).source = s.source := by
  and_intros <;> (simp only [State.panelReleased]; (repeat' split) <;> simp)

@[simp] theorem State.panelLocked_frame (s : State) :
    (s.panelLocked).pending = s.pending ∧ (s.panelLocked).cfg = s.cfg ∧ (s.panelLocked).live = s.live
      ∧ (s.panelLocked).snapshots = s.snapshots ∧ (s.panelLocked).intake = s.intake
      ∧ (s.panelLocked).inputs = s.inputs ∧ (s.panelLocked).channels = s.channels ∧ (s.panelLocked).field = s.field
      ∧ (s.panelLocked).tracker = s.tracker ∧ (s.panelLocked).capture = s.capture ∧ (s.panelLocked).link = s.link
      ∧ (s.panelLocked).time = s.time ∧ (s.panelLocked).store = s.store ∧ (s.panelLocked).cause = s.cause
      ∧ (s.panelLocked).source = s.source ∧ (s.panelLocked).handOffs = s.handOffs := by
  and_intros <;> (simp only [State.panelLocked]; (repeat' split) <;> simp)

/-! ### Transformer Table -/

@[simp] theorem State.disableTransformer_frame (i : Fin 16) (s : State) :
    (s.disableTransformer i).pending = s.pending ∧ (s.disableTransformer i).cfg = s.cfg
      ∧ (s.disableTransformer i).snapshots = s.snapshots ∧ (s.disableTransformer i).intake = s.intake
      ∧ (s.disableTransformer i).inputs = s.inputs ∧ (s.disableTransformer i).field = s.field
      ∧ (s.disableTransformer i).tracker = s.tracker ∧ (s.disableTransformer i).capture = s.capture
      ∧ (s.disableTransformer i).driver = s.driver ∧ (s.disableTransformer i).link = s.link
      ∧ (s.disableTransformer i).time = s.time ∧ (s.disableTransformer i).store = s.store
      ∧ (s.disableTransformer i).cause = s.cause ∧ (s.disableTransformer i).source = s.source := by
  simp [State.disableTransformer]

/-- What the table has taken of input EN*i*: the level before the first change that waits, and with none waiting the
debounced state. -/
theorem State.enTaken_eq (i : Fin 16) (s : State) :
    ((∀ r ∈ s.handOffs.enReports, r.transformer ≠ i) → s.enTaken i = s.inputs.en[i].debounced) ∧
    ∀ (before after : List EnReport) (level : Bool), s.handOffs.enReports = before ++ ⟨i, level⟩ :: after →
      (∀ r ∈ before, r.transformer ≠ i) → s.enTaken i = !level := by
  constructor
  · intro h
    have : (s.handOffs.enReports.find? fun r => r.transformer == i) = none := by simpa using h
    simp [State.enTaken, this]
  · intro before after level h first
    have : (before.find? fun r => r.transformer == i) = none := by simpa using first
    simp [State.enTaken, h, this]

@[simp] theorem State.enableTransformer_frame (i : Fin 16) (s : State) :
    (s.enableTransformer i).pending = s.pending ∧ (s.enableTransformer i).cfg = s.cfg
      ∧ (s.enableTransformer i).snapshots = s.snapshots ∧ (s.enableTransformer i).intake = s.intake
      ∧ (s.enableTransformer i).inputs = s.inputs ∧ (s.enableTransformer i).field = s.field
      ∧ (s.enableTransformer i).tracker = s.tracker ∧ (s.enableTransformer i).capture = s.capture
      ∧ (s.enableTransformer i).driver = s.driver ∧ (s.enableTransformer i).time = s.time
      ∧ (s.enableTransformer i).store = s.store ∧ (s.enableTransformer i).cause = s.cause
      ∧ (s.enableTransformer i).source = s.source := by
  and_intros <;> (simp only [State.enableTransformer]; (repeat' split) <;> simp)

@[simp] theorem State.energise_frame (i : Fin 16) (s : State) :
    (s.energise i).pending = s.pending ∧ (s.energise i).cfg = s.cfg ∧ (s.energise i).snapshots = s.snapshots
      ∧ (s.energise i).intake = s.intake ∧ (s.energise i).inputs = s.inputs ∧ (s.energise i).field = s.field
      ∧ (s.energise i).tracker = s.tracker ∧ (s.energise i).capture = s.capture ∧ (s.energise i).driver = s.driver
      ∧ (s.energise i).time = s.time ∧ (s.energise i).store = s.store ∧ (s.energise i).cause = s.cause
      ∧ (s.energise i).source = s.source := by
  and_intros <;> (simp only [State.energise]; (repeat' split) <;> simp)

@[simp] theorem State.deenergise_frame (i : Fin 16) (s : State) :
    (s.deenergise i).pending = s.pending ∧ (s.deenergise i).cfg = s.cfg ∧ (s.deenergise i).snapshots = s.snapshots
      ∧ (s.deenergise i).intake = s.intake ∧ (s.deenergise i).inputs = s.inputs ∧ (s.deenergise i).field = s.field
      ∧ (s.deenergise i).tracker = s.tracker ∧ (s.deenergise i).capture = s.capture
      ∧ (s.deenergise i).driver = s.driver ∧ (s.deenergise i).time = s.time ∧ (s.deenergise i).store = s.store
      ∧ (s.deenergise i).cause = s.cause ∧ (s.deenergise i).source = s.source := by
  and_intros <;> (simp only [State.deenergise]; (repeat' split) <;> simp)

@[simp] theorem State.takeSecond_frame (h : SecondHandOff) (s : State) :
    (s.takeSecond h).pending = s.pending ∧ (s.takeSecond h).cfg = s.cfg ∧ (s.takeSecond h).snapshots = s.snapshots
      ∧ (s.takeSecond h).intake = s.intake ∧ (s.takeSecond h).inputs = s.inputs ∧ (s.takeSecond h).field = s.field
      ∧ (s.takeSecond h).tracker = s.tracker ∧ (s.takeSecond h).capture = s.capture
      ∧ (s.takeSecond h).driver = s.driver ∧ (s.takeSecond h).time = s.time ∧ (s.takeSecond h).store = s.store
      ∧ (s.takeSecond h).cause = s.cause ∧ (s.takeSecond h).source = s.source := by
  and_intros <;> (simp only [State.takeSecond]; (repeat' split) <;> simp)

@[simp] theorem State.recordSecond_frame (i : Fin 16) (t : Stamp) (s : State) :
    (s.recordSecond i t).pending = s.pending ∧ (s.recordSecond i t).cfg = s.cfg
      ∧ (s.recordSecond i t).snapshots = s.snapshots ∧ (s.recordSecond i t).intake = s.intake
      ∧ (s.recordSecond i t).inputs = s.inputs ∧ (s.recordSecond i t).field = s.field
      ∧ (s.recordSecond i t).capture = s.capture ∧ (s.recordSecond i t).driver = s.driver
      ∧ (s.recordSecond i t).time = s.time ∧ (s.recordSecond i t).store = s.store
      ∧ (s.recordSecond i t).cause = s.cause ∧ (s.recordSecond i t).source = s.source := by
  and_intros <;> (simp only [State.recordSecond]; (repeat' split) <;> simp)

/-! ### Clock seconds -/

@[simp] theorem State.takeRecordTick_frame (i : Fin 16) (s : State) :
    (s.takeRecordTick i).pending = s.pending ∧ (s.takeRecordTick i).cfg = s.cfg
      ∧ (s.takeRecordTick i).snapshots = s.snapshots ∧ (s.takeRecordTick i).intake = s.intake
      ∧ (s.takeRecordTick i).inputs = s.inputs ∧ (s.takeRecordTick i).field = s.field
      ∧ (s.takeRecordTick i).capture = s.capture ∧ (s.takeRecordTick i).driver = s.driver
      ∧ (s.takeRecordTick i).time = s.time ∧ (s.takeRecordTick i).store = s.store
      ∧ (s.takeRecordTick i).cause = s.cause ∧ (s.takeRecordTick i).source = s.source := by
  and_intros <;> (simp only [State.takeRecordTick]; (repeat' split) <;> simp)

@[simp] theorem State.takeFieldTick_frame (s : State) :
    (s.takeFieldTick).pending = s.pending ∧ (s.takeFieldTick).cfg = s.cfg ∧ (s.takeFieldTick).live = s.live
      ∧ (s.takeFieldTick).snapshots = s.snapshots ∧ (s.takeFieldTick).intake = s.intake
      ∧ (s.takeFieldTick).inputs = s.inputs ∧ (s.takeFieldTick).channels = s.channels
      ∧ (s.takeFieldTick).tracker = s.tracker ∧ (s.takeFieldTick).capture = s.capture
      ∧ (s.takeFieldTick).driver = s.driver ∧ (s.takeFieldTick).time = s.time ∧ (s.takeFieldTick).store = s.store
      ∧ (s.takeFieldTick).cause = s.cause ∧ (s.takeFieldTick).source = s.source := by
  and_intros <;> (simp only [State.takeFieldTick]; (repeat' split) <;> simp)

@[simp] theorem State.takeTrackerTick_frame (s : State) :
    (s.takeTrackerTick).pending = s.pending ∧ (s.takeTrackerTick).cfg = s.cfg ∧ (s.takeTrackerTick).live = s.live
      ∧ (s.takeTrackerTick).snapshots = s.snapshots ∧ (s.takeTrackerTick).intake = s.intake
      ∧ (s.takeTrackerTick).inputs = s.inputs ∧ (s.takeTrackerTick).channels = s.channels
      ∧ (s.takeTrackerTick).field = s.field ∧ (s.takeTrackerTick).capture = s.capture
      ∧ (s.takeTrackerTick).driver = s.driver ∧ (s.takeTrackerTick).time = s.time
      ∧ (s.takeTrackerTick).store = s.store ∧ (s.takeTrackerTick).cause = s.cause
      ∧ (s.takeTrackerTick).source = s.source := by
  and_intros <;> (simp only [State.takeTrackerTick]; (repeat' split) <;> simp)

@[simp] theorem State.takeLinkTick_frame (s : State) :
    (s.takeLinkTick).pending = s.pending ∧ (s.takeLinkTick).cfg = s.cfg ∧ (s.takeLinkTick).live = s.live
      ∧ (s.takeLinkTick).snapshots = s.snapshots ∧ (s.takeLinkTick).intake = s.intake
      ∧ (s.takeLinkTick).inputs = s.inputs ∧ (s.takeLinkTick).channels = s.channels
      ∧ (s.takeLinkTick).field = s.field ∧ (s.takeLinkTick).tracker = s.tracker
      ∧ (s.takeLinkTick).capture = s.capture ∧ (s.takeLinkTick).time = s.time ∧ (s.takeLinkTick).store = s.store
      ∧ (s.takeLinkTick).cause = s.cause ∧ (s.takeLinkTick).source = s.source := by
  and_intros <;> (simp only [State.takeLinkTick]; (repeat' split) <;> simp)

@[simp] theorem State.recordClock_frame (t : Stamp) (i : Fin 16) (s : State) :
    (s.recordClock t i).pending = s.pending ∧ (s.recordClock t i).cfg = s.cfg
      ∧ (s.recordClock t i).snapshots = s.snapshots ∧ (s.recordClock t i).intake = s.intake
      ∧ (s.recordClock t i).inputs = s.inputs ∧ (s.recordClock t i).field = s.field
      ∧ (s.recordClock t i).capture = s.capture ∧ (s.recordClock t i).driver = s.driver
      ∧ (s.recordClock t i).time = s.time ∧ (s.recordClock t i).store = s.store
      ∧ (s.recordClock t i).cause = s.cause ∧ (s.recordClock t i).source = s.source := by
  and_intros <;> (simp only [State.recordClock]; (repeat' split) <;> simp)

@[simp] theorem State.fieldClock_frame (t : Stamp) (s : State) :
    (s.fieldClock t).pending = s.pending ∧ (s.fieldClock t).cfg = s.cfg ∧ (s.fieldClock t).live = s.live
      ∧ (s.fieldClock t).snapshots = s.snapshots ∧ (s.fieldClock t).intake = s.intake
      ∧ (s.fieldClock t).inputs = s.inputs ∧ (s.fieldClock t).channels = s.channels
      ∧ (s.fieldClock t).tracker = s.tracker ∧ (s.fieldClock t).capture = s.capture
      ∧ (s.fieldClock t).driver = s.driver ∧ (s.fieldClock t).time = s.time ∧ (s.fieldClock t).store = s.store
      ∧ (s.fieldClock t).cause = s.cause ∧ (s.fieldClock t).source = s.source := by
  and_intros <;> (simp only [State.fieldClock]; (repeat' split) <;> simp)

@[simp] theorem State.trackerClock_frame (t : Stamp) (s : State) :
    (s.trackerClock t).pending = s.pending ∧ (s.trackerClock t).cfg = s.cfg ∧ (s.trackerClock t).live = s.live
      ∧ (s.trackerClock t).snapshots = s.snapshots ∧ (s.trackerClock t).intake = s.intake
      ∧ (s.trackerClock t).inputs = s.inputs ∧ (s.trackerClock t).channels = s.channels
      ∧ (s.trackerClock t).field = s.field ∧ (s.trackerClock t).capture = s.capture
      ∧ (s.trackerClock t).driver = s.driver ∧ (s.trackerClock t).time = s.time ∧ (s.trackerClock t).store = s.store
      ∧ (s.trackerClock t).cause = s.cause ∧ (s.trackerClock t).source = s.source := by
  and_intros <;> (simp only [State.trackerClock]; (repeat' split) <;> simp)

@[simp] theorem State.settleTracker_frame (s : State) :
    (s.settleTracker).pending = s.pending ∧ (s.settleTracker).cfg = s.cfg ∧ (s.settleTracker).live = s.live
      ∧ (s.settleTracker).snapshots = s.snapshots ∧ (s.settleTracker).intake = s.intake
      ∧ (s.settleTracker).inputs = s.inputs ∧ (s.settleTracker).channels = s.channels
      ∧ (s.settleTracker).field = s.field ∧ (s.settleTracker).capture = s.capture
      ∧ (s.settleTracker).driver = s.driver ∧ (s.settleTracker).time = s.time ∧ (s.settleTracker).store = s.store
      ∧ (s.settleTracker).cause = s.cause ∧ (s.settleTracker).source = s.source := by
  unfold State.settleTracker
  split <;> simp

@[simp] theorem State.takeHandOff_frame (h : EvaluationHandOff) (s : State) :
    (s.takeHandOff h).pending = s.pending ∧ (s.takeHandOff h).cfg = s.cfg ∧ (s.takeHandOff h).live = s.live
      ∧ (s.takeHandOff h).snapshots = s.snapshots ∧ (s.takeHandOff h).intake = s.intake
      ∧ (s.takeHandOff h).inputs = s.inputs ∧ (s.takeHandOff h).channels = s.channels
      ∧ (s.takeHandOff h).field = s.field ∧ (s.takeHandOff h).capture = s.capture
      ∧ (s.takeHandOff h).driver = s.driver ∧ (s.takeHandOff h).time = s.time ∧ (s.takeHandOff h).store = s.store
      ∧ (s.takeHandOff h).cause = s.cause ∧ (s.takeHandOff h).source = s.source := by
  unfold State.takeHandOff
  split <;> simp

/-- While an episode is open a hand-off makes the tracker take no clock second. -/
theorem State.takeHandOff_of_open {s : State} {e : Episode} (h : EvaluationHandOff) (he : s.tracker.openEpisode = some e) :
    s.takeHandOff h = s.trackEvaluation h := by
  simp [State.takeHandOff, he]

/-- Settling lets the Field Estimator and the Episode Tracker take a second that waits, and touches what those two do. -/
@[simp] theorem State.settleClock_frame (s : State) :
    (s.settleClock).pending = s.pending ∧ (s.settleClock).cfg = s.cfg ∧ (s.settleClock).live = s.live
      ∧ (s.settleClock).snapshots = s.snapshots ∧ (s.settleClock).intake = s.intake
      ∧ (s.settleClock).inputs = s.inputs ∧ (s.settleClock).channels = s.channels
      ∧ (s.settleClock).capture = s.capture ∧ (s.settleClock).driver = s.driver ∧ (s.settleClock).time = s.time
      ∧ (s.settleClock).store = s.store ∧ (s.settleClock).cause = s.cause ∧ (s.settleClock).source = s.source := by
  and_intros <;> (simp only [State.settleClock]; (repeat' split) <;> simp)

/-- Nothing settles while a stand-in evaluation has still to take its clock second. -/
theorem State.settleClock_of_recordWaits {s : State} (h : s.recordWaits = true) : s.settleClock = s := by
  simp [State.settleClock, State.settleTracker, State.fieldWaits, State.trackerWaits, h]

/-- Nothing settles where neither block has a clock second still to take. -/
theorem State.settleClock_of_none {s : State} (hf : s.handOffs.fieldTick = none) (ht : s.handOffs.trackerTick = none) :
    s.settleClock = s := by
  have hF : s.takeFieldTick = s := by simp [State.takeFieldTick, hf]
  have hT : s.takeTrackerTick = s := by simp [State.takeTrackerTick, ht]
  simp [State.settleClock, State.settleTracker, hF, hT]

@[simp] theorem State.linkClock_frame (t : Stamp) (s : State) :
    (s.linkClock t).pending = s.pending ∧ (s.linkClock t).cfg = s.cfg ∧ (s.linkClock t).live = s.live
      ∧ (s.linkClock t).snapshots = s.snapshots ∧ (s.linkClock t).intake = s.intake
      ∧ (s.linkClock t).inputs = s.inputs ∧ (s.linkClock t).channels = s.channels ∧ (s.linkClock t).field = s.field
      ∧ (s.linkClock t).tracker = s.tracker ∧ (s.linkClock t).capture = s.capture ∧ (s.linkClock t).time = s.time
      ∧ (s.linkClock t).store = s.store ∧ (s.linkClock t).cause = s.cause ∧ (s.linkClock t).source = s.source := by
  and_intros <;> (simp only [State.linkClock]; (repeat' split) <;> simp)

@[simp] theorem State.missOverdue_frame (s : State) :
    (s.missOverdue).pending = s.pending ∧ (s.missOverdue).cfg = s.cfg ∧ (s.missOverdue).live = s.live
      ∧ (s.missOverdue).snapshots = s.snapshots ∧ (s.missOverdue).intake = s.intake
      ∧ (s.missOverdue).inputs = s.inputs ∧ (s.missOverdue).channels = s.channels ∧ (s.missOverdue).field = s.field
      ∧ (s.missOverdue).tracker = s.tracker ∧ (s.missOverdue).driver = s.driver ∧ (s.missOverdue).time = s.time
      ∧ (s.missOverdue).store = s.store ∧ (s.missOverdue).cause = s.cause ∧ (s.missOverdue).source = s.source
      ∧ (s.missOverdue).handOffs = s.handOffs := by
  exact ⟨foldl_same State.pending _ (fun _ _ => by split <;> simp) _ _,
    foldl_same State.cfg _ (fun _ _ => by split <;> simp) _ _,
    foldl_same State.live _ (fun _ _ => by split <;> simp) _ _,
    foldl_same State.snapshots _ (fun _ _ => by split <;> simp) _ _,
    foldl_same State.intake _ (fun _ _ => by split <;> simp) _ _,
    foldl_same State.inputs _ (fun _ _ => by split <;> simp) _ _,
    foldl_same State.channels _ (fun _ _ => by split <;> simp) _ _,
    foldl_same State.field _ (fun _ _ => by split <;> simp) _ _,
    foldl_same State.tracker _ (fun _ _ => by split <;> simp) _ _,
    foldl_same State.driver _ (fun _ _ => by split <;> simp) _ _,
    foldl_same State.time _ (fun _ _ => by split <;> simp) _ _,
    foldl_same State.store _ (fun _ _ => by split <;> simp) _ _,
    foldl_same State.cause _ (fun _ _ => by split <;> simp) _ _,
    foldl_same State.source _ (fun _ _ => by split <;> simp) _ _,
    foldl_same State.handOffs _ (fun _ _ => by split <;> simp) _ _⟩

@[simp] theorem State.captureSecond_frame (t : Stamp) (s : State) :
    (s.captureSecond t).pending = s.pending ∧ (s.captureSecond t).cfg = s.cfg ∧ (s.captureSecond t).live = s.live
      ∧ (s.captureSecond t).snapshots = s.snapshots ∧ (s.captureSecond t).intake = s.intake
      ∧ (s.captureSecond t).inputs = s.inputs ∧ (s.captureSecond t).channels = s.channels
      ∧ (s.captureSecond t).field = s.field ∧ (s.captureSecond t).tracker = s.tracker
      ∧ (s.captureSecond t).driver = s.driver ∧ (s.captureSecond t).time = s.time
      ∧ (s.captureSecond t).store = s.store ∧ (s.captureSecond t).cause = s.cause
      ∧ (s.captureSecond t).source = s.source ∧ (s.captureSecond t).handOffs = s.handOffs := by
  simp [State.captureSecond]

@[simp] theorem State.blocksClock_frame (t : Stamp) (s : State) :
    (s.blocksClock t).pending = s.pending ∧ (s.blocksClock t).cfg = s.cfg
      ∧ (s.blocksClock t).snapshots = s.snapshots ∧ (s.blocksClock t).intake = s.intake
      ∧ (s.blocksClock t).inputs = s.inputs ∧ (s.blocksClock t).time = s.time ∧ (s.blocksClock t).store = s.store
      ∧ (s.blocksClock t).cause = s.cause ∧ (s.blocksClock t).source = s.source := by
  have h : ∀ (l : List (Fin 16)) (u : State),
      (l.foldl (fun u i => u.recordClock t i) u).pending = u.pending
        ∧ (l.foldl (fun u i => u.recordClock t i) u).cfg = u.cfg
        ∧ (l.foldl (fun u i => u.recordClock t i) u).snapshots = u.snapshots
        ∧ (l.foldl (fun u i => u.recordClock t i) u).intake = u.intake
        ∧ (l.foldl (fun u i => u.recordClock t i) u).inputs = u.inputs
        ∧ (l.foldl (fun u i => u.recordClock t i) u).time = u.time
        ∧ (l.foldl (fun u i => u.recordClock t i) u).store = u.store
        ∧ (l.foldl (fun u i => u.recordClock t i) u).cause = u.cause
        ∧ (l.foldl (fun u i => u.recordClock t i) u).source = u.source := fun l u =>
    ⟨foldl_same State.pending _ (fun _ _ => by simp) _ _,
      foldl_same State.cfg _ (fun _ _ => by simp) _ _,
      foldl_same State.snapshots _ (fun _ _ => by simp) _ _,
      foldl_same State.intake _ (fun _ _ => by simp) _ _,
      foldl_same State.inputs _ (fun _ _ => by simp) _ _,
      foldl_same State.time _ (fun _ _ => by simp) _ _,
      foldl_same State.store _ (fun _ _ => by simp) _ _,
      foldl_same State.cause _ (fun _ _ => by simp) _ _,
      foldl_same State.source _ (fun _ _ => by simp) _ _⟩
  simp [State.blocksClock, h]

@[simp] theorem State.tenthPasses_frame (s : State) :
    (s.tenthPasses).pending = s.pending ∧ (s.tenthPasses).cfg = s.cfg ∧ (s.tenthPasses).live = s.live
      ∧ (s.tenthPasses).snapshots = s.snapshots ∧ (s.tenthPasses).inputs = s.inputs
      ∧ (s.tenthPasses).channels = s.channels ∧ (s.tenthPasses).field = s.field
      ∧ (s.tenthPasses).tracker = s.tracker ∧ (s.tenthPasses).capture = s.capture
      ∧ (s.tenthPasses).driver = s.driver ∧ (s.tenthPasses).link = s.link ∧ (s.tenthPasses).time = s.time
      ∧ (s.tenthPasses).store = s.store ∧ (s.tenthPasses).cause = s.cause ∧ (s.tenthPasses).source = s.source
      ∧ (s.tenthPasses).handOffs = s.handOffs := by
  simp [State.tenthPasses]

/-- A tenth passing touches the silence timers of the intake alone. -/
theorem State.tenthPasses_intake (s : State) :
    s.tenthPasses.intake = { s.intake with converters := s.intake.converters.map Converter.tenthPassed } := rfl

@[simp] theorem State.oscillatorSecond_frame (s : State) :
    (s.oscillatorSecond).pending = s.pending ∧ (s.oscillatorSecond).cfg = s.cfg
      ∧ (s.oscillatorSecond).snapshots = s.snapshots ∧ (s.oscillatorSecond).intake = s.tenthPasses.intake
      ∧ (s.oscillatorSecond).inputs = s.inputs ∧ (s.oscillatorSecond).store = s.store
      ∧ (s.oscillatorSecond).cause = s.cause ∧ (s.oscillatorSecond).source = s.source := by
  simp [State.oscillatorSecond]

@[simp] theorem State.supervisedSecond_frame (s : State) :
    (s.supervisedSecond).pending = s.pending ∧ (s.supervisedSecond).cfg = s.cfg
      ∧ (s.supervisedSecond).snapshots = s.snapshots ∧ (s.supervisedSecond).intake = s.tenthPasses.intake
      ∧ (s.supervisedSecond).inputs = s.inputs ∧ (s.supervisedSecond).store = s.store
      ∧ (s.supervisedSecond).cause = s.cause ∧ (s.supervisedSecond).source = s.source := by
  and_intros <;> (simp only [State.supervisedSecond]; (repeat' split) <;> simp)

@[simp] theorem State.ppsEdgeAt_frame (now : Nat) (s : State) :
    (s.ppsEdgeAt now).pending = s.pending ∧ (s.ppsEdgeAt now).cfg = s.cfg
      ∧ (s.ppsEdgeAt now).snapshots = s.snapshots
      ∧ (s.ppsEdgeAt now).inputs = s.inputs ∧ (s.ppsEdgeAt now).store = s.store ∧ (s.ppsEdgeAt now).cause = s.cause
      ∧ (s.ppsEdgeAt now).source = s.source := by
  and_intros <;> (simp only [State.ppsEdgeAt]; (repeat' split) <;> simp)

@[simp] theorem State.ppsFails_frame (s : State) :
    (s.ppsFails).pending = s.pending ∧ (s.ppsFails).cfg = s.cfg ∧ (s.ppsFails).snapshots = s.snapshots
      ∧ (s.ppsFails).inputs = s.inputs ∧ (s.ppsFails).store = s.store
      ∧ (s.ppsFails).cause = s.cause ∧ (s.ppsFails).source = s.source := by
  and_intros <;> (simp only [State.ppsFails]; (repeat' split) <;> simp)

@[simp] theorem State.ppsUseWritten_frame (b : Bool) (s : State) :
    (s.ppsUseWritten b).pending = s.pending ∧ (s.ppsUseWritten b).cfg = s.cfg ∧ (s.ppsUseWritten b).live = s.live
      ∧ (s.ppsUseWritten b).snapshots = s.snapshots ∧ (s.ppsUseWritten b).intake = s.intake
      ∧ (s.ppsUseWritten b).inputs = s.inputs ∧ (s.ppsUseWritten b).channels = s.channels
      ∧ (s.ppsUseWritten b).field = s.field ∧ (s.ppsUseWritten b).tracker = s.tracker
      ∧ (s.ppsUseWritten b).capture = s.capture ∧ (s.ppsUseWritten b).driver = s.driver
      ∧ (s.ppsUseWritten b).store = s.store ∧ (s.ppsUseWritten b).cause = s.cause
      ∧ (s.ppsUseWritten b).source = s.source ∧ (s.ppsUseWritten b).handOffs = s.handOffs := by
  and_intros <;> (simp only [State.ppsUseWritten]; (repeat' split) <;> simp)

/-! ### Status Inputs -/

@[simp] theorem State.reportInput_frame (p : Pin) (b : Bool) (s : State) :
    (s.reportInput p b).pending = s.pending ∧ (s.reportInput p b).cfg = s.cfg ∧ (s.reportInput p b).live = s.live
      ∧ (s.reportInput p b).snapshots = s.snapshots ∧ (s.reportInput p b).intake = s.intake
      ∧ (s.reportInput p b).inputs = s.inputs ∧ (s.reportInput p b).channels = s.channels
      ∧ (s.reportInput p b).field = s.field ∧ (s.reportInput p b).tracker = s.tracker
      ∧ (s.reportInput p b).capture = s.capture ∧ (s.reportInput p b).driver = s.driver
      ∧ (s.reportInput p b).link = s.link ∧ (s.reportInput p b).time = s.time ∧ (s.reportInput p b).store = s.store
      ∧ (s.reportInput p b).cause = s.cause ∧ (s.reportInput p b).source = s.source := by
  and_intros <;> (simp only [State.reportInput]; (repeat' split) <;> simp)

@[simp] theorem State.completeHold_frame (p : Pin) (s : State) :
    (s.completeHold p).pending = s.pending ∧ (s.completeHold p).cfg = s.cfg ∧ (s.completeHold p).live = s.live
      ∧ (s.completeHold p).snapshots = s.snapshots ∧ (s.completeHold p).intake = s.intake
      ∧ (s.completeHold p).channels = s.channels ∧ (s.completeHold p).field = s.field
      ∧ (s.completeHold p).tracker = s.tracker ∧ (s.completeHold p).capture = s.capture
      ∧ (s.completeHold p).driver = s.driver ∧ (s.completeHold p).link = s.link ∧ (s.completeHold p).time = s.time
      ∧ (s.completeHold p).store = s.store ∧ (s.completeHold p).cause = s.cause
      ∧ (s.completeHold p).source = s.source := by
  and_intros <;> (simp only [State.completeHold]; (repeat' split) <;> simp)

@[simp] theorem State.debounceWritten_frame (now : Nat) (s : State) :
    (s.debounceWritten now).pending = s.pending ∧ (s.debounceWritten now).cfg = s.cfg
      ∧ (s.debounceWritten now).live = s.live ∧ (s.debounceWritten now).snapshots = s.snapshots
      ∧ (s.debounceWritten now).intake = s.intake ∧ (s.debounceWritten now).channels = s.channels
      ∧ (s.debounceWritten now).field = s.field ∧ (s.debounceWritten now).tracker = s.tracker
      ∧ (s.debounceWritten now).capture = s.capture ∧ (s.debounceWritten now).driver = s.driver
      ∧ (s.debounceWritten now).link = s.link ∧ (s.debounceWritten now).time = s.time
      ∧ (s.debounceWritten now).store = s.store ∧ (s.debounceWritten now).cause = s.cause
      ∧ (s.debounceWritten now).source = s.source := by
  exact ⟨foldl_same State.pending _ (fun _ _ => by (repeat' split) <;> simp) _ _,
    foldl_same State.cfg _ (fun _ _ => by (repeat' split) <;> simp) _ _,
    foldl_same State.live _ (fun _ _ => by (repeat' split) <;> simp) _ _,
    foldl_same State.snapshots _ (fun _ _ => by (repeat' split) <;> simp) _ _,
    foldl_same State.intake _ (fun _ _ => by (repeat' split) <;> simp) _ _,
    foldl_same State.channels _ (fun _ _ => by (repeat' split) <;> simp) _ _,
    foldl_same State.field _ (fun _ _ => by (repeat' split) <;> simp) _ _,
    foldl_same State.tracker _ (fun _ _ => by (repeat' split) <;> simp) _ _,
    foldl_same State.capture _ (fun _ _ => by (repeat' split) <;> simp) _ _,
    foldl_same State.driver _ (fun _ _ => by (repeat' split) <;> simp) _ _,
    foldl_same State.link _ (fun _ _ => by (repeat' split) <;> simp) _ _,
    foldl_same State.time _ (fun _ _ => by (repeat' split) <;> simp) _ _,
    foldl_same State.store _ (fun _ _ => by (repeat' split) <;> simp) _ _,
    foldl_same State.cause _ (fun _ _ => by (repeat' split) <;> simp) _ _,
    foldl_same State.source _ (fun _ _ => by (repeat' split) <;> simp) _ _⟩

/-! ### Message Link -/

@[simp] theorem State.offerRequest_frame (r : Request) (s : State) :
    (s.offerRequest r).pending = s.pending ∧ (s.offerRequest r).cfg = s.cfg ∧ (s.offerRequest r).live = s.live
      ∧ (s.offerRequest r).snapshots = s.snapshots ∧ (s.offerRequest r).intake = s.intake
      ∧ (s.offerRequest r).inputs = s.inputs ∧ (s.offerRequest r).channels = s.channels
      ∧ (s.offerRequest r).field = s.field ∧ (s.offerRequest r).tracker = s.tracker
      ∧ (s.offerRequest r).capture = s.capture ∧ (s.offerRequest r).driver = s.driver
      ∧ (s.offerRequest r).time = s.time ∧ (s.offerRequest r).store = s.store ∧ (s.offerRequest r).cause = s.cause
      ∧ (s.offerRequest r).source = s.source ∧ (s.offerRequest r).handOffs = s.handOffs := by
  and_intros <;> (simp only [State.offerRequest]; (repeat' split) <;> simp)

@[simp] theorem State.requestsIn_frame (rs : List Request) (s : State) :
    (s.requestsIn rs).pending = s.pending ∧ (s.requestsIn rs).cfg = s.cfg ∧ (s.requestsIn rs).live = s.live
      ∧ (s.requestsIn rs).snapshots = s.snapshots ∧ (s.requestsIn rs).intake = s.intake
      ∧ (s.requestsIn rs).inputs = s.inputs ∧ (s.requestsIn rs).channels = s.channels
      ∧ (s.requestsIn rs).field = s.field ∧ (s.requestsIn rs).tracker = s.tracker
      ∧ (s.requestsIn rs).capture = s.capture ∧ (s.requestsIn rs).time = s.time ∧ (s.requestsIn rs).store = s.store
      ∧ (s.requestsIn rs).cause = s.cause ∧ (s.requestsIn rs).source = s.source := by
  exact ⟨foldl_same State.pending _ (fun _ _ => by simp) _ _,
    foldl_same State.cfg _ (fun _ _ => by simp) _ _,
    foldl_same State.live _ (fun _ _ => by simp) _ _,
    foldl_same State.snapshots _ (fun _ _ => by simp) _ _,
    foldl_same State.intake _ (fun _ _ => by simp) _ _,
    foldl_same State.inputs _ (fun _ _ => by simp) _ _,
    foldl_same State.channels _ (fun _ _ => by simp) _ _,
    foldl_same State.field _ (fun _ _ => by simp) _ _,
    foldl_same State.tracker _ (fun _ _ => by simp) _ _,
    foldl_same State.capture _ (fun _ _ => by simp) _ _,
    foldl_same State.time _ (fun _ _ => by simp) _ _,
    foldl_same State.store _ (fun _ _ => by simp) _ _,
    foldl_same State.cause _ (fun _ _ => by simp) _ _,
    foldl_same State.source _ (fun _ _ => by simp) _ _⟩

@[simp] theorem State.hostBytes_frame (bytes : List Byte) (s : State) :
    (s.hostBytes bytes).pending = s.pending ∧ (s.hostBytes bytes).cfg = s.cfg ∧ (s.hostBytes bytes).live = s.live
      ∧ (s.hostBytes bytes).snapshots = s.snapshots ∧ (s.hostBytes bytes).intake = s.intake
      ∧ (s.hostBytes bytes).inputs = s.inputs ∧ (s.hostBytes bytes).channels = s.channels
      ∧ (s.hostBytes bytes).field = s.field ∧ (s.hostBytes bytes).tracker = s.tracker
      ∧ (s.hostBytes bytes).capture = s.capture ∧ (s.hostBytes bytes).time = s.time
      ∧ (s.hostBytes bytes).store = s.store ∧ (s.hostBytes bytes).cause = s.cause
      ∧ (s.hostBytes bytes).source = s.source := by
  simp [State.hostBytes]

@[simp] theorem State.replySentOut_frame (s : State) :
    (s.replySentOut).pending = s.pending ∧ (s.replySentOut).cfg = s.cfg ∧ (s.replySentOut).live = s.live
      ∧ (s.replySentOut).snapshots = s.snapshots ∧ (s.replySentOut).intake = s.intake
      ∧ (s.replySentOut).inputs = s.inputs ∧ (s.replySentOut).channels = s.channels
      ∧ (s.replySentOut).field = s.field ∧ (s.replySentOut).tracker = s.tracker
      ∧ (s.replySentOut).capture = s.capture ∧ (s.replySentOut).driver = s.driver ∧ (s.replySentOut).time = s.time
      ∧ (s.replySentOut).store = s.store ∧ (s.replySentOut).cause = s.cause ∧ (s.replySentOut).source = s.source
      ∧ (s.replySentOut).handOffs = s.handOffs := by
  and_intros <;> (simp only [State.replySentOut]; (repeat' split) <;> simp)

@[simp] theorem State.deviceEffects_frame (a b : DeviceSettings) (now : Nat) (s : State) :
    (s.deviceEffects a b now).pending = s.pending ∧ (s.deviceEffects a b now).cfg = s.cfg
      ∧ (s.deviceEffects a b now).live = s.live ∧ (s.deviceEffects a b now).snapshots = s.snapshots
      ∧ (s.deviceEffects a b now).intake = s.intake ∧ (s.deviceEffects a b now).field = s.field
      ∧ (s.deviceEffects a b now).tracker = s.tracker ∧ (s.deviceEffects a b now).store = s.store
      ∧ (s.deviceEffects a b now).cause = s.cause ∧ (s.deviceEffects a b now).source = s.source := by
  and_intros <;> (simp only [State.deviceEffects, State.whenChanged]; (repeat' split) <;> simp)

@[simp] theorem State.offsetWritten_frame (i : Fin 16) (c : Settings) (s : State) :
    (s.offsetWritten i c).pending = s.pending ∧ (s.offsetWritten i c).cfg = s.cfg
      ∧ (s.offsetWritten i c).snapshots = s.snapshots ∧ (s.offsetWritten i c).intake = s.intake
      ∧ (s.offsetWritten i c).inputs = s.inputs ∧ (s.offsetWritten i c).channels = s.channels
      ∧ (s.offsetWritten i c).field = s.field ∧ (s.offsetWritten i c).tracker = s.tracker
      ∧ (s.offsetWritten i c).capture = s.capture ∧ (s.offsetWritten i c).driver = s.driver
      ∧ (s.offsetWritten i c).link = s.link ∧ (s.offsetWritten i c).time = s.time
      ∧ (s.offsetWritten i c).store = s.store ∧ (s.offsetWritten i c).cause = s.cause
      ∧ (s.offsetWritten i c).source = s.source ∧ (s.offsetWritten i c).handOffs = s.handOffs := by
  simp [State.offsetWritten]

@[simp] theorem State.settingsEffects_frame (i : Fin 16) (a b : Settings) (s : State) :
    (s.settingsEffects i a b).pending = s.pending ∧ (s.settingsEffects i a b).cfg = s.cfg
      ∧ (s.settingsEffects i a b).snapshots = s.snapshots ∧ (s.settingsEffects i a b).intake = s.intake
      ∧ (s.settingsEffects i a b).inputs = s.inputs ∧ (s.settingsEffects i a b).field = s.field
      ∧ (s.settingsEffects i a b).tracker = s.tracker ∧ (s.settingsEffects i a b).capture = s.capture
      ∧ (s.settingsEffects i a b).driver = s.driver ∧ (s.settingsEffects i a b).time = s.time
      ∧ (s.settingsEffects i a b).store = s.store ∧ (s.settingsEffects i a b).cause = s.cause
      ∧ (s.settingsEffects i a b).source = s.source := by
  and_intros <;> (simp only [State.settingsEffects, State.whenChanged]; (repeat' split) <;> simp)

@[simp] theorem State.suppressTransformers_frame (m : TransformerSet) (b : Bool) (s : State) :
    (s.suppressTransformers m b).pending = s.pending ∧ (s.suppressTransformers m b).cfg = s.cfg
      ∧ (s.suppressTransformers m b).snapshots = s.snapshots ∧ (s.suppressTransformers m b).intake = s.intake
      ∧ (s.suppressTransformers m b).inputs = s.inputs ∧ (s.suppressTransformers m b).channels = s.channels
      ∧ (s.suppressTransformers m b).field = s.field ∧ (s.suppressTransformers m b).tracker = s.tracker
      ∧ (s.suppressTransformers m b).capture = s.capture ∧ (s.suppressTransformers m b).driver = s.driver
      ∧ (s.suppressTransformers m b).link = s.link ∧ (s.suppressTransformers m b).time = s.time
      ∧ (s.suppressTransformers m b).store = s.store ∧ (s.suppressTransformers m b).cause = s.cause
      ∧ (s.suppressTransformers m b).source = s.source := by
  simp [State.suppressTransformers]

@[simp] theorem State.mapWritten_frame (k : Fin 4) (m : ContactMap) (s : State) :
    (s.mapWritten k m).pending = s.pending ∧ (s.mapWritten k m).live = s.live
      ∧ (s.mapWritten k m).snapshots = s.snapshots ∧ (s.mapWritten k m).intake = s.intake
      ∧ (s.mapWritten k m).inputs = s.inputs ∧ (s.mapWritten k m).channels = s.channels
      ∧ (s.mapWritten k m).field = s.field ∧ (s.mapWritten k m).tracker = s.tracker
      ∧ (s.mapWritten k m).capture = s.capture ∧ (s.mapWritten k m).link = s.link ∧ (s.mapWritten k m).time = s.time
      ∧ (s.mapWritten k m).store = s.store ∧ (s.mapWritten k m).cause = s.cause
      ∧ (s.mapWritten k m).source = s.source := by
  simp [State.mapWritten]

@[simp] theorem State.saveEnds_frame (b : Bool) (s : State) :
    (s.saveEnds b).pending = s.pending ∧ (s.saveEnds b).cfg = s.cfg ∧ (s.saveEnds b).live = s.live
      ∧ (s.saveEnds b).snapshots = s.snapshots ∧ (s.saveEnds b).intake = s.intake ∧ (s.saveEnds b).inputs = s.inputs
      ∧ (s.saveEnds b).channels = s.channels ∧ (s.saveEnds b).field = s.field ∧ (s.saveEnds b).tracker = s.tracker
      ∧ (s.saveEnds b).capture = s.capture ∧ (s.saveEnds b).driver = s.driver ∧ (s.saveEnds b).time = s.time
      ∧ (s.saveEnds b).cause = s.cause ∧ (s.saveEnds b).source = s.source ∧ (s.saveEnds b).handOffs = s.handOffs := by
  and_intros <;> (simp only [State.saveEnds]; (repeat' split) <;> simp)

end Sys2Proof.Machine
end

