-- ==== Sys2Proof/Laws/Requests.lean ====
section
/-! SUPPORT. Taking a request, said once: what `serveRequest` can do, and what it does when the request can be taken. -/

namespace Sys2Proof.Machine

/-- A request that can be taken is the head of the buffer. -/
theorem takeable_eq_some {s : State} {r : Request} :
    s.takeable = some r ↔ s.link.sending = none ∧ s.link.restart ≠ .due ∧ s.link.buffer.head? = some r := by
  unfold State.takeable
  cases h : s.link.sending <;> simp

theorem State.Takes.takeable {k : Byte} {r : Request} {s : State} (h : s.Takes k r) : s.takeable = some r :=
  takeable_eq_some.mpr ⟨h.1, h.2.1, h.2.2.1⟩

/-- While no reset is due, disarming leaves the restart disarmed. -/
theorem disarm_eq {s : State} (h : s.link.restart ≠ .due) :
    s.disarm = { s with link := { s.link with restart := .disarmed } } := by
  have : disarmed s.link.restart = .disarmed := by
    cases hr : s.link.restart with
    | disarmed => rfl
    | armed => rfl
    | due => exact absurd hr h
  simp [State.disarm, State.setLink, this]

/-- A reply formed on the disarmed state is all of `State.replied`. -/
theorem disarm_answer {s : State} (h : s.link.restart ≠ .due) (r : Request) (st : Status) (body : List Byte) :
    s.disarm.answer r st body = s.replied r st body := by
  rw [disarm_eq h]; rfl

/-- The one request row's rule, when its request can be taken and its body has the kind's length. -/
theorem serveRequest_of_takes {k : Byte} {r : Request} {s : State} (h : s.Takes k r) (hl : lengthOk r = true)
    (f : Request → State → State) : s.serveRequest k f = f r s.disarm := by
  simp [State.serveRequest, h.takeable, h.2.2.2, hl]

/-- A body of another length is answered BAD_LENGTH (R170). -/
theorem serveRequest_badLength {k : Byte} {r : Request} {s : State} (h : s.Takes k r) (hl : lengthOk r = false)
    (f : Request → State → State) : s.serveRequest k f = s.replied r .badLength [] := by
  simp [State.serveRequest, h.takeable, h.2.2.2, hl, disarm_answer h.2.1]

/-- Everything `serveRequest` can do: nothing, a BAD_LENGTH reply, or the kind's own rule. -/
theorem serveRequest_cases (k : Byte) (f : Request → State → State) (s : State) :
    s.serveRequest k f = s ∨ ∃ r, s.Takes k r ∧
      (s.serveRequest k f = s.replied r .badLength [] ∨ lengthOk r = true ∧ s.serveRequest k f = f r s.disarm) := by
  unfold State.serveRequest
  split
  · exact .inl rfl
  · rename_i r h
    have ht := takeable_eq_some.mp h
    by_cases hk : r.kind = k
    · refine .inr ⟨r, ⟨ht.1, ht.2.1, ht.2.2, hk⟩, ?_⟩
      by_cases hl : lengthOk r = true
      · exact .inr ⟨hl, by simp [hk, hl]⟩
      · exact .inl (by simp [hk, hl, disarm_answer ht.2.1])
    · exact .inl (by simp [hk])

end Sys2Proof.Machine
end

