-- ==== Sys2Proof/Laws/Emissions.lean ====
section
/-! SUPPORT. What an operation does to the Message Link when all it does there is make transitions: the link it leaves is
the link it found after zero or more of them, under one mask. The lemmas run backwards through nested operations, so
that `simp` shows `Emits s u` for any `u` built from `s` by these operations. -/

namespace Sys2Proof.Machine

/-- `l'` is `l` after transitions have been made, in order, under mask `m`. -/
def Emitted (m : CategorySet) (l l' : MessageLink) : Prop :=
  ∃ ts : List Transition, l' = ts.foldl (fun u t => u.withTransition m t) l

theorem Emitted.refl (m : CategorySet) (l : MessageLink) : Emitted m l l := ⟨[], rfl⟩

theorem Emitted.trans {m : CategorySet} {a b c : MessageLink} (h : Emitted m a b) (k : Emitted m b c) :
    Emitted m a c := by
  obtain ⟨ts, rfl⟩ := h
  obtain ⟨us, rfl⟩ := k
  exact ⟨ts ++ us, by simp⟩

/-- Making transitions touches the queue, the summary set and ATTN, nothing else of the link. -/
theorem Emitted.frame {m : CategorySet} {l l' : MessageLink} (h : Emitted m l l') :
    l'.baud = l.baud ∧ l'.line = l.line ∧ l'.buffer = l.buffer ∧ l'.sending = l.sending ∧ l'.kept = l.kept
      ∧ l'.restart = l.restart := by
  obtain ⟨ts, rfl⟩ := h
  induction ts generalizing l with
  | nil => simp
  | cons t ts ih => simpa using ih (l := l.withTransition m t)

/-- `u` has the settings of `s`, and the link of `s` with transitions made. -/
def Emits (s u : State) : Prop :=
  u.cfg = s.cfg ∧ Emitted s.cfg.device.noticeMask s.link u.link

@[simp] theorem Emits.refl (s : State) : Emits s s := ⟨rfl, .refl _ _⟩

theorem Emits.trans {s u v : State} (h : Emits s u) (k : Emits u v) : Emits s v :=
  ⟨k.1.trans h.1, h.2.trans (by rw [← h.1]; exact k.2)⟩

/-- An operation that leaves the link and the settings alone. -/
theorem Emits.of_eq {s u : State} (hc : u.cfg = s.cfg) (hl : u.link = s.link) : Emits s u :=
  ⟨hc, by rw [hl]; exact .refl _ _⟩

@[simp] theorem Emits.emit {s u : State} (h : Emits s u) (t : Transition) : Emits s (u.emit t) :=
  h.trans ⟨rfl, ⟨[t], rfl⟩⟩

@[simp] theorem Emits.emitDevice {s u : State} (h : Emits s u) (k : TransitionKind) (d : Option Nat) (t : Stamp) :
    Emits s (u.emitDevice k d t) :=
  h.emit _

@[simp] theorem Emits.emitTransformer {s u : State} (h : Emits s u) (i : Fin 16) (k : TransitionKind)
    (v : Option (Level × Level)) (x d : Option Nat) (t : Stamp) : Emits s (u.emitTransformer i k v x d t) :=
  h.emit _

/-- A fold whose every step makes transitions makes transitions. -/
theorem Emits.foldl {α : Type} {s u : State} (h : Emits s u) (f : State → α → State) (hf : ∀ v a, Emits v (f v a))
    (l : List α) : Emits s (l.foldl f u) := by
  induction l generalizing u with
  | nil => exact h
  | cons a l ih => exact ih (h.trans (hf u a))

theorem Emits.whenChanged {s u : State} (h : Emits s u) (b : Bool) (f : State → State) (hf : ∀ v, Emits v (f v)) :
    Emits s (u.whenChanged b f) := by
  cases b
  · exact h
  · exact h.trans (hf u)

/-! ### Operations that leave the link alone -/

@[simp] theorem emits_setLive {s u : State} (i : Fin 16) (l : Live) :
    Emits s (u.setLive i l) ↔ Emits s u := by simp [Emits]
@[simp] theorem emits_setChannel {s u : State} (ch : Fin 16) (c : Channel) :
    Emits s (u.setChannel ch c) ↔ Emits s u := by simp [Emits]
@[simp] theorem emits_setConverter {s u : State} (c : Fin 5) (v : Converter) :
    Emits s (u.setConverter c v) ↔ Emits s u := by simp [Emits]
@[simp] theorem emits_setHandOffs {s u : State} (g : HandOffs) :
    Emits s (u.setHandOffs g) ↔ Emits s u := by simp [Emits]
@[simp] theorem emits_setCapture {s u : State} (c : CaptureUnit) :
    Emits s (u.setCapture c) ↔ Emits s u := by simp [Emits]
@[simp] theorem emits_setDriver {s u : State} (d : ContactDriver) :
    Emits s (u.setDriver d) ↔ Emits s u := by simp [Emits]
@[simp] theorem emits_setTracker {s u : State} (t : EpisodeTracker) :
    Emits s (u.setTracker t) ↔ Emits s u := by simp [Emits]
@[simp] theorem emits_setField {s u : State} (f : FieldEstimator) :
    Emits s (u.setField f) ↔ Emits s u := by simp [Emits]
@[simp] theorem emits_setTime {s u : State} (t : TimeBase) : Emits s (u.setTime t) ↔ Emits s u := by simp [Emits]
@[simp] theorem emits_report {s u : State} (r : ContactReport) : Emits s (u.report r) ↔ Emits s u := by simp [Emits]
@[simp] theorem emits_reportIf {s u : State} (b : Bool) (r : ContactReport) :
    Emits s (u.reportIf b r) ↔ Emits s u := by simp [Emits]
@[simp] theorem emits_startCapture {s u : State} (ch : Fin 16) (k : CaptureCause) (t : Stamp) (pre post : Nat) (d : Option Nat) :
    Emits s (u.startCapture ch k t pre post d) ↔ Emits s u := by simp [Emits]
@[simp] theorem emits_serve {s u : State} : Emits s (u.serve) ↔ Emits s u := by simp [Emits]
@[simp] theorem emits_startOrWait {s u : State} (ch : Fin 16) (k : CaptureCause) (t : Stamp) (pre post : Nat) :
    Emits s (u.startOrWait ch k t pre post) ↔ Emits s u := by simp [Emits]
@[simp] theorem emits_levelTriggered {s u : State} (t : TriggerHandOff) :
    Emits s (u.levelTriggered t) ↔ Emits s u := by simp [Emits]
@[simp] theorem emits_releaseOldest {s u : State} : Emits s (u.releaseOldest) ↔ Emits s u := by simp [Emits]
@[simp] theorem emits_completeSecond {s u : State} (ch : Fin 16) (g : Nat) :
    Emits s (u.completeSecond ch g) ↔ Emits s u := by simp [Emits]
@[simp] theorem emits_completeBlock {s u : State} (ch : Fin 16) (g : Nat) :
    Emits s (u.completeBlock ch g) ↔ Emits s u := by simp [Emits]
@[simp] theorem emits_abandonChannels {s u : State} (p : Fin 16 → Bool) :
    Emits s (u.abandonChannels p) ↔ Emits s u := by simp [Emits]
@[simp] theorem emits_clearLearning {s u : State} (ch : Fin 16) :
    Emits s (u.clearLearning ch) ↔ Emits s u := by simp [Emits]
@[simp] theorem emits_clearDeenergisedTime {s u : State} (ch : Fin 16) :
    Emits s (u.clearDeenergisedTime ch) ↔ Emits s u := by simp [Emits]
@[simp] theorem emits_completeField {s u : State} (p : PartialField) :
    Emits s (u.completeField p) ↔ Emits s u := by simp [Emits]
@[simp] theorem emits_takeFieldGroup {s u : State} (n e : Int) (tag : Tag) :
    Emits s (u.takeFieldGroup n e tag) ↔ Emits s u := by simp [Emits]
@[simp] theorem emits_abandonField {s u : State} : Emits s (u.abandonField) ↔ Emits s u := by simp [Emits]
@[simp] theorem emits_setConverterState {s u : State} (c : Fin 5) (v : ConverterState) :
    Emits s (u.setConverterState c v) ↔ Emits s u := by simp [Emits]
@[simp] theorem emits_arrive {s u : State} (f : Frame) : Emits s (u.arrive f) ↔ Emits s u := by simp [Emits]
@[simp] theorem emits_lineEvent {s u : State} (e : LineEvent) :
    Emits s (u.lineEvent e) ↔ Emits s u := by simp [Emits]
@[simp] theorem emits_lineEvents {s u : State} (es : List LineEvent) :
    Emits s (u.lineEvents es) ↔ Emits s u := by simp [Emits]
@[simp] theorem emits_sampleBytes {s u : State} (bytes : List Byte) :
    Emits s (u.sampleBytes bytes) ↔ Emits s u := by simp [Emits]
@[simp] theorem emits_sampleIdle {s u : State} : Emits s (u.sampleIdle) ↔ Emits s u := by simp [Emits]
@[simp] theorem emits_sampleDamaged {s u : State} : Emits s (u.sampleDamaged) ↔ Emits s u := by simp [Emits]
@[simp] theorem emits_tenthPasses {s u : State} : Emits s (u.tenthPasses) ↔ Emits s u := by simp [Emits]
@[simp] theorem emits_followRef {s u : State} (f : Frame) : Emits s (u.followRef f) ↔ Emits s u := by simp [Emits]
@[simp] theorem emits_handTrigger {s u : State} (c : Settings) (i : Fin 16) (t : Stamp) :
    Emits s (u.handTrigger c i t) ↔ Emits s u := by simp [Emits]
@[simp] theorem emits_handEvaluation {s u : State} (i : Fin 16) (l : Live) (t : Stamp) :
    Emits s (u.handEvaluation i l t) ↔ Emits s u := by simp [Emits]
@[simp] theorem emits_trackEvaluation {s u : State} (g : EvaluationHandOff) :
    Emits s (u.trackEvaluation g) ↔ Emits s u := by simp [Emits]
@[simp] theorem emits_trackCooling {s u : State} (i : Fin 16) (heat : Nat) :
    Emits s (u.trackCooling i heat) ↔ Emits s u := by simp [Emits]
@[simp] theorem emits_driveOutputs {s u : State} : Emits s (u.driveOutputs) ↔ Emits s u := by simp [Emits]
@[simp] theorem emits_judgeContacts {s u : State} : Emits s (u.judgeContacts) ↔ Emits s u := by simp [Emits]
@[simp] theorem emits_acknowledgeContacts {s u : State} :
    Emits s (u.acknowledgeContacts) ↔ Emits s u := by simp [Emits]
@[simp] theorem emits_acknowledgeTransformers {s u : State} (m : TransformerSet) :
    Emits s (u.acknowledgeTransformers m) ↔ Emits s u := by simp [Emits]
@[simp] theorem emits_linkHeard {s u : State} : Emits s (u.linkHeard) ↔ Emits s u := by simp [Emits]
@[simp] theorem emits_linkSilenceWritten {s u : State} :
    Emits s (u.linkSilenceWritten) ↔ Emits s u := by simp [Emits]
@[simp] theorem emits_setPanel {s u : State} (p : PanelState) (b : Bool) :
    Emits s (u.setPanel p b) ↔ Emits s u := by simp [Emits]
@[simp] theorem emits_panelPressed {s u : State} : Emits s (u.panelPressed) ↔ Emits s u := by simp [Emits]
@[simp] theorem emits_panelReleased {s u : State} : Emits s (u.panelReleased) ↔ Emits s u := by simp [Emits]
@[simp] theorem emits_panelLocked {s u : State} : Emits s (u.panelLocked) ↔ Emits s u := by simp [Emits]
@[simp] theorem emits_disableTransformer {s u : State} (i : Fin 16) :
    Emits s (u.disableTransformer i) ↔ Emits s u := by simp [Emits]
@[simp] theorem emits_reportInput {s u : State} (p : Pin) (b : Bool) :
    Emits s (u.reportInput p b) ↔ Emits s u := by simp [Emits]
@[simp] theorem emits_completeHold {s u : State} (p : Pin) :
    Emits s (u.completeHold p) ↔ Emits s u := by simp [Emits]
@[simp] theorem emits_debounceWritten {s u : State} (now : Nat) :
    Emits s (u.debounceWritten now) ↔ Emits s u := by simp [Emits]
@[simp] theorem emits_offsetWritten {s u : State} (i : Fin 16) (c : Settings) :
    Emits s (u.offsetWritten i c) ↔ Emits s u := by simp [Emits]
@[simp] theorem emits_suppressTransformers {s u : State} (m : TransformerSet) (b : Bool) :
    Emits s (u.suppressTransformers m b) ↔ Emits s u := by simp [Emits]

/-! ### Operations that make transitions -/

@[simp] theorem Emits.endCapture {s u : State} (h : Emits s u) (b : Bool) (t : Stamp) :
    Emits s (u.endCapture b t) := by
  refine h.trans ?_
  unfold State.endCapture
  (repeat' split) <;> simp

@[simp] theorem Emits.fillCapture {s u : State} (h : Emits s u) (r : CaptureRecord) (codes : List Int) :
    Emits s (u.fillCapture r codes) := by
  refine h.trans ?_
  unfold State.fillCapture
  dsimp only
  (repeat' split) <;> simp

@[simp] theorem Emits.offerCycle {s u : State} (h : Emits s u) (ch : Fin 16) (codes : List Int) :
    Emits s (u.offerCycle ch codes) := by
  refine h.trans ?_
  unfold State.offerCycle
  dsimp only
  (repeat' split) <;> simp

@[simp] theorem Emits.captureNotice {s u : State} (h : Emits s u) (p : Fin 16 → Bool) :
    Emits s (u.captureNotice p) := by
  refine h.trans ?_
  unfold State.captureNotice
  (repeat' split) <;> simp

@[simp] theorem Emits.captureDisabled {s u : State} (h : Emits s u) (ch : Fin 16) :
    Emits s (u.captureDisabled ch) := by
  exact h.trans (by simp [State.captureDisabled])

@[simp] theorem Emits.missCapture {s u : State} (h : Emits s u) (ch : Fin 16) (t : Stamp) :
    Emits s (u.missCapture ch t) := by
  exact h.trans (by simp [State.missCapture])

@[simp] theorem Emits.completeCycle {s u : State} (h : Emits s u) (ch : Fin 16) (c : PartialCycle) :
    Emits s (u.completeCycle ch c) := by
  refine h.trans ?_
  unfold State.completeCycle
  dsimp only
  (repeat' split) <;> simp

@[simp] theorem Emits.takeSample {s u : State} (h : Emits s u) (ch : Fin 16) (code : Int) (tag : Tag) :
    Emits s (u.takeSample ch code tag) := by
  refine h.trans ?_
  unfold State.takeSample
  dsimp only
  (repeat' split) <;> simp

@[simp] theorem Emits.abandon {s u : State} (h : Emits s u) (p : Fin 16 → Bool) : Emits s (u.abandon p) := by
  exact h.trans (by simp [State.abandon])

@[simp] theorem Emits.completeLearning {s u : State} (h : Emits s u) (i : Fin 16) (l : Learning) :
    Emits s (u.completeLearning i l) := by
  refine h.trans ?_
  unfold State.completeLearning
  dsimp only
  (repeat' split) <;> simp

@[simp] theorem Emits.offerLearning {s u : State} (h : Emits s u) (g : SecondHandOff) :
    Emits s (u.offerLearning g) := by
  refine h.trans ?_
  unfold State.offerLearning
  dsimp only
  (repeat' split) <;> simp

@[simp] theorem Emits.fieldSecond {s u : State} (h : Emits s u) (t : Stamp) : Emits s (u.fieldSecond t) := by
  refine h.trans ?_
  unfold State.fieldSecond
  dsimp only
  (repeat' split) <;> simp

@[simp] theorem Emits.takeGroup {s u : State} (h : Emits s u) (g : SampleGroup) : Emits s (u.takeGroup g) := by
  refine h.trans ?_
  unfold State.takeGroup
  split
  · iterate 4 apply Emits.takeSample
    simp
  · simp

@[simp] theorem Emits.handFill {s u : State} (h : Emits s u) (f : Frame) (q : Byte) : Emits s (u.handFill f q) :=
  h.takeGroup _

@[simp] theorem Emits.handFills {s u : State} (h : Emits s u) (f : Frame) (q : Byte) (n : Nat) :
    Emits s (u.handFills f q n) := by
  induction n generalizing u q with
  | zero => exact h
  | succ n ih => exact ih (h.handFill f q) _

@[simp] theorem Emits.handleStatus {s u : State} (h : Emits s u) (f : Frame) : Emits s (u.handleStatus f) := by
  refine h.trans ?_
  unfold State.handleStatus
  (repeat' split) <;> simp

@[simp] theorem Emits.handOwn {s u : State} (h : Emits s u) (f : Frame) : Emits s (u.handOwn f) := by
  refine h.trans ?_
  unfold State.handOwn
  split
  · simp
  · exact Emits.takeGroup (s := u) (u := { u with intake := u.intake.holding f }) ⟨rfl, .refl _ _⟩ _

@[simp] theorem Emits.abandonConverter {s u : State} (h : Emits s u) (c : Fin 5) : Emits s (u.abandonConverter c) := by
  refine h.trans ?_
  unfold State.abandonConverter
  (repeat' split) <;> simp

@[simp] theorem Emits.resync {s u : State} (h : Emits s u) (f : Frame) : Emits s (u.resync f) := by
  have e : Emits s ((u.abandonConverter f.converter).emitDevice .converterResync (some f.converter.val) u.time.now) :=
    (h.abandonConverter _).emitDevice _ _ _
  exact (Emits.handleStatus (by simpa using e) f).handOwn f

@[simp] theorem Emits.firstFrame {s u : State} (h : Emits s u) (f : Frame) : Emits s (u.firstFrame f) := by
  refine h.trans ?_
  unfold State.firstFrame
  dsimp only
  (repeat' split) <;> simp

@[simp] theorem Emits.judge {s u : State} (h : Emits s u) (f : Frame) : Emits s (u.judge f) := by
  refine h.trans ?_
  unfold State.judge
  dsimp only
  repeat' split
  · simp
  · simp
  · refine Emits.handOwn ?_ f
    simp
  · simp

@[simp] theorem Emits.takeHead {s u : State} (h : Emits s u) (p : Frame → Bool) : Emits s (u.takeHead p) := by
  refine h.trans ?_
  unfold State.takeHead
  repeat' split
  · simp
  · exact Emits.judge (.of_eq rfl rfl) _
  · simp

@[simp] theorem Emits.silenceExpired {s u : State} (h : Emits s u) (c : Fin 5) : Emits s (u.silenceExpired c) := by
  refine h.trans ?_
  unfold State.silenceExpired
  dsimp only
  (repeat' split) <;> simp

@[simp] theorem Emits.emitStageOne {s u : State} (h : Emits s u) (i : Fin 16) (ks : List TransitionKind) (x : Option Nat) (t : Stamp) :
    Emits s (u.emitStageOne i ks x t) :=
  h.foldl _ (fun v _ => by simp) ks

@[simp] theorem Emits.emitStageThree {s u : State} (h : Emits s u) (i : Fin 16) (es : List (TransitionKind × Option (Level × Level))) (x : Option Nat) (t : Stamp) :
    Emits s (u.emitStageThree i es x t) :=
  h.foldl _ (fun v _ => by simp) es

@[simp] theorem Emits.evaluate {s u : State} (h : Emits s u) (i : Fin 16) (ev : Option SecondHandOff) (t : Stamp) :
    Emits s (u.evaluate i ev t) := by
  refine h.trans ?_
  unfold State.evaluate
  dsimp only
  simp only [emits_reportIf, emits_handEvaluation]
  split <;> simp

@[simp] theorem Emits.enableTransformer {s u : State} (h : Emits s u) (i : Fin 16) :
    Emits s (u.enableTransformer i) := by
  refine h.trans ?_
  unfold State.enableTransformer
  dsimp only
  (repeat' split) <;> simp

@[simp] theorem Emits.energise {s u : State} (h : Emits s u) (i : Fin 16) : Emits s (u.energise i) := by
  refine h.trans ?_
  unfold State.energise
  (repeat' split) <;> simp

@[simp] theorem Emits.deenergise {s u : State} (h : Emits s u) (i : Fin 16) : Emits s (u.deenergise i) := by
  refine h.trans ?_
  unfold State.deenergise
  (repeat' split) <;> simp

@[simp] theorem Emits.takeSecond {s u : State} (h : Emits s u) (g : SecondHandOff) : Emits s (u.takeSecond g) := by
  refine h.trans ?_
  unfold State.takeSecond
  dsimp only
  (repeat' split) <;> simp

@[simp] theorem Emits.recordSecond {s u : State} (h : Emits s u) (i : Fin 16) (t : Stamp) :
    Emits s (u.recordSecond i t) := by
  refine h.trans ?_
  unfold State.recordSecond
  dsimp only
  (repeat' split) <;> simp

@[simp] theorem Emits.openEpisode {s u : State} (h : Emits s u) (t : Stamp) : Emits s (u.openEpisode t) := by
  exact h.trans (by simp [State.openEpisode])

@[simp] theorem Emits.closeEpisodeRecord {s u : State} (h : Emits s u) (e : Episode) (t : Stamp) (c : CloseCause) :
    Emits s (u.closeEpisodeRecord e t c) := by
  exact h.trans (by simp [State.closeEpisodeRecord])

@[simp] theorem Emits.trackerSecond {s u : State} (h : Emits s u) (t : Stamp) : Emits s (u.trackerSecond t) := by
  refine h.trans ?_
  unfold State.trackerSecond
  dsimp only
  (repeat' split) <;> simp

@[simp] theorem Emits.linkSecond {s u : State} (h : Emits s u) (t : Stamp) : Emits s (u.linkSecond t) := by
  refine h.trans ?_
  unfold State.linkSecond
  (repeat' split) <;> simp

@[simp] theorem Emits.missOverdue {s u : State} (h : Emits s u) : Emits s (u.missOverdue) :=
  h.foldl _ (fun v _ => by split <;> simp) _

@[simp] theorem Emits.captureSecond {s u : State} (h : Emits s u) (t : Stamp) : Emits s (u.captureSecond t) := by
  exact h.trans (by simp [State.captureSecond])

@[simp] theorem Emits.takeRecordTick {s u : State} (h : Emits s u) (i : Fin 16) : Emits s (u.takeRecordTick i) := by
  refine h.trans ?_
  unfold State.takeRecordTick
  (repeat' split) <;> simp

@[simp] theorem Emits.takeFieldTick {s u : State} (h : Emits s u) : Emits s (u.takeFieldTick) := by
  refine h.trans ?_
  unfold State.takeFieldTick
  (repeat' split) <;> simp

@[simp] theorem Emits.takeTrackerTick {s u : State} (h : Emits s u) : Emits s (u.takeTrackerTick) := by
  refine h.trans ?_
  unfold State.takeTrackerTick
  (repeat' split) <;> simp

@[simp] theorem Emits.takeLinkTick {s u : State} (h : Emits s u) : Emits s (u.takeLinkTick) := by
  refine h.trans ?_
  unfold State.takeLinkTick
  (repeat' split) <;> simp

@[simp] theorem Emits.recordClock {s u : State} (h : Emits s u) (t : Stamp) (i : Fin 16) :
    Emits s (u.recordClock t i) := by
  refine h.trans ?_
  unfold State.recordClock
  dsimp only
  (repeat' split) <;> simp

@[simp] theorem Emits.fieldClock {s u : State} (h : Emits s u) (t : Stamp) :
    Emits s (u.fieldClock t) := by
  refine h.trans ?_
  unfold State.fieldClock
  dsimp only
  (repeat' split) <;> simp

@[simp] theorem Emits.trackerClock {s u : State} (h : Emits s u) (t : Stamp) :
    Emits s (u.trackerClock t) := by
  refine h.trans ?_
  unfold State.trackerClock
  dsimp only
  (repeat' split) <;> simp

@[simp] theorem Emits.settleTracker {s u : State} (h : Emits s u) : Emits s u.settleTracker := by
  unfold State.settleTracker
  split <;> simp [h]

@[simp] theorem Emits.takeHandOff {s u : State} (h : Emits s u) (e : EvaluationHandOff) : Emits s (u.takeHandOff e) := by
  unfold State.takeHandOff
  split <;> simp [h]

@[simp] theorem Emits.settleClock {s u : State} (h : Emits s u) : Emits s u.settleClock := by
  refine Emits.settleTracker ?_
  split <;> simp [h]

@[simp] theorem Emits.linkClock {s u : State} (h : Emits s u) (t : Stamp) : Emits s (u.linkClock t) := by
  refine h.trans ?_
  unfold State.linkClock
  dsimp only
  (repeat' split) <;> simp

@[simp] theorem Emits.blocksClock {s u : State} (h : Emits s u) (t : Stamp) :
    Emits s (u.blocksClock t) :=
  ((((h.foldl _ (fun v i => by simp) allSixteen).fieldClock t).trackerClock t).captureSecond t).linkClock t

@[simp] theorem Emits.oscillatorSecond {s u : State} (h : Emits s u) :
    Emits s (u.oscillatorSecond) := by
  exact h.trans (by simp [State.oscillatorSecond])

@[simp] theorem Emits.supervisedSecond {s u : State} (h : Emits s u) :
    Emits s (u.supervisedSecond) := by
  refine h.trans ?_
  unfold State.supervisedSecond
  split
  · simp
  · exact Emits.blocksClock (by simp) _

@[simp] theorem Emits.ppsEdgeAt {s u : State} (h : Emits s u) (now : Nat) :
    Emits s (u.ppsEdgeAt now) := by
  refine h.trans ?_
  unfold State.ppsEdgeAt
  (repeat' split) <;> simp

@[simp] theorem Emits.ppsFails {s u : State} (h : Emits s u) : Emits s (u.ppsFails) := by
  refine h.trans ?_
  unfold State.ppsFails
  split
  · exact Emits.supervisedSecond (by simp)
  · simp

@[simp] theorem Emits.ppsUseWritten {s u : State} (h : Emits s u) (b : Bool) : Emits s (u.ppsUseWritten b) := by
  refine h.trans ?_
  unfold State.ppsUseWritten
  (repeat' split) <;> simp

@[simp] theorem Emits.deviceEffects {s u : State} (h : Emits s u) (a b : DeviceSettings) (now : Nat) :
    Emits s (u.deviceEffects a b now) := by
  unfold State.deviceEffects
  repeat first | exact h | refine Emits.whenChanged ?_ _ _ fun v => by simp

@[simp] theorem Emits.settingsEffects {s u : State} (h : Emits s u) (i : Fin 16) (a b : Settings) :
    Emits s (u.settingsEffects i a b) := by
  unfold State.settingsEffects
  repeat first | exact h | refine Emits.whenChanged ?_ _ _ fun v => by simp

end Sys2Proof.Machine
end

