-- ==== Sys2Proof/Laws/Lines.lean ====
section
/-! SUPPORT. The fuel of the line assemblers: with at least one look for each byte, more changes nothing. -/

namespace Sys2Proof.Machine

theorem scanSample_fuel (f : Nat) : ∀ (g : Nat) (bytes : List Byte), bytes.length ≤ f → bytes.length ≤ g →
    scanSample f bytes = scanSample g bytes := by
  induction f with
  | zero =>
    intro g bytes hf hg
    have : bytes = [] := List.length_eq_zero_iff.1 (by omega)
    subst this
    cases g <;> rfl
  | succ f ih =>
    intro g bytes hf hg
    cases bytes with
    | nil => cases g <;> rfl
    | cons b rest =>
      cases g with
      | zero => simp at hg
      | succ g =>
        simp only [List.length_cons] at hf hg
        have hr : scanSample f rest = scanSample g rest := ih g rest (by omega) (by omega)
        have hd : ∀ (n : Nat) (c : Byte) (after : List Byte), 0 < n → (b :: rest).drop n = c :: after →
            scanSample f (c :: after) = scanSample g (c :: after) := by
          intro n c after hn h
          have hl : ((b :: rest).drop n).length = (c :: after).length := by rw [h]
          simp only [List.length_drop, List.length_cons] at hl
          exact ih g _ (by simp only [List.length_cons]; omega) (by simp only [List.length_cons]; omega)
        have hk : ∀ k : FrameKind, 0 < k.bytes := fun k => by cases k <;> simp [FrameKind.bytes]
        unfold scanSample
        simp only [hr]
        split
        · rfl
        · cases rest with
          | nil => rfl
          | cons h more =>
            dsimp only
            cases headerKind h with
            | none => rfl
            | some kind =>
              dsimp only
              cases hx : (b :: h :: more).drop kind.bytes with
              | nil => rfl
              | cons c after => simp only [hd _ c after (hk kind) hx]

/-- What is still assembled is no longer than what was looked at. -/
theorem scanSample_length (f : Nat) : ∀ bytes : List Byte, (scanSample f bytes).2.length ≤ bytes.length := by
  induction f with
  | zero => intro bytes; exact Nat.le_refl _
  | succ f ih =>
    intro bytes
    cases bytes with
    | nil => exact Nat.le_refl _
    | cons b rest =>
      have hr := ih rest
      unfold scanSample
      split
      · simp only [List.length_cons]; omega
      · cases rest with
        | nil => simp
        | cons h more =>
          dsimp only
          cases headerKind h with
          | none => simp only [List.length_cons] at hr ⊢; omega
          | some kind =>
            dsimp only
            cases hx : (b :: h :: more).drop kind.bytes with
            | nil => exact Nat.le_refl _
            | cons c after =>
              have hl : ((b :: h :: more).drop kind.bytes).length = (c :: after).length := by rw [hx]
              have hc := ih (c :: after)
              simp only [List.length_drop, List.length_cons] at hl hc hr ⊢
              (repeat' split) <;> first | omega | (dsimp only; omega)

theorem idleSample_fuel (f : Nat) : ∀ (g : Nat) (bytes : List Byte), bytes.length ≤ f → bytes.length ≤ g →
    idleSample f bytes = idleSample g bytes := by
  induction f with
  | zero =>
    intro g bytes hf hg
    have : bytes = [] := List.length_eq_zero_iff.1 (by omega)
    subst this
    cases g <;> rfl
  | succ f ih =>
    intro g bytes hf hg
    cases g with
    | zero =>
      have : bytes = [] := List.length_eq_zero_iff.1 (by omega)
      subst this
      rfl
    | succ g =>
      match bytes with
      | [] => rfl
      | [_] => rfl
      | b :: h :: rest =>
        have hs := scanSample_length (h :: rest).length (h :: rest)
        simp only [List.length_cons] at hf hg hs
        have hi := ih g (scanSample (h :: rest).length (h :: rest)).2 (by simp only [List.length_cons]; omega)
          (by simp only [List.length_cons]; omega)
        unfold idleSample
        cases headerKind h with
        | none => rfl
        | some kind => simp only [hi]

theorem scanHost_fuel (f : Nat) : ∀ (g : Nat) (bytes : List Byte), bytes.length ≤ f → bytes.length ≤ g →
    scanHost f bytes = scanHost g bytes := by
  induction f with
  | zero =>
    intro g bytes hf hg
    have : bytes = [] := List.length_eq_zero_iff.1 (by omega)
    subst this
    cases g <;> rfl
  | succ f ih =>
    intro g bytes hf hg
    cases bytes with
    | nil => cases g <;> rfl
    | cons b rest =>
      cases g with
      | zero => simp at hg
      | succ g =>
        simp only [List.length_cons] at hf hg
        have hr : scanHost f rest = scanHost g rest := ih g rest (by omega) (by omega)
        unfold scanHost
        simp only [hr]
        split
        · rfl
        · cases rest with
          | nil => rfl
          | cons len more =>
            dsimp only
            split
            · rfl
            · cases hx : more.drop len.toNat with
              | nil => rfl
              | cons check after =>
                have hl : (more.drop len.toNat).length = (check :: after).length := by rw [hx]
                simp only [List.length_drop, List.length_cons] at hl hf hg
                simp only [ih g after (by omega) (by omega)]

end Sys2Proof.Machine
end

