-- ==== Sys2Proof/Laws/Memory.lean ====
section
/-! SUPPORT. Capture memory (R137): a read after a write, a write leaves other slots alone, and every memory operation
keeps the canonical form. -/

namespace Sys2Proof.Machine

/-- A memory in canonical form: its head, and its tail in canonical form above it. -/
theorem Memory.wf_cons {k : Nat} {v : Int} {rest : SlotMemory} :
    Memory.wf ((k, v) :: rest) = true ↔ v ≠ Config.lostCode ∧ (∀ c ∈ rest, k < c.1) ∧ Memory.wf rest = true := by
  simp [Memory.wf, and_assoc]

/-- A slot below every listed one reads as lost. -/
theorem slotRead_below {m : SlotMemory} {n : Nat} (h : ∀ c ∈ m, n < c.1) : slotRead m n = Config.lostCode := by
  induction m with
  | nil => rfl
  | cons c rest ih =>
    have hc := h c List.mem_cons_self
    have : c.1 ≠ n := by omega
    simp only [slotRead, if_neg this]
    exact ih fun d hd => h d (List.mem_cons_of_mem _ hd)

/-- The pair a write leaves is at the slot written. -/
theorem mem_slotCell {n : Nat} {v : Int} {c : Nat × Int} (h : c ∈ slotCell n v) : c = (n, v) ∧ v ≠ Config.lostCode := by
  unfold slotCell at h
  split at h
  · cases h
  · rename_i hv
    exact ⟨by simpa using h, hv⟩

/-- A write lists no slot but the one written and those that were listed. -/
theorem mem_slotWrite {m : SlotMemory} {n : Nat} {v : Int} {c : Nat × Int} (h : c ∈ slotWrite m n v) :
    c = (n, v) ∨ c ∈ m := by
  induction m with
  | nil => exact .inl (mem_slotCell h).1
  | cons d rest ih =>
    simp only [slotWrite] at h
    split at h
    · rcases List.mem_append.mp h with h | h
      · exact .inl (mem_slotCell h).1
      · exact .inr h
    · split at h
      · rcases List.mem_append.mp h with h | h
        · exact .inl (mem_slotCell h).1
        · exact .inr (List.mem_cons_of_mem _ h)
      · rcases List.mem_cons.mp h with h | h
        · exact .inr (h ▸ List.mem_cons_self)
        · exact (ih h).imp id (List.mem_cons_of_mem _)

/-- The cell of a write joins a canonical memory whose slots all lie above it. -/
theorem wf_slotCell_append {n : Nat} {v : Int} {m : SlotMemory} (h : Memory.wf m = true) (hm : ∀ c ∈ m, n < c.1) :
    Memory.wf (slotCell n v ++ m) = true := by
  unfold slotCell
  split
  · simpa using h
  · rename_i hv
    exact Memory.wf_cons.mpr ⟨hv, hm, h⟩

/-- Writing one slot keeps the canonical form. -/
theorem wf_slotWrite {m : SlotMemory} (n : Nat) (v : Int) (h : Memory.wf m = true) :
    Memory.wf (slotWrite m n v) = true := by
  induction m with
  | nil => simpa [slotWrite] using wf_slotCell_append (n := n) (v := v) (m := []) rfl (by simp)
  | cons d rest ih =>
    obtain ⟨k, w⟩ := d
    obtain ⟨hw, hk, hr⟩ := Memory.wf_cons.mp h
    simp only [slotWrite]
    split
    · rename_i hn
      refine wf_slotCell_append h fun c hc => ?_
      rcases List.mem_cons.mp hc with rfl | hc
      · exact hn
      · exact hn.trans (hk c hc)
    · split
      · rename_i hn
        exact wf_slotCell_append hr (hn ▸ hk)
      · refine Memory.wf_cons.mpr ⟨hw, fun c hc => ?_, ih hr⟩
        rcases mem_slotWrite hc with rfl | hc
        · simp only; omega
        · exact hk c hc

/-- The cell of a write reads as what was written; a slot that is not its own is read behind it. -/
theorem slotRead_slotCell_append (n : Nat) (v : Int) (m : SlotMemory) (j : Nat) :
    slotRead (slotCell n v ++ m) j = if n = j ∧ v ≠ Config.lostCode then v else slotRead m j := by
  unfold slotCell
  by_cases hv : v = Config.lostCode
  · simp [hv]
  · by_cases hn : n = j
    · simp [hv, hn, slotRead]
    · simp [hv, hn, slotRead]

/-- A slot reads as what was last written to it. -/
theorem slotRead_slotWrite_same {m : SlotMemory} (n : Nat) (v : Int) (h : Memory.wf m = true) :
    slotRead (slotWrite m n v) n = v := by
  induction m with
  | nil =>
    have := slotRead_slotCell_append n v [] n
    by_cases hv : v = Config.lostCode
    · simp [slotWrite, slotCell, hv, slotRead]
    · simpa [slotWrite, hv] using this
  | cons d rest ih =>
    obtain ⟨k, w⟩ := d
    obtain ⟨hw, hk, hr⟩ := Memory.wf_cons.mp h
    have low : ∀ u : SlotMemory, (∀ c ∈ u, n < c.1) → slotRead (slotCell n v ++ u) n = v := fun u hu => by
      rw [slotRead_slotCell_append]
      by_cases hv : v = Config.lostCode
      · simp [hv, slotRead_below hu]
      · simp [hv]
    simp only [slotWrite]
    split
    · rename_i hn
      refine low _ fun c hc => ?_
      rcases List.mem_cons.mp hc with rfl | hc
      · exact hn
      · exact hn.trans (hk c hc)
    · split
      · rename_i hn
        exact low _ (hn ▸ hk)
      · rename_i hn hne
        simp only [slotRead, if_neg (Ne.symm hne)]
        exact ih hr

/-- A write leaves every other slot as it was. -/
theorem slotRead_slotWrite_other {m : SlotMemory} {n j : Nat} (v : Int) (hj : n ≠ j) :
    slotRead (slotWrite m n v) j = slotRead m j := by
  induction m with
  | nil => simpa [slotWrite, hj] using slotRead_slotCell_append n v [] j
  | cons d rest ih =>
    obtain ⟨k, w⟩ := d
    simp only [slotWrite]
    split
    · rw [slotRead_slotCell_append]; simp [hj]
    · split
      · rename_i hn
        rw [slotRead_slotCell_append]
        simp [hj, slotRead, hn ▸ hj]
      · simp only [slotRead, ih]

/-- Storing codes keeps the canonical form. -/
theorem wf_storeCodes {m : SlotMemory} (pos : Nat) (codes : List Int) (h : Memory.wf m = true) :
    Memory.wf (storeCodes m pos codes) = true := by
  induction codes generalizing m pos with
  | nil => exact h
  | cons c rest ih => exact ih _ (wf_slotWrite _ c h)

/-- Storing a cycle keeps the canonical form. -/
theorem CaptureUnit.wf_storeCycle {c : CaptureUnit} (codes : List Int) (h : Memory.wf c.memory = true) :
    Memory.wf (c.storeCycle codes).memory = true :=
  wf_storeCodes c.writePos codes h

/-- A start keeps the canonical form. -/
theorem CaptureUnit.wf_started {c : CaptureUnit} (ring : List (List Int)) (ch : Fin 16) (cause : CaptureCause)
    (stamp : Stamp) (pre post : Nat) (delay : Option Nat) (h : Memory.wf c.memory = true) :
    Memory.wf (c.started ring ch cause stamp pre post delay).memory = true := by
  suffices ∀ (cycles : List (List Int)) (u : CaptureUnit), Memory.wf u.memory = true →
      Memory.wf (cycles.foldl (fun u codes => u.storeCycle codes) u).memory = true from this _ _ h
  intro cycles
  induction cycles with
  | nil => exact fun _ hu => hu
  | cons codes rest ih => exact fun u hu => ih _ (wf_storeCycle codes hu)

/-- Capture memory after reset is in canonical form. -/
theorem wf_reset_memory : Memory.wf State.reset.capture.memory = true := rfl

end Sys2Proof.Machine
end

