-- ==== Sys2Proof/WellFormed.lean ====
section
/-! DEFINITION. Which commands are well formed. Numbers of transformers, channels, converters and inputs
carry their range in their types; what is left is that a command whose event IS the arrival of a byte brings at
least that byte. -/

namespace Sys2Proof

/-- The three rows whose event is the arrival of a byte (R19, R168) bring at least one byte. -/
def WellFormed : Instr → Bool
  | .requestFrame bytes => !bytes.isEmpty
  | .sampleFrameDiscard bytes => !bytes.isEmpty
  | .hostFrameDiscard bytes => !bytes.isEmpty
  | .powerOnReset _ | .pinReset _ | .restartReset _ | .sampleFrame _ | .sampleLineIdle _
  | .takeCurrentFrame | .takeFieldFrame | .measuredSecond _ | .clockSecond | .standInSecond _
  | .fieldNone | .episodeQuietClose | .episodeHandoff _ | .captureMissed _ | .linkSilent
  | .silenceTimerExpiry _ | .ppsEdge _ | .ppsLost | .inputLevelChange _ _ _ | .debounceComplete _
  | .energised _ | .deenergised _ | .panelPress | .panelRelease | .panelTestStart | .panelTestTimeout
  | .contactReport | .levelTrigger _ | .captureDisableReport _ | .hostFrameGap _ | .unknownKindRequest
  | .identify | .readClock | .setClock | .readDeviceSettings | .writeDeviceSettings _
  | .readTransformerSettings | .writeTransformerSettings | .readLive | .snapshot | .readSnapshot
  | .acknowledge | .suppress | .loadGroundResponse | .readGroundResponse | .readField | .readContactMap
  | .writeContactMap | .fetchSummary | .changeNoticeMask | .fetchTransitions | .readEpisode
  | .readEpisodeEntry | .closeEpisode | .captureNow | .extendCapture | .listCaptures
  | .readCaptureSamples | .releaseCapture | .readIntakeStatus | .clearConverterFault | .saveSettings
  | .saveCompletion _ | .restart | .tenthAdvance | .replySent | .sampleDamagedByte _
  | .hostDamagedByte _ => true

end Sys2Proof
end

