-- ==== Sys2Proof/Laws/PerInstr.lean ====
section
/-! SUPPORT. A law of every command as syntax, one lemma per constructor: a command is well formed exactly when the bytes
that are its own event are there, and, since the table gives no row bits, no word spells it. -/

namespace Sys2Proof.Laws.CommandIsWhole

open Sys2Proof

/-- The bytes whose arrival IS the command's event (R19, R168), for the three rows that have them. -/
def arrivalBytes : Instr → Option (List Byte)
  | .requestFrame bytes | .sampleFrameDiscard bytes | .hostFrameDiscard bytes => some bytes
  | _ => none

/-- The law of one command. -/
def Statement (c : Instr) : Prop :=
  (WellFormed c = true ↔ ∀ bytes, arrivalBytes c = some bytes → bytes ≠ []) ∧
    ∀ nbits w : Nat, decodeTableWord nbits w ≠ some c

/-- A command that brings no arriving bytes of its own. -/
theorem of_none {c : Instr} (hw : WellFormed c = true) (ha : arrivalBytes c = none) : Statement c :=
  ⟨by simp [hw, ha], by simp [decodeTableWord]⟩

/-- A command whose event is the arrival of its bytes. -/
theorem of_some {c : Instr} {bytes : List Byte} (hw : WellFormed c = !bytes.isEmpty)
    (ha : arrivalBytes c = some bytes) : Statement c :=
  ⟨by simp [hw, ha], by simp [decodeTableWord]⟩

theorem powerOnReset (rateHigh : Bool) : Statement (.powerOnReset rateHigh) := of_none rfl rfl
theorem pinReset (rateHigh : Bool) : Statement (.pinReset rateHigh) := of_none rfl rfl
theorem restartReset (rateHigh : Bool) : Statement (.restartReset rateHigh) := of_none rfl rfl
theorem sampleFrame (bytes : List Byte) : Statement (.sampleFrame bytes) := of_none rfl rfl
theorem sampleLineIdle (bytes : List Byte) : Statement (.sampleLineIdle bytes) := of_none rfl rfl
theorem takeCurrentFrame : Statement .takeCurrentFrame := of_none rfl rfl
theorem takeFieldFrame : Statement .takeFieldFrame := of_none rfl rfl
theorem measuredSecond (t : Fin 16) : Statement (.measuredSecond t) := of_none rfl rfl
theorem clockSecond : Statement .clockSecond := of_none rfl rfl
theorem standInSecond (t : Fin 16) : Statement (.standInSecond t) := of_none rfl rfl
theorem fieldNone : Statement .fieldNone := of_none rfl rfl
theorem episodeQuietClose : Statement .episodeQuietClose := of_none rfl rfl
theorem episodeHandoff (t : Fin 16) : Statement (.episodeHandoff t) := of_none rfl rfl
theorem captureMissed (ch : Fin 16) : Statement (.captureMissed ch) := of_none rfl rfl
theorem linkSilent : Statement .linkSilent := of_none rfl rfl
theorem silenceTimerExpiry (c : Fin 5) : Statement (.silenceTimerExpiry c) := of_none rfl rfl
theorem ppsEdge (now : Nat) : Statement (.ppsEdge now) := of_none rfl rfl
theorem ppsLost : Statement .ppsLost := of_none rfl rfl
theorem inputLevelChange (pin : Pin) (level : Bool) (now : Nat) : Statement (.inputLevelChange pin level now) := of_none rfl rfl
theorem debounceComplete (pin : Pin) : Statement (.debounceComplete pin) := of_none rfl rfl
theorem energised (t : Fin 16) : Statement (.energised t) := of_none rfl rfl
theorem deenergised (t : Fin 16) : Statement (.deenergised t) := of_none rfl rfl
theorem panelPress : Statement .panelPress := of_none rfl rfl
theorem panelRelease : Statement .panelRelease := of_none rfl rfl
theorem panelTestStart : Statement .panelTestStart := of_none rfl rfl
theorem panelTestTimeout : Statement .panelTestTimeout := of_none rfl rfl
theorem contactReport : Statement .contactReport := of_none rfl rfl
theorem levelTrigger (ch : Fin 16) : Statement (.levelTrigger ch) := of_none rfl rfl
theorem captureDisableReport (ch : Fin 16) : Statement (.captureDisableReport ch) := of_none rfl rfl
theorem requestFrame (bytes : List Byte) : Statement (.requestFrame bytes) := of_some rfl rfl
theorem hostFrameGap (bytes : List Byte) : Statement (.hostFrameGap bytes) := of_none rfl rfl
theorem unknownKindRequest : Statement .unknownKindRequest := of_none rfl rfl
theorem identify : Statement .identify := of_none rfl rfl
theorem readClock : Statement .readClock := of_none rfl rfl
theorem setClock : Statement .setClock := of_none rfl rfl
theorem readDeviceSettings : Statement .readDeviceSettings := of_none rfl rfl
theorem writeDeviceSettings (now : Nat) : Statement (.writeDeviceSettings now) := of_none rfl rfl
theorem readTransformerSettings : Statement .readTransformerSettings := of_none rfl rfl
theorem writeTransformerSettings : Statement .writeTransformerSettings := of_none rfl rfl
theorem readLive : Statement .readLive := of_none rfl rfl
theorem snapshot : Statement .snapshot := of_none rfl rfl
theorem readSnapshot : Statement .readSnapshot := of_none rfl rfl
theorem acknowledge : Statement .acknowledge := of_none rfl rfl
theorem suppress : Statement .suppress := of_none rfl rfl
theorem loadGroundResponse : Statement .loadGroundResponse := of_none rfl rfl
theorem readGroundResponse : Statement .readGroundResponse := of_none rfl rfl
theorem readField : Statement .readField := of_none rfl rfl
theorem readContactMap : Statement .readContactMap := of_none rfl rfl
theorem writeContactMap : Statement .writeContactMap := of_none rfl rfl
theorem fetchSummary : Statement .fetchSummary := of_none rfl rfl
theorem changeNoticeMask : Statement .changeNoticeMask := of_none rfl rfl
theorem fetchTransitions : Statement .fetchTransitions := of_none rfl rfl
theorem readEpisode : Statement .readEpisode := of_none rfl rfl
theorem readEpisodeEntry : Statement .readEpisodeEntry := of_none rfl rfl
theorem closeEpisode : Statement .closeEpisode := of_none rfl rfl
theorem captureNow : Statement .captureNow := of_none rfl rfl
theorem extendCapture : Statement .extendCapture := of_none rfl rfl
theorem listCaptures : Statement .listCaptures := of_none rfl rfl
theorem readCaptureSamples : Statement .readCaptureSamples := of_none rfl rfl
theorem releaseCapture : Statement .releaseCapture := of_none rfl rfl
theorem readIntakeStatus : Statement .readIntakeStatus := of_none rfl rfl
theorem clearConverterFault : Statement .clearConverterFault := of_none rfl rfl
theorem saveSettings : Statement .saveSettings := of_none rfl rfl
theorem saveCompletion (agrees : Bool) : Statement (.saveCompletion agrees) := of_none rfl rfl
theorem restart : Statement .restart := of_none rfl rfl
theorem tenthAdvance : Statement .tenthAdvance := of_none rfl rfl
theorem replySent : Statement .replySent := of_none rfl rfl
theorem sampleDamagedByte (bytes : List Byte) : Statement (.sampleDamagedByte bytes) := of_none rfl rfl
theorem sampleFrameDiscard (bytes : List Byte) : Statement (.sampleFrameDiscard bytes) := of_some rfl rfl
theorem hostDamagedByte (bytes : List Byte) : Statement (.hostDamagedByte bytes) := of_none rfl rfl
theorem hostFrameDiscard (bytes : List Byte) : Statement (.hostFrameDiscard bytes) := of_some rfl rfl

end Sys2Proof.Laws.CommandIsWhole
end

