-- ==== Sys2Proof/Laws/SamplePath.lean ====
section
/-! SUPPORT. What a channel or the Field Estimator does with a sample neither reads nor changes Sample Intake's state, so
that the intake may be written before the samples are taken or after. -/

namespace Sys2Proof.Machine

/-- `s` with another Sample Intake. -/
def State.withIntake (x : Intake) (s : State) : State := { s with intake := x }

section
variable (x : Intake) (s : State)

@[simp] theorem State.withIntake_cfg : (s.withIntake x).cfg = s.cfg := rfl
@[simp] theorem State.withIntake_live : (s.withIntake x).live = s.live := rfl
@[simp] theorem State.withIntake_channels : (s.withIntake x).channels = s.channels := rfl
@[simp] theorem State.withIntake_field : (s.withIntake x).field = s.field := rfl
@[simp] theorem State.withIntake_capture : (s.withIntake x).capture = s.capture := rfl
@[simp] theorem State.withIntake_time : (s.withIntake x).time = s.time := rfl
@[simp] theorem State.withIntake_handOffs : (s.withIntake x).handOffs = s.handOffs := rfl
@[simp] theorem State.setCapture_withIntake (c : CaptureUnit) :
    (s.withIntake x).setCapture c = (s.setCapture c).withIntake x := rfl
@[simp] theorem State.setChannel_withIntake (ch : Fin 16) (c : Channel) :
    (s.withIntake x).setChannel ch c = (s.setChannel ch c).withIntake x := rfl
@[simp] theorem State.setField_withIntake (f : FieldEstimator) :
    (s.withIntake x).setField f = (s.setField f).withIntake x := rfl
@[simp] theorem State.setHandOffs_withIntake (h : HandOffs) :
    (s.withIntake x).setHandOffs h = (s.setHandOffs h).withIntake x := rfl
@[simp] theorem State.emitTransformer_withIntake (i : Fin 16) (k : TransitionKind) (l : Option (Level × Level))
    (X d : Option Nat) (t : Stamp) :
    (s.withIntake x).emitTransformer i k l X d t = (s.emitTransformer i k l X d t).withIntake x := rfl
@[simp] theorem State.startCapture_withIntake (ch : Fin 16) (k : CaptureCause) (t : Stamp) (pre post : Nat)
    (d : Option Nat) :
    (s.withIntake x).startCapture ch k t pre post d = (s.startCapture ch k t pre post d).withIntake x := rfl

@[simp] theorem State.serve_withIntake : (s.withIntake x).serve = s.serve.withIntake x := by
  simp only [State.serve, withIntake_capture]
  split
  · rfl
  · split <;> simp [*]

@[simp] theorem State.endCapture_withIntake (b : Bool) (t : Stamp) :
    (s.withIntake x).endCapture b t = (s.endCapture b t).withIntake x := by
  simp only [State.endCapture, withIntake_capture]
  split <;> simp

@[simp] theorem State.fillCapture_withIntake (r : CaptureRecord) (codes : List Int) :
    (s.withIntake x).fillCapture r codes = (s.fillCapture r codes).withIntake x := by
  cases hs : r.state <;> by_cases hr : Config.cycleSamples ≤ s.capture.freeSlots <;>
    by_cases ht : r.postStored + 1 = r.postTarget <;> cases hg : r.gap <;> simp [State.fillCapture, *]

@[simp] theorem State.offerCycle_withIntake (ch : Fin 16) (codes : List Int) :
    (s.withIntake x).offerCycle ch codes = (s.offerCycle ch codes).withIntake x := by
  simp only [State.offerCycle, withIntake_capture, setCapture_withIntake]
  repeat' split
  all_goals simp_all

@[simp] theorem State.completeSecond_withIntake (ch : Fin 16) (g : Nat) :
    (s.withIntake x).completeSecond ch g = (s.completeSecond ch g).withIntake x := rfl

@[simp] theorem State.completeBlock_withIntake (ch : Fin 16) (g : Nat) :
    (s.withIntake x).completeBlock ch g = (s.completeBlock ch g).withIntake x := by
  simp only [State.completeBlock, withIntake_channels, withIntake_cfg, setChannel_withIntake]
  split <;> rename_i h <;> first | exact if_pos h | exact if_neg h

@[simp] theorem State.completeCycle_withIntake (ch : Fin 16) (c : PartialCycle) :
    (s.withIntake x).completeCycle ch c = (s.completeCycle ch c).withIntake x := by
  simp only [State.completeCycle, withIntake_channels, withIntake_cfg, setChannel_withIntake, offerCycle_withIntake]
  split <;> simp_all

/-- A sample taken does not meet the intake. -/
@[simp] theorem State.takeSample_withIntake (ch : Fin 16) (code : Int) (tag : Tag) :
    (s.withIntake x).takeSample ch code tag = (s.takeSample ch code tag).withIntake x := by
  simp only [State.takeSample, withIntake_channels, withIntake_cfg, withIntake_live, setChannel_withIntake]
  split <;> simp_all

/-- A field group taken does not meet the intake. -/
@[simp] theorem State.takeFieldGroup_withIntake (n e : Int) (tag : Tag) :
    (s.withIntake x).takeFieldGroup n e tag = (s.takeFieldGroup n e tag).withIntake x := by
  simp only [State.takeFieldGroup, State.completeField, withIntake_field, withIntake_cfg, withIntake_time,
    setField_withIntake]
  split <;> simp [*]

/-- A group handed on does not meet the intake. -/
@[simp] theorem State.takeGroup_withIntake (g : SampleGroup) :
    (s.withIntake x).takeGroup g = (s.takeGroup g).withIntake x := by
  cases g <;> simp [State.takeGroup]

end

/-- The group of a fill frame that stands for a current frame: the fill sample of each channel, tagged by the converter's
state, under the sequence of the frame it stands for (R26, R29). -/
theorem State.fillGroup_current (c : Fin 4) (q : Byte) (selftest low : Bool) (codes : Vector Int 4) (seq : Byte)
    (s : State) :
    s.fillGroup (.current c q selftest low codes) seq =
      groupOf c seq fun ch => (s.fillAt ch, fillTag (s.converter (currentConverter c)).state) := by
  have h : ∀ p : Fin 4, converterOf (channelOf c p) = c := by decide +revert
  have k : ∀ p : Fin 4, s.fillCode c (channelOf c p) = s.fillAt (channelOf c p) := fun p => by
    simp only [State.fillCode, State.fillAt, h p]
    cases s.cfg.device.fill[c] <;> rfl
  simp only [State.fillGroup, groupOf, k]
  rfl

/-- The group of a current frame's own codes (R29). -/
theorem Frame.group_current (c : Fin 4) (q : Byte) (selftest low : Bool) (codes : Vector Int 4) :
    (Frame.current c q selftest low codes).group =
      groupOf c q fun ch => (codeAt codes ch, if low then .suspect else .good) := by
  have h : ∀ p : Fin 4, codeAt codes (channelOf c p) = codes[p] := by
    intro p
    simp only [codeAt, channelOf]
    congr 1
    omega
  simp only [Frame.group, groupOf, h]
  congr 1
  apply Vector.ext
  intro j hj
  have : j = 0 ∨ j = 1 ∨ j = 2 ∨ j = 3 := by omega
  rcases this with rfl | rfl | rfl | rfl <;> simp

end Sys2Proof.Machine
end

