-- ==== Sys2Proof/Tests/Slice0.lean ====
section
/-! SUPPORT. Tests of the model: ill-formed commands refused, values the manual works out, and for each statement that has
hypotheses a state and operands that meet them. Every expected value is the manual's, or worked by hand from its rule. -/

namespace Sys2Proof.Tests

open Sys2Proof Sys2Proof.Machine

-- Each test waits for the kernel, and tests that wait side by side hold a thread each.
set_option Elab.async false

/-! ### Well-formedness -/

theorem test_request_frame_needs_a_byte : WellFormed (.requestFrame []) = false := by decide +kernel
theorem test_sample_discard_needs_a_byte : WellFormed (.sampleFrameDiscard []) = false := by decide +kernel
theorem test_host_discard_needs_a_byte : WellFormed (.hostFrameDiscard []) = false := by decide +kernel
theorem test_request_frame_well_formed : WellFormed (.requestFrame [0xE7]) = true := by decide +kernel
theorem test_no_word_spells_a_command : decodeTableWord 8 0x01 = none := rfl

/-! ### Arithmetic: R21, the rounding of 00_scope.md, and worked figures -/

/-- CRC-8 with polynomial 0x07 over a single 1 is the polynomial itself. -/
theorem test_crc_of_one : crc8 [0x01] = 0x07 := by decide +kernel
/-- By hand, four bytes (the check of an Identify frame, LEN 2, KIND 1, TAG 1): 2 → 0x0E, 0x0F → 0x2D, 0x2C → 0xC4. -/
theorem test_crc_of_identify : crc8 [0x02, 0x01, 0x01] = 0xC4 := by decide +kernel
/-- 136.5 rounds to 137 and −136.5 to −137 (chapter 3, worked case). -/
theorem test_halves_round_away : roundDiv 1365 10 = 137 ∧ roundDiv (-1365) 10 = -137 := by decide +kernel
/-- C = 129 from Σs = 44,800 at G = 9155 and O_eff = −12 (chapter 3, worked case). -/
theorem test_cycle_value :
    (⟨List.replicate 32 1400, .good, 9155, -12⟩ : PartialCycle).value = 129 := by decide +kernel
/-- FS = 3000 at G = 9155; a gain of 1 gives FS = 0 (chapter 3, R84). -/
theorem test_full_scale : fullScale 9155 = 3000 ∧ fullScale 1 = 0 := by decide +kernel
/-- Six cycles of 1270 in all give B = 212 at 60 Hz (chapter 3). -/
theorem test_block_at_60_hz : roundDiv (210 + 212 + 209 + 211 + 215 + 213) 6 = 212 := by decide +kernel
/-- −8.5 rounds to −9 (chapter 3, learning). -/
theorem test_learned_offset : (⟨30, -408000, 48000⟩ : Learning).offset = -9 := by decide +kernel
/-- P = −301 and W = 60 (chapter 5, worked case). -/
theorem test_prediction_and_band :
    predict { defaultSettings with coefA := -250, coefB := 120 } 1320 238 = -301 ∧
      bandWidth { defaultSettings with wAbs := 50, wPct := 20 } (-301) = 60 := by decide +kernel
/-- S(420) = 893 and S(3000) = 15000 with the default breakpoints (chapter 7; R90). -/
theorem test_steady_values : steadyValue defaultBreakpoints 420 = 893 ∧ steadyValue defaultBreakpoints 3000 = 15000 ∧
    steadyValue defaultBreakpoints 0 = 0 := by decide +kernel
/-- Heating from 408 towards 2625 with τ_heat = 120 gives 426; from 444 towards 375 with τ_cool = 900 gives 443; a cooling
step of −1.5 is −2 (chapter 6, worked sequences). -/
theorem test_heat_steps :
    heatTowards { defaultSettings with tauHeat := 120, tauCool := 900 } 408 2625 = 426 ∧
      heatTowards { defaultSettings with tauHeat := 120, tauCool := 900 } 444 375 = 443 ∧
      heatTowards { defaultSettings with tauCool := 1200 } 1800 0 = 1798 := by decide +kernel
/-- E = (1320, 238), GOOD (chapter 4, worked case). -/
theorem test_field_estimate :
    let e := formEstimate [620, 440, 360]
      (Vector.ofFn fun j : Fin 64 => [⟨-300, 1200, false, false⟩, ⟨-200, 900, false, false⟩, ⟨100, 500, false, false⟩].getD
        j.val gapEntry) ⟨7, 0, 0⟩
    e.north = 1320 ∧ e.east = 238 ∧ e.quality = .good ∧ e.saturated = false := by decide +kernel

/-! ### Helpers -/

/-- The state a command leaves. -/
def after (c : Instr) (s : State) : State :=
  match exec c s with
  | .next t => t
  | _ => s

/-- The reset state with request `r` at the head of the buffer. -/
def asked (r : Request) (s : State) : State := { s with link := { s.link with buffer := [r] } }

/-- Nothing is being sent and no reset is due after reset, so a request put into the buffer can be taken. -/
theorem takes_asked {s : State} {k : Byte} {r : Request} (hs : s.link.sending = none) (hr : s.link.restart = .disarmed)
    (hk : r.kind = k) : (asked r s).Takes k r :=
  ⟨hs, by simp [asked, hr], rfl, hk⟩

/-- A transformer's settings with something to lose: enabled, learning, GUARD. -/
def enabledSettings : Settings := { defaultSettings with enabled := true }

/-- The reset state with transformer 4 enabled and in service state `service`. -/
def served (service : ServiceState) : State :=
  { State.reset with
    cfg := { defaultSet with transformers := defaultSet.transformers.set 4 enabledSettings }
    live := State.reset.live.set 4 (initialLive service 0) }

/-- A current frame of converter 1 with sequence `q`. -/
def currentFrame (q : Byte) (selftest : Bool) : Frame := .current 1 q selftest false #v[10, 20, 30, 40]

/-- A field frame with sequence `q`. -/
def fieldFrame (q : Byte) (selftest : Bool) : Frame := .field q selftest false 1000 (-2000)

/-- The reset state with frame `f` alone in the FIFO and its converter in state `v`, its silence timer just loaded. -/
def fed (f : Frame) (v : ConverterState) : State :=
  { State.reset with
    intake :=
      { State.reset.intake with
        fifo := [f]
        converters := State.reset.intake.converters.set f.converter ⟨v, some 10, false, false⟩ } }

/-- A capture record of channel 4 in state `st`, with `stored` of `target` cycles stored. -/
def record4 (st : CaptureState) (target stored : Nat) (gap : Option (Nat × Nat)) : CaptureRecord :=
  ⟨7, 4, .level, ⟨1, 2, 3⟩, none, st, 0, target, stored, 0, gap, false, 0⟩

/-- A DONE record that holds `cycles` cycles. -/
def doneRecord (number cycles : Nat) : CaptureRecord :=
  ⟨number, 3, .level, ⟨1, 2, 3⟩, none, .done, 0, cycles, cycles, 0, none, false, 0⟩

/-- A pending entry of channel `ch`. -/
def entryOf (ch : Fin 16) (stamp : Stamp) (wait : Nat) (expiry : Option Stamp) : PendingEntry :=
  ⟨ch, .request, stamp, 2, 20, wait, 5, expiry⟩

/-- `served .inService` with these capture records and pending entries. -/
def capturing (records : List CaptureRecord) (waiting : List PendingEntry) : State :=
  { served .inService with capture := { State.reset.capture with records := records, waiting := waiting } }

/-- A measured second of channel 4. -/
def second4 (quality : Grade) : SecondHandOff := ⟨4, -274, quality, 3000, 1600, 1600⟩

/-- `s` with these measured seconds waiting. -/
def handed (hs : List SecondHandOff) (s : State) : State :=
  { s with handOffs := { s.handOffs with seconds := hs } }

/-! ### The queue, reset and the laws -/

theorem witness_StepRunsFrontCommand :
    ({ State.reset with pending := [.clockSecond, .identify] } : State).pending = .clockSecond :: [.identify] ∧
      State.reset.pending = [] := by decide +kernel

/-- Nothing waits after reset, and its FIFO is empty. -/
theorem witness_EventsNotWaiting :
    State.reset.handOffs = initialHandOffs ∧ State.reset.capture.waiting = [] ∧ State.reset.intake.fifo = [] := by
  decide +kernel

theorem witness_EventsNotWaiting_other_head :
    (fed (fieldFrame 5 false) .absent).intake.fifo = [fieldFrame 5 false] ∧ (fieldFrame 5 false).isCurrent = false ∧
      (fed (currentFrame 5 false) .absent).intake.fifo = [currentFrame 5 false] ∧
      (currentFrame 5 false).isCurrent = true := by decide +kernel

theorem witness_EventsNotWaiting_duplicate :
    let s := fed (currentFrame 5 false) (.locked 5)
    let u := fed (fieldFrame 255 false) (.faulted 255)
    s.intake.converters[(currentFrame 5 false).converter].state = .locked (currentFrame 5 false).seq ∧
      u.intake.converters[(fieldFrame 255 false).converter].state = .faulted (fieldFrame 255 false).seq := by
  decide +kernel

/-- R182: a reset is due and the reply has been sent; and after reset it is not due. -/
theorem witness_ResetsRunStartUp :
    let s : State := { State.reset with link := { State.reset.link with restart := .due } }
    s.link.restart = .due ∧ s.link.sending = none ∧ State.reset.link.restart ≠ .due := by decide +kernel

/-- The reset state at tenth 9 with one command that touches what the laws speak of. -/
def started (c : Instr) : State :=
  { State.reset with pending := [c], time := { State.reset.time with now := ⟨0, 0, 9⟩ } }

/-- A step from it answers a next state. -/
def answersNext (s : State) : Bool :=
  match step s with
  | .next _ => true
  | _ => false

theorem witness_StepKeepsLinkLaw : LinkLaw (started .clockSecond) ∧ answersNext (started .clockSecond) = true :=
  ⟨by constructor <;> decide +kernel, by decide +kernel⟩

theorem witness_StepKeepsCaptureLaw :
    CaptureLaw (started .clockSecond) ∧ answersNext (started .clockSecond) = true :=
  ⟨by constructor <;> decide +kernel, by decide +kernel⟩

/-- The default settings stand in every range and order of R1. -/
theorem default_settings_ok : SettingsOk defaultSettings := by constructor <;> decide +kernel

theorem settings_law_started : SettingsLaw (started .clockSecond) := by
  refine ⟨⟨fun i => ?_, by constructor <;> decide, by decide +kernel, by decide +kernel⟩,
    fun h => absurd h (by decide +kernel), fun c h => (by cases h)⟩
  have hs : (started .clockSecond).cfg.transformers[i] = defaultSettings := by revert i; decide +kernel
  rw [hs]
  exact default_settings_ok

theorem witness_StepKeepsTransformerLaw :
    TransformerLaw (started .clockSecond) ∧ answersNext (started .clockSecond) = true := by
  refine ⟨⟨settings_law_started, fun i => ?_⟩, by decide +kernel⟩
  have hl : (started .clockSecond).live[i] = initialLive .off 0 := by revert i; decide +kernel
  have hc : (started .clockSecond).channels[i] = initialChannel := by revert i; decide +kernel
  have hs : (started .clockSecond).cfg.transformers[i] = defaultSettings := by revert i; decide +kernel
  rw [hl, hc, hs]
  constructor <;> decide

theorem witness_StepKeepsThermalLaw :
    ThermalLaw (started .clockSecond) ∧ answersNext (started .clockSecond) = true :=
  ⟨⟨settings_law_started, by decide +kernel, by decide +kernel⟩, by decide +kernel⟩

theorem intake_law_started : IntakeLaw (started .clockSecond) := by
  have hv : ∀ c : Fin 5, (started .clockSecond).intake.converters[c] = initialConverter := by decide +kernel
  refine ⟨by decide +kernel, fun ch => ?_, by decide +kernel, fun c n h => ?_, fun c h => ?_⟩
  rotate_left
  · rw [hv c] at h; cases h
  · rw [hv c] at h; exact absurd rfl h
  have hc : (started .clockSecond).channels[ch] = initialChannel := by revert ch; decide +kernel
  rw [hc]
  exact ⟨fun p h => (by cases h), by decide, by decide, by decide, fun r h => (by cases h)⟩

theorem witness_StepKeepsIntakeLaw :
    IntakeLaw (started .clockSecond) ∧ answersNext (started .clockSecond) = true :=
  ⟨intake_law_started, by decide +kernel⟩

theorem witness_StepKeepsCurrentsLaw :
    CurrentsLaw (started .clockSecond) ∧ answersNext (started .clockSecond) = true := by
  have hl : ∀ i : Fin 16, (started .clockSecond).live[i] = initialLive .off 0 := by decide +kernel
  refine ⟨⟨intake_law_started, fun i m h => ?_, fun i m h => ?_, fun i m h => ?_, by decide +kernel, by decide +kernel,
    by decide +kernel⟩, by decide +kernel⟩ <;> (rw [hl i] at h; cases h)

theorem witness_StepKeepsEpisodeLaw :
    EpisodeLaw (started .clockSecond) ∧ answersNext (started .clockSecond) = true :=
  ⟨by constructor <;> first | exact trivial | decide +kernel, by decide +kernel⟩

theorem witness_StepKeepsContactLaw :
    ContactLaw (started .clockSecond) ∧ answersNext (started .clockSecond) = true := by
  refine ⟨⟨fun k => ⟨?_, ?_, ?_, ?_⟩, by decide +kernel, by decide +kernel, by decide +kernel, fun n h => by cases h⟩,
    by decide +kernel⟩ <;> (revert k; decide +kernel)

theorem witness_StepKeepsTimeLaw : TimeLaw (started .clockSecond) ∧ answersNext (started .clockSecond) = true :=
  ⟨by constructor <;> decide +kernel, by decide +kernel⟩

/-! ### Records and arithmetic -/

/-- The least of every range of R1 that an order leaves free. -/
def leastSettings : Settings :=
  { defaultSettings with
    gain := 1, offsetSet := -2047, iWatch := 1, iWarn := 2, iAlarm := 3, hyst := 0
    dWatch := 0, dWarn := 0, dAlarm := 0, dFall := 0, breakpoints := Vector.ofFn fun k => ⟨k.val + 1, 0⟩
    tauHeat := 10, tauCool := 10, tWarn := 1, tAlarm := 2, tHys := 0, coefA := -32768, coefB := -32768
    wAbs := 1, wPct := 0, doubtD := 1, reminder := 60, capturePre := 0, capturePost := 1 }

theorem least_settings_ok : SettingsOk leastSettings := by constructor <;> decide +kernel

theorem witness_RecordsReadBack :
    SettingsOk defaultSettings ∧ SettingsOk leastSettings ∧ DeviceOk defaultDevice ∧ defaultMap.minLevel ≠ .normal :=
  ⟨default_settings_ok, least_settings_ok, by constructor <;> decide, by decide⟩

/-- A line that hunts, and one that holds the sync byte of a frame just closed. -/
theorem witness_ValidSampleFrameArrives :
    State.reset.intake.line = [] ∧
      ({ State.reset with intake := { State.reset.intake with line := [0x96] } } : State).intake.line = [0x96] :=
  ⟨rfl, rfl⟩

/-- Headers 0x01 and 0x42, frames of 13 and 11 bytes, check bytes that differ, and no 0x96 inside (R19, R20). -/
theorem witness_DamagedSampleFrames_crc :
    let covered : List Byte := 0x01 :: List.replicate 10 0
    let field : List Byte := 0x42 :: List.replicate 8 0
    headerKind (covered.getD 0 0) = some (.current 0) ∧ covered.length + 2 = (FrameKind.current 0).bytes ∧
      crc8 covered ≠ 0x55 ∧ (0x96 : Byte) ∉ covered ∧ headerKind (field.getD 0 0) = some .field ∧
      field.length + 2 = FrameKind.field.bytes ∧ crc8 field ≠ 0x55 ∧ (0x96 : Byte) ∉ field ∧
      (0x55 : Byte) ≠ 0x96 := by decide +kernel

/-- A frame that began on a false sync does not hide the true frame starting inside it (R20). -/
theorem test_rewind_finds_the_inner_frame :
    let covered : List Byte := [0x42, 0x05, 0x00, 0x00, 0x03, 0xE8, 0xFF, 0xF8, 0x30]
    let s := after (.sampleLineIdle (0x96 :: 0x01 :: 0x96 :: (covered ++ [crc8 covered]))) State.reset
    s.intake.crcSeen = true ∧ s.intake.fifo = [fieldFrame 5 false] ∧ crc8 (0x01 :: 0x96 :: covered) ≠ crc8 covered := by
  decide +kernel

/-- A frame complete but for its closing, a frame one byte short, a byte behind a complete one; noise; and headers that do
not pass, 0x96 itself among them. -/
theorem witness_DamagedSampleFrames_discards :
    State.reset.intake.line = [] ∧ headerKind 0x31 = some (.current 3) ∧
      (List.replicate 11 (0 : Byte)).length + 2 = (FrameKind.current 3).bytes ∧
      (List.replicate 10 (0 : Byte)).length + 2 < (FrameKind.current 3).bytes ∧ (0x00 : Byte) ≠ 0x96 ∧
      (0x96 : Byte) ∉ ([0x42, 0x00] : List Byte) ∧ headerKind 0x96 = none ∧ headerKind 0x41 = none := by decide +kernel

/-- Every cycle is empty, so none completes with a few more samples. -/
theorem short_cycles (f : Frame) (v : ConverterState) (c : Fin 4) (n : Nat) : (fed f v).ShortCycles c n := by
  intro p cyc h
  simp [fed, State.reset, initialChannel] at h

/-- In step and eight frames past it, without SELFTEST_FAIL and with it, LOCKED and FAULTED. -/
theorem witness_InStepCurrentFrame :
    (∀ f v, (fed f v).ShortCycles 1 9) ∧ ((0 : Byte) - 255).toNat = 1 ∧ ((8 : Byte) - 255).toNat = 9 ∧
      (fed (currentFrame 0 false) (.locked 255)).intake.fifo = [currentFrame 0 false] ∧
      (fed (currentFrame 8 true) (.locked 255)).intake.fifo = [currentFrame 8 true] ∧
      (fed (currentFrame 8 true) (.locked 255)).intake.converters[currentConverter 1].state = .locked 255 ∧
      (fed (currentFrame 8 false) (.faulted 255)).intake.converters[currentConverter 1].state = .faulted 255 := by
  and_intros <;> first | exact fun f v => short_cycles f v 1 9 | decide +kernel

/-- Converter 1's frame in step, the cycles of its four channels one sample short; channel 4's completes its second. -/
def fullCycles (v : ConverterState) : State :=
  { fed (currentFrame 0 false) v with
    channels := Vector.replicate 16
      { initialChannel with
        cycle := some ⟨List.replicate 31 1400, .good, 9155, -12⟩
        block := ⟨4, 516, .good⟩
        second := ⟨9, 1170, .good, 0, 0⟩ } }

/-- A frame of which every sample completes its cycle. -/
theorem witness_InStepCurrentFrame_completes :
    (fullCycles (.locked 255)).intake.fifo = [currentFrame 0 false] ∧ ¬ (fullCycles (.locked 255)).ShortCycles 1 1 ∧
      (fullCycles (.locked 255)).intake.converters[currentConverter 1].state = .locked 255 ∧
      (fullCycles (.faulted 255)).intake.converters[currentConverter 1].state = .faulted 255 :=
  ⟨rfl, fun h => absurd (h 0 _ rfl) (by decide), by decide +kernel, by decide +kernel⟩

/-- A frame that completes the second of each of its channels hands the four seconds on in the order of its positions; in
the cycles of channels 0 to 3, of converter 0, nothing changes (R18, R41). -/
theorem test_frame_completes_seconds :
    let t := after .takeCurrentFrame (fullCycles (.locked 255))
    t.handOffs.seconds.map SecondHandOff.channel = [4, 5, 6, 7] ∧
      t.channels[3] = (fullCycles (.locked 255)).channels[3] := by decide +kernel

/-- A gap of one frame: its fill repeats the held value tagged FILLED, and the frame's own code follows (R25, R26). -/
theorem test_current_gap :
    let t := after .takeCurrentFrame (fed (currentFrame 1 false) (.locked 255))
    t.channels[5].cycle.map (fun c => (c.codes, c.grade)) = some ([0, 20], .filled) ∧ t.intake.held[5] = 20 := by
  decide +kernel

/-- SELFTEST_FAIL: the code is replaced by a FAULT fill, and the contacts are told of converter 1 (R28, R157). -/
theorem test_current_selftest :
    let t := after .takeCurrentFrame (fed (currentFrame 0 true) (.locked 255))
    t.channels[5].cycle.map (fun c => (c.codes, c.grade)) = some ([0], .fault) ∧ t.intake.held[5] = 0 ∧
      t.handOffs.reports = [.converter 1] ∧ t.intake.converters[1].state = .faulted 0 := by decide +kernel

/-- Sequence differences 1 and 9, with SELFTEST_FAIL and FAULTED too, and an empty partial field second. -/
theorem witness_FieldGapIsFilled :
    (fed (fieldFrame 4 false) (.locked 3)).intake.converters[(4 : Fin 5)].state = .locked 3 ∧
      ((4 : Byte) - 3).toNat = 1 ∧ ((4 : Byte) - 251).toNat = 9 ∧
      (fed (fieldFrame 4 true) (.locked 251)).intake.fifo = [fieldFrame 4 true] ∧
      (fed (fieldFrame 4 false) (.faulted 251)).intake.converters[(4 : Fin 5)].state = .faulted 251 ∧
      (fed (fieldFrame 4 false) (.faulted 251)).field.partialField.count + 9 < 10 := by decide +kernel

/-- A field second with nine groups, after a sound one, linked; and one after none. -/
def nineGroups (last : Option FieldMeans) : State :=
  { fed (fieldFrame 4 false) (.locked 3) with
    field := { initialField with partialField := ⟨9, 11195000, -821995, true⟩, lastMeans := last, linked := last.isSome } }

theorem witness_FieldSecondCompletes :
    let l : FieldMeans := ⟨1119900, -83600, true, ⟨7, 0, 0⟩⟩
    (nineGroups (some l)).intake.fifo = [fieldFrame 4 false] ∧ (4 : Byte) = 3 + 1 ∧
      (nineGroups (some l)).field.partialField.count = 9 ∧ (nineGroups (some l)).cfg.taps.length ≤ 64 ∧
      (nineGroups (some l)).field.lastMeans = some l ∧ (nineGroups (some l)).field.linked = true ∧
      (nineGroups (some l)).field.partialField.sound = true ∧ l.sound = true ∧
      (nineGroups none).field.lastMeans = none := by decide +kernel

/-- A group tagged FAULT as the tenth, and a group that does not complete its second. -/
theorem witness_FieldSecondCompletes_groups :
    (nineGroups none).field.partialField.count = 9 ∧ (nineGroups none).cfg.taps.length ≤ 64 ∧
      ((nineGroups none).field.partialField.sound && decide (Tag.fault ≠ .fault)) = false ∧
      State.reset.field.partialField.count < 9 := by decide +kernel

/-- 1,119,599.5 rounds to 1,119,600 and −82,399.5 to −82,400; dN = −300 and dE = 1200 (chapter 4). -/
theorem test_field_second :
    let t := after .takeFieldFrame
      { nineGroups (some ⟨1119900, -83600, true, ⟨7, 0, 0⟩⟩) with
        intake := { (fed (fieldFrame 4 false) (.locked 3)).intake with fifo := [.field 4 false false 995 (-2000)] } }
    t.field.lastMeans = some ⟨1119600, -82400, true, ⟨0, 0, 0⟩⟩ ∧ t.field.history[0] = ⟨-300, 1200, false, false⟩ ∧
      t.field.history[1] = gapEntry ∧ t.field.age = 0 := by decide +kernel

theorem no_active {p : Fin 16 → Prop} {s : State} (h : s.capture.records = []) : s.NoActive p := fun r hr => by
  rw [h] at hr; cases hr

/-- `fed` with these capture records, of which one of channel 4, and with a pending entry of channel 9. -/
def fedCapturing (f : Frame) (v : ConverterState) (records : List CaptureRecord) : State :=
  { fed f v with
    capture := { State.reset.capture with records := records, waiting := [entryOf 9 ⟨0, 0, 0⟩ 0 none] } }

/-- LOCKED and FAULTED; no capture of the converter's channels active, and one behind a DONE one. -/
theorem witness_ResyncAbandonsPartialWork :
    let s := fedCapturing (currentFrame 10 true) (.locked 255) [doneRecord 1 5, record4 .suspended 20 3 (some (0, 3))]
    (fed (fieldFrame 10 false) (.locked 0)).intake.fifo = [fieldFrame 10 false] ∧
      (fed (fieldFrame 10 false) (.locked 0)).intake.converters[(4 : Fin 5)].state = .locked 0 ∧
      (fed (fieldFrame 10 true) (.faulted 0)).intake.converters[(4 : Fin 5)].state = .faulted 0 ∧
      10 ≤ ((10 : Byte) - 0).toNat ∧ s.intake.fifo = [currentFrame 10 true] ∧
      s.intake.converters[currentConverter 1].state = .locked 255 ∧ 10 ≤ ((10 : Byte) - 255).toNat ∧
      (fed (currentFrame 10 true) (.faulted 255)).intake.converters[currentConverter 1].state = .faulted 255 ∧
      s.capture.records = [doneRecord 1 5] ++ record4 .suspended 20 3 (some (0, 3)) :: [] ∧
      (∀ q ∈ [doneRecord 1 5] ++ ([] : List CaptureRecord), q.state = .done) ∧
      (record4 .suspended 20 3 (some (0, 3))).state ≠ .done ∧
      converterOf (record4 .suspended 20 3 (some (0, 3))).channel = 1 ∧
      (fed (currentFrame 10 false) (.locked 255)).NoActive (fun ch => converterOf ch = 1) := by
  and_intros <;> first | exact no_active rfl | decide +kernel

/-- The capture ends truncated and the entry of channel 9 starts, before CONVERTER_RESYNC and CONVERTER_FAULT (R27, R145,
R147). -/
theorem test_resync_ends_capture :
    let t := after .takeCurrentFrame (fedCapturing (currentFrame 10 true) (.locked 255) [record4 .filling 20 3 none])
    (t.link.transitions.map fun r => r.kind).drop 1 = [.captureDone, .converterResync, .converterFault] ∧
      (t.capture.records.map fun r => (r.channel, r.state, r.truncated)) = [(4, .done, true), (9, .filling, false)] ∧
      t.capture.waiting = [] := by decide +kernel

/-- Converter 2 restarts: d = 11, so CONVERTER_RESYNC with detail 2 joins the queue (chapter 2, worked sequence). -/
theorem test_resync_of_converter_2 :
    let t := after .takeCurrentFrame (fed (.current 2 10 false false #v[431, 0, 0, 0]) (.locked 255))
    t.intake.converters[2] = ⟨.locked 10, some 10, false, true⟩ ∧ t.intake.held[8] = 431 ∧
      (t.link.transitions.map fun r => (r.kind, r.detail)).getLast? = some (.converterResync, some 2) := by decide +kernel

theorem witness_ConverterComesAndGoes_first_frame :
    (fed (fieldFrame 200 true) .absent).intake.fifo = [fieldFrame 200 true] ∧
      (fed (fieldFrame 200 true) .absent).intake.converters[(4 : Fin 5)].state = .absent ∧
      (fed (currentFrame 7 false) .absent).intake.fifo = [currentFrame 7 false] ∧
      (fed (currentFrame 7 false) .absent).intake.converters[currentConverter 1].state = .absent ∧
      (fed (currentFrame 7 false) .absent).ShortCycles 1 1 := by
  and_intros <;> first | exact short_cycles _ _ 1 1 | decide +kernel

/-- `s` with converter `c` silent for its whole second. -/
def silentOf (c : Fin 5) (s : State) : State :=
  { s with intake := { s.intake with
    converters := s.intake.converters.set c { s.intake.converters[c] with timer := some 0 } } }

/-- A timer stopped, one with a tenth still to run, and one run out of each state, without a capture to end and with one. -/
theorem witness_ConverterComesAndGoes_silence :
    let ended := silentOf 1 (fedCapturing (currentFrame 1 false) (.locked 1) [record4 .filling 20 3 none])
    State.reset.intake.converters[(0 : Fin 5)].timer ≠ some 0 ∧
      (fed (fieldFrame 1 false) .absent).intake.converters[(4 : Fin 5)].timer ≠ some 0 ∧
      (silentOf 4 (fed (fieldFrame 1 false) .absent)).intake.converters[(4 : Fin 5)] = ⟨.absent, some 0, false, false⟩ ∧
      (silentOf 4 (fed (fieldFrame 1 false) (.faulted 1))).intake.converters[(4 : Fin 5)]
        = ⟨.faulted 1, some 0, false, false⟩ ∧
      (silentOf 1 (fed (currentFrame 1 false) (.locked 1))).intake.converters[(1 : Fin 5)]
        = ⟨.locked 1, some 0, false, false⟩ ∧
      (silentOf 1 (fed (currentFrame 1 false) (.locked 1))).NoActive (fun ch => (converterOf ch).val = 1) ∧
      ended.intake.converters[(1 : Fin 5)].timer = some 0 ∧
      (converterOf (record4 .filling 20 3 none).channel).val = (1 : Fin 5).val ∧
      ended.capture.records = [] ++ record4 .filling 20 3 none :: [] := by
  and_intros <;> first | exact no_active rfl | decide +kernel

/-- R23: an arrival taken first reloads the timer of converter 4, which then does not run out; taken first, the expiry makes it
ABSENT with CONVERTER_ABSENT, and the arrival starts the timer afresh. -/
theorem test_arrival_and_expiry :
    let silent := silentOf 4 (fed (fieldFrame 1 false) (.locked 0))
    let body : List Byte := [0x42, 0x07, 0x00, 0x00, 0x00, 0x01, 0x00, 0x00, 0x02]
    let arrival := Instr.sampleFrame (0x96 :: (body ++ [crc8 body]))
    let expiry := Instr.silenceTimerExpiry 4
    (after expiry (after arrival silent)).intake.converters[4] = ⟨.locked 0, some 10, false, false⟩ ∧
      (after arrival (after expiry silent)).intake.converters[4] = ⟨.absent, some 10, false, false⟩ ∧
      ((after expiry silent).link.transitions.map fun r => r.kind).getLast? = some .converterAbsent := by decide +kernel

/-- R24, R23: a frame taken ahead of an expiry that waits leaves the timer at 0, so the expiry makes the converter ABSENT again;
taken behind it, the frame starts the timer. -/
theorem test_first_frame_and_expiry :
    let silent := silentOf 4 (fed (fieldFrame 1 false) .absent)
    let expiry := Instr.silenceTimerExpiry 4
    (after .takeFieldFrame silent).intake.converters[4] = ⟨.locked 1, some 0, false, false⟩ ∧
      (after expiry (after .takeFieldFrame silent)).intake.converters[4] = ⟨.absent, none, false, false⟩ ∧
      (after .takeFieldFrame (after expiry silent)).intake.converters[4] = ⟨.locked 1, some 10, false, false⟩ := by
  decide +kernel

/-- R23: a tenth of a second is counted at each tenth, at one that TRACKING holds at 9 too, and at a clock second. -/
theorem test_tenths_of_silence :
    let s := fed (fieldFrame 1 false) (.locked 0)
    let held : State := { s with time := ⟨⟨0, 0, 9⟩, none, .tracking, none⟩ }
    (after .tenthAdvance s).intake.converters[4].timer = some 9 ∧
      (after .tenthAdvance held).intake.converters[4].timer = some 9 ∧ (after .tenthAdvance held).time = held.time ∧
      (after (.ppsEdge 1000) held).intake.converters[4].timer = some 9 := by decide +kernel

/-- R29: the fills of a gap carry the sequences they stand for, 255 and 0 here, and the frame's own group its own. -/
theorem test_groups_carry_sequences :
    let s := fed (fieldFrame 1 false) (.locked 254)
    let after2 := (s.takeGroup (.field 255 0 0 .filled)).takeGroup (.field 0 0 0 .filled)
    (s.handFills (fieldFrame 1 false) 255 2) = after2 ∧ (fieldFrame 1 false).group = .field 1 1000 (-2000) .good ∧
      s.fillGroup (fieldFrame 1 false) 255 = .field 255 0 0 .filled := by decide +kernel

/-! ### The Current Extractor and offset learning -/

/-- Sample at the limit, sample off it, each tag. -/
theorem witness_GradesOfSamples :
    (Tag.good ≠ .fault ∧ (32767 : Int) = 32767) ∧ ((-32767 : Int) ≠ 32767 ∧ (-32767 : Int) ≠ -32768) := by decide

/-- A clipped repeat in a held fill is CLIPPED, a FAULT fill stays FAULT (R37). -/
theorem test_grades : gradeOf .filled (-32768) = .clipped ∧ gradeOf .fault 32767 = .fault := by decide

/-- Channel 4 one sample before the end of a cycle, with `blocks` blocks in its second and `cycles` cycles in its block. -/
def almost (cycles blocks : Nat) : State :=
  { State.reset with
    channels := State.reset.channels.set 4
      { initialChannel with
        cycle := some ⟨List.replicate 31 1400, .good, 9155, -12⟩
        block := ⟨cycles, 129 * cycles, .good⟩
        second := ⟨blocks, 130 * blocks, .good, 0, 0⟩ } }

/-- A block that goes on, one that completes in a second that goes on, and one that completes its second. -/
theorem witness_CyclesAndSecondsComplete :
    let cyc : PartialCycle := ⟨List.replicate 31 1400, .good, 9155, -12⟩
    (almost 3 0).channels[4].cycle = some cyc ∧ cyc.codes.length = 31 ∧
      (almost 3 0).channels[4].block.count + 1 < 5 ∧ (almost 3 0).cfg.device.mains = .hz50 ∧
      (almost 4 8).channels[4].block.count + 1 = 5 ∧ (almost 4 8).channels[4].second.count < 9 ∧
      (almost 4 9).channels[4].cycle = some cyc ∧ (almost 4 9).channels[4].block.count + 1 = 5 ∧
      (almost 4 9).channels[4].second.count = 9 := by
  and_intros <;> decide +kernel

/-- The first sample of a cycle, and the 31st. -/
theorem witness_CyclesAndSecondsComplete_joins :
    let cyc : PartialCycle := ⟨List.replicate 30 1400, .good, 9155, -12⟩
    State.reset.channels[4].cycle = none ∧ cyc.codes.length < 31 ∧
      ({ State.reset with channels := State.reset.channels.set 4 { initialChannel with cycle := some cyc } } :
        State).channels[4].cycle = some cyc := by decide +kernel

/-- C = 129 joins the block (chapter 3, worked case). -/
theorem test_cycle_completes :
    ((almost 0 0).takeSample 4 1400 .good).channels[4].block = ⟨1, 129, .good⟩ := by decide +kernel

theorem witness_SecondsOutOfService :
    State.reset.live[4].service = .off ∧ (served .outOfService).live[4].service = .outOfService ∧
      (served .outOfService).cfg.transformers[4].learning = false ∧
      (handed [second4 .good] (served .outOfService)).handOffs.seconds = [] ++ second4 .good :: [] ∧
      (second4 .good).channel = 4 := by decide +kernel

/-- Transformer 4 learning, 60 s out of service, with `seconds` seconds gathered whose mean is `mean`. -/
def learning (seconds : Nat) (mean : Int) : State :=
  { served .outOfService with
    cfg :=
      { defaultSet with
        transformers := defaultSet.transformers.set 4 { enabledSettings with learning := true, offsetSet := -12 } }
    channels := State.reset.channels.set 4
      { initialChannel with deenergisedTime := 60, learning := ⟨seconds, mean * (1600 * seconds : Nat), 1600 * seconds⟩ } }

/-- A SUSPECT second; a GOOD one that is not the 30th; the 30th with a learned offset within 256 of O_set, at 256 and beyond
it. -/
theorem witness_SecondsOutOfService_learning :
    let learned := fun (mean : Int) => max (-2047) (min 2047
      (roundDiv ((learning 29 mean).channels[4].learning.sum + 1600 * mean)
        ((learning 29 mean).channels[4].learning.codes + 1600)))
    (learning 28 0).live[4].service = .outOfService ∧ (learning 28 0).cfg.transformers[4].learning = true ∧
      60 ≤ (learning 28 0).channels[4].deenergisedTime ∧ (second4 .suspect).quality ≠ .good ∧
      (learning 28 0).channels[4].learning.seconds + 1 < 30 ∧ (learning 29 0).channels[4].learning.seconds + 1 = 30 ∧
      (learned 244 - (learning 29 244).cfg.transformers[4].offsetSet).natAbs = 256 ∧
      256 < (learned 300 - (learning 29 300).cfg.transformers[4].offsetSet).natAbs := by decide +kernel

/-- Σraw = −408,000 over 48,000 codes: −9 is accepted against O_set = −12 (chapter 3, worked case). -/
theorem test_offset_learned :
    let t := after (.measuredSecond 4)
      (handed [⟨4, 0, .good, 3000, -13600, 1600⟩]
        { learning 29 0 with
          channels := State.reset.channels.set 4
            { initialChannel with deenergisedTime := 60, learning := ⟨29, -394400, 46400⟩ } })
    t.live[4].offsetEff = -9 ∧ (t.link.transitions.map Transition.kind).getLast? = some .offsetLearned ∧
      t.channels[4].learning = ⟨0, 0, 0⟩ := by decide +kernel

/-! ### Evaluations -/

theorem witness_EvaluationOfTransformer :
    let stamp : Stamp := ⟨0, 3, 0⟩
    let waiting : State :=
      { served .inService with
        live := State.reset.live.set 4 { initialLive .inService 0 with age := 2 }
        handOffs := { initialHandOffs with recordTicks := (Vector.replicate 16 none).set 4 (some stamp) } }
    (served .inService).live[4].service = .inService ∧ (second4 .good).channel = 4 ∧
      (handed [second4 .good] (served .inService)).handOffs.seconds = [] ++ second4 .good :: [] ∧
      waiting.live[4].service = .inService ∧ waiting.handOffs.recordTicks[4] = some stamp ∧ 2 ≤ waiting.live[4].age ∧
      waiting.handOffs.fieldTick = none ∧ waiting.handOffs.trackerTick = none := by decide +kernel

/-- A clock second that waits for transformer 4's record, in service state `service` with measurement age `age`. -/
def secondWaits (service : ServiceState) (age : Nat) : State :=
  { served service with
    live := State.reset.live.set 4 { initialLive service 0 with age := age }
    handOffs := { initialHandOffs with recordTicks := (Vector.replicate 16 none).set 4 (some ⟨0, 3, 0⟩) } }

/-- The clock second waits; meanwhile a measured second came first, the transformer left service, or it was disabled. -/
theorem witness_EvaluationOfTransformer_waited :
    (∀ v age, (secondWaits v age).handOffs.recordTicks[4] = some ⟨0, 3, 0⟩) ∧
      ((secondWaits .inService 0).live[4].service = .inService ∧ (secondWaits .inService 0).live[4].age < 2) ∧
      (secondWaits .outOfService 1).live[4].service = .outOfService ∧
      (secondWaits .off 0).live[4].service = .off := by
  refine ⟨fun _ _ => rfl, ?_⟩
  decide +kernel

/-- R15: behind a measured second taken first, the waiting clock second makes the age 1 and no evaluation. R96: behind a
de-energising taken first it is a cooling update, and the first second of de-energised time. -/
theorem test_waited_seconds :
    (let t := after (.standInSecond 4) (secondWaits .inService 0)
     t.live[4].age = 1 ∧ t.live[4].lost = false ∧ t.handOffs.evaluations = []) ∧
      (after (.standInSecond 4) (secondWaits .outOfService 2)).channels[4].deenergisedTime = 1 := by
  decide +kernel

/-- Transformer 4 cools at 500 in an open episode that it entered at 400; an evaluation at 500 is on its way to the tracker. -/
def coolingAhead : State :=
  { served .outOfService with
    live := State.reset.live.set 4 { initialLive .outOfService 0 with heat := 500 }
    tracker := ⟨some ⟨41, ⟨0, 0, 0⟩, none, none, (Vector.replicate 16 ⟨none, .normal, 0, 0⟩).set 4 ⟨none, .normal, 0, 400⟩⟩,
      60, [], 42⟩
    handOffs := { initialHandOffs with evaluations := [⟨4, none, .normal, 500, ⟨0, 0, 0⟩⟩] } }

/-- A waiting hand-off whose T is not below the cooled T, in a state that meets the law of the episodes; and none. -/
theorem witness_EvaluationOfTransformer_cooling :
    (∃ h ∈ coolingAhead.handOffs.evaluations,
      h.transformer = 4 ∧ heatTowards coolingAhead.cfg.transformers[4] coolingAhead.live[4].heat 0 ≤ h.heat) ∧
      EpisodeLaw coolingAhead ∧ (served .outOfService).handOffs.evaluations = [] := by
  refine ⟨by decide +kernel, ?_, by decide +kernel⟩
  have ho : ∀ e, coolingAhead.tracker.openEpisode = some e → e = coolingAhead.tracker.openEpisode.get rfl := by
    intro e h
    simp [h]
  constructor
  case isOpen => intro e h; rw [ho e h]; decide +kernel
  case warmth => intro e h; rw [ho e h]; decide +kernel
  case numbers => exact ⟨by decide +kernel, trivial⟩
  all_goals decide +kernel

/-- R17, R134: the cooling update leaves max T where it stood; the evaluation's own T raises it once it is taken. -/
theorem test_cooling_keeps_max_t :
    let cooled := coolingAhead.recordSecond 4 ⟨0, 1, 0⟩
    cooled.tracker = coolingAhead.tracker ∧ cooled.live[4].heat = 499 ∧
      (after (.episodeHandoff 4) cooled).tracker.openEpisode.map (fun e => e.entries[4].maxT) = some 500 := by
  decide +kernel

/-- The transformer of chapter 5's worked case, and its field. -/
def judgedSettings : Settings :=
  { enabledSettings with coefA := -250, coefB := 120, wAbs := 50, wPct := 20, checkMode := .guard, doubtD := 4 }

def goodField : FieldView := ⟨true, 1320, 238, true⟩

/-- M = −274 is inside, the inside-run becomes 13, X = 274 (chapter 5, worked case). -/
theorem test_second_judged :
    let n := basisSelection judgedSettings goodField (some (second4 .good))
      { initialLive .inService 0 with insideRun := 12 }
    n.predicted = some (-301) ∧ n.insideRun = 13 ∧ n.outsideRun = 0 ∧ n.basis = some 274 := by decide +kernel

/-- At outside-run 4 = D, DOUBT is set and |P| is the basis in the same evaluation (R79, R84; as at s7 of chapter 5). -/
theorem test_doubt_set :
    let n := basisSelection judgedSettings goodField (some ⟨4, -135, .good, 3000, 0, 0⟩)
      { initialLive .inService 0 with outsideRun := 3 }
    n.outsideRun = 4 ∧ n.doubt = true ∧ n.basis = some 301 := by decide +kernel

/-- P valid and not, E GOOD; every class of second, the edge of the band among them (|M − P| = 60 = W and 61). -/
theorem witness_PredictionRunsAndDoubt :
    let valid : State :=
      { fed (fieldFrame 1 false) (.locked 1) with
        field := { initialField with latest := ⟨1320, 238, .good, false, none⟩, age := 3 } }
    let p := max (-30000) (min 30000 (roundDiv (judgedSettings.coefA * 1320 + judgedSettings.coefB * 238) 1000))
    let width := max judgedSettings.wAbs (roundDivNat (p.natAbs * judgedSettings.wPct) 100)
    valid.intake.converters[(4 : Fin 5)].state = .locked 1 ∧ valid.field.age ≤ 3 ∧
      valid.field.latest.quality ≠ .none ∧ valid.field.latest.quality = .good ∧
      State.reset.field.latest.quality = .none ∧ defaultSettings.checkMode = .off ∧ judgedSettings.checkMode ≠ .off ∧
      (second4 .filled).quality = .filled ∧ ((-241 : Int) - p).natAbs ≤ width ∧ width < ((-240 : Int) - p).natAbs ∧
      (second4 .suspect).quality ≠ .good ∧ (second4 .suspect).quality ≠ .filled := by decide +kernel

/-- A second that ends a LOST spell and completes a run of D emits both, DOUBT first (R83). -/
theorem test_doubt_before_lost :
    let before := { initialLive .inService 0 with outsideRun := 3, lost := true }
    let second : SecondHandOff := ⟨4, -135, .good, 3000, 0, 0⟩
    stageOneKinds (some second) before (basisSelection judgedSettings goodField (some second) before)
      = [.doubtOn, .lostOff] := by decide +kernel

/-- GUARD with P valid and LOST set by a stand-in second; and, without GUARD, each quality of second. -/
theorem witness_BasisByTable :
    let n := basisSelection judgedSettings goodField none (initialLive .inService 0)
    judgedSettings.checkMode = .guard ∧ n.predicted = some (-301) ∧ n.lost = true ∧ defaultSettings.checkMode ≠ .guard ∧
      (second4 .filled).quality = .filled ∧ (second4 .clipped).quality = .clipped ∧ (second4 .fault).quality = .fault ∧
      (second4 .good).m.natAbs ≤ 30000 ∧ (second4 .good).fullScale ≤ 30000 := by decide +kernel

/-- The default curve, a basis below it, at its first point, in its last segment and at its end. -/
theorem witness_SteadyValueOfCurve :
    1 ≤ defaultBreakpoints[0].x ∧
      (∀ j k : Fin 8, j < k → defaultBreakpoints[j].x < defaultBreakpoints[k].x ∧
        defaultBreakpoints[j].r ≤ defaultBreakpoints[k].r) ∧
      99 < defaultBreakpoints[0].x ∧ (defaultBreakpoints[0].x ≤ 100 ∧ 100 < defaultBreakpoints[1].x) ∧
      (defaultBreakpoints[6].x ≤ 2999 ∧ 2999 < defaultBreakpoints[7].x) ∧ defaultBreakpoints[7].x ≤ 3000 := by
  decide +kernel

/-- Heating by more than one unit, by the least unit both ways, and at rest. -/
theorem witness_HeatStepsTowardsSteady :
    let n := heatingUpdate defaultSettings { initialLive .inService 0 with basis := some 420 }
    let held := fun (heat steady : Nat) => heatingUpdate defaultSettings
      { initialLive .inService 0 with heat := heat, steady := steady }
    10 ≤ defaultSettings.tauHeat ∧ 10 ≤ defaultSettings.tauCool ∧ roundDiv ((n.steady : Int) - 0) 600 ≠ 0 ∧
      roundDiv (((held 1 2).steady : Int) - 1) 600 = 0 ∧ roundDiv (((held 2 1).steady : Int) - 2) 1200 = 0 ∧
      ((held 5 5).steady : Int) - 5 = 0 := by decide +kernel

/-- A rise, a fall, and no change of level. -/
theorem witness_CandidatesAndLevelTransitions :
    let l := initialLive .inService 0
    l.level.rank < ({ l with level := .warn } : Live).level.rank ∧
      l.level = ({ l with reminderCount := 1 } : Live).level := by decide

/-- A basis at I_warn above a NORMAL level. -/
theorem witness_LevelRises :
    let l := { initialLive .inService 0 with basis := some 300 }
    l.level.rank < (candidate defaultSettings l.basis l.heat).rank := by decide +kernel

/-- At WARN: no basis; a basis that holds WARN; calm before d_fall; calm at d_fall; and a latched ALARM owed an answer. -/
theorem witness_LevelFallsOrHolds :
    let l := fun (lv : Level) (X : Option Nat) (calm : Nat) =>
      { initialLive .inService 0 with level := lv, basis := X, calmAge := calm, unacknowledged := true }
    let cfg := { defaultSettings with latched := true }
    (∀ X ∈ [none, some 0, some 280], (candidate cfg X 0).rank ≤ Level.rank .warn) ∧
      Level.rank .warn ≤ (fallTarget cfg 280 0).rank ∧ (fallTarget cfg 0 0).rank < Level.rank .warn ∧
      min 65535 ((l .warn (some 0) 298).calmAge + 1) < cfg.dFall ∧
      cfg.dFall ≤ min 65535 ((l .warn (some 0) 299).calmAge + 1) ∧ (l .warn (some 0) 299).level ≠ .alarm ∧
      (cfg.latched = true ∧ (l .alarm (some 0) 299).level = .alarm ∧ (l .alarm (some 0) 299).unacknowledged = true) := by
  decide +kernel

/-- The storm of chapter 7, transformer 4. -/
def stormSettings : Settings :=
  { enabledSettings with
    iWatch := 50, iWarn := 150, iAlarm := 400, hyst := 20, dWatch := 0, dWarn := 10, dAlarm := 30, dFall := 120
    latched := true, reminder := 60, captureLevel := .alarm }

/-- e52: rise age 30 meets d_alarm, the level is ALARM and the reminder count 60 (chapter 7). -/
theorem test_storm_reaches_alarm :
    let n := levelEvaluation stormSettings { initialLive .inService 0 with level := .warn, riseAge := 29, basis := some 420 }
    n.level = .alarm ∧ n.riseAge = 30 ∧ n.reminderCount = 60 ∧ n.unacknowledged = true := by decide +kernel

/-- e20: 140 is no candidate for WARN but holds it, so the rise is cancelled (chapter 7). -/
theorem test_storm_dip_cancels_rise :
    let n := levelEvaluation stormSettings { initialLive .inService 0 with level := .warn, riseAge := 19, basis := some 140 }
    n.level = .warn ∧ n.riseAge = 0 := by decide +kernel

/-- e419: the 120th calm evaluation at X = 120 falls from WARN to WATCH (chapter 7). -/
theorem test_storm_falls_to_watch :
    let n := levelEvaluation stormSettings { initialLive .inService 0 with level := .warn, calmAge := 119, basis := some 120 }
    n.level = .watch ∧ n.calmAge = 0 := by decide +kernel

/-! ### The clock -/

theorem witness_TimeAdvancesAndPps :
    let use := fun (p : PpsState) (set : Option (Nat × Nat)) (edge : Option Nat) =>
      { State.reset with time := ⟨⟨65535, 86399, 9⟩, set, p, edge⟩ }
    (86398 < 86399 ∧ (use .lost none none).time.now.second = 86399 ∧ 65534 < 65535 ∧
      (use .lost none none).time.now.day = 65535) ∧
      ((use .tracking none (some 1000)).time.lastEdge = some 1000 ∧ 1000 ≤ 1499 ∧ 1499 < 1000 + 500) ∧
      (∀ e, (use .tracking none none).time.lastEdge = some e → e + 500 ≤ 0) ∧
      (use .unused none none).time.pps = .unused ∧ (use .lost none none).time.pps = .lost ∧
      ((use .tracking none none).time.pps = .tracking ∧ (use .tracking none none).time.pendingSet = none) ∧
      (use .tracking (some (9, 10)) none).time.pendingSet = some (9, 10) ∧
      (use .lost none none).time.pps ≠ .tracking := by
  and_intros <;> decide +kernel

theorem no_tick_waits {s : State} (h : s.handOffs = initialHandOffs) (hw : s.capture.waiting = []) : NoTickWaits s :=
  ⟨fun i => by rw [h]; revert i; decide +kernel, by rw [h]; rfl, by rw [h]; rfl, by rw [h]; rfl,
    fun e he => by rw [hw] at he; cases he⟩

/-- `served` at tenth 9, where the oscillator's clock second comes about. -/
def servedAtNine : State := { served .inService with time := { State.reset.time with now := ⟨0, 0, 9⟩ } }

theorem witness_ClockSecondCounts :
    servedAtNine.time.pps ≠ .tracking ∧ servedAtNine.time.now.tenth = 9 ∧ NoTickWaits servedAtNine ∧
      (∀ i : Fin 16, servedAtNine.live[i].service = .inService → servedAtNine.live[i].age < 2) ∧
      servedAtNine.field.age < 9 ∧ servedAtNine.tracker.openEpisode = none ∧ servedAtNine.activitySecond = false ∧
      servedAtNine.capture.waiting = [] ∧ servedAtNine.driver.linkTimer = none ∧
      ({ State.reset with time := ⟨⟨0, 0, 0⟩, none, .tracking, none⟩ } : State).time.pps = .tracking ∧
      State.reset.time.now.tenth ≠ 9 := by
  and_intros <;> first | exact no_tick_waits rfl rfl | decide +kernel

/-- Each block at the edge of its own row: age 2, E age 9, quiet timer 1, wait 59, link timer 1. -/
def onTheEdge : State :=
  { served .inService with
    live := State.reset.live.set 4 { initialLive .inService 0 with age := 2 }
    field := { initialField with age := 9, latest := ⟨10, 10, .good, false, none⟩ }
    tracker := ⟨some ⟨41, ⟨0, 0, 0⟩, none, none, Vector.replicate 16 ⟨none, .normal, 0, 0⟩⟩, 1, [], 42⟩
    driver := { State.reset.driver with linkTimer := some 1 } }

theorem witness_WaitingClockSeconds :
    NoTickWaits onTheEdge ∧ onTheEdge.live[4].service = .inService ∧ 2 ≤ onTheEdge.live[4].age ∧
      LosesGrade onTheEdge ∧ ClosesQuiet onTheEdge ∧ onTheEdge.driver.linkTimer = some 1 := by
  and_intros <;> first | exact no_tick_waits rfl rfl | decide +kernel

/-- Each block short of its own row, with nothing to wait for, and the episode still open. -/
def shortOfEdge : State :=
  { onTheEdge with
    live := State.reset.live.set 4 { initialLive .inService 0 with age := 1 }
    field := { onTheEdge.field with age := 8 }
    tracker := { onTheEdge.tracker with quietTimer := 2 }
    driver := { State.reset.driver with linkTimer := some 2 } }

theorem witness_WaitingClockSeconds_at_once :
    NoTickWaits shortOfEdge ∧ ¬ (shortOfEdge.live[4].service = .inService ∧ 2 ≤ shortOfEdge.live[4].age) ∧
      ¬ LosesGrade shortOfEdge ∧ ¬ ClosesQuiet shortOfEdge ∧ ¬ RecordWaits shortOfEdge ∧
      shortOfEdge.driver.linkTimer = some 2 ∧ State.reset.driver.linkTimer = none := by
  refine ⟨no_tick_waits rfl rfl, by decide +kernel, ?_, ?_, ?_, rfl, rfl⟩
  · unfold LosesGrade; decide +kernel
  · unfold ClosesQuiet; decide +kernel
  · unfold RecordWaits; decide +kernel

/-- A clock second steps the quiet timer of an open episode at once where nothing keeps the tracker waiting (R129). -/
theorem test_quiet_timer_steps :
    let t := State.blocksClock ⟨0, 60, 0⟩ shortOfEdge
    t.tracker.quietTimer = 1 ∧ t.handOffs.trackerTick = none ∧ t.field.age = 9 ∧ t.live[4].age = 2 := by decide +kernel

/-- The same blocks with a clock second waiting for each, and a pending entry whose 60th second waits. -/
def ticksWait : State :=
  { onTheEdge with
    capture := { State.reset.capture with waiting := [entryOf 9 ⟨0, 0, 0⟩ 59 (some ⟨0, 60, 0⟩)] }
    handOffs := { initialHandOffs with
      fieldTick := some ⟨0, 60, 0⟩, trackerTick := some ⟨0, 60, 0⟩, linkTick := some ⟨0, 60, 0⟩ } }

theorem witness_WaitingClockSeconds_taken :
    ticksWait.handOffs.fieldTick = some ⟨0, 60, 0⟩ ∧ LosesGrade ticksWait ∧
      ticksWait.handOffs.trackerTick = some ⟨0, 60, 0⟩ ∧ ClosesQuiet ticksWait ∧
      ticksWait.capture.waiting = [] ++ entryOf 9 ⟨0, 0, 0⟩ 59 (some ⟨0, 60, 0⟩) :: [] ∧
      ticksWait.handOffs.linkTick = some ⟨0, 60, 0⟩ ∧ ticksWait.driver.linkTimer = some 1 ∧
      ticksWait.driver.linkSilent = false := by
  and_intros <;> decide +kernel

/-- The link timer reloaded while its clock second waited, and stopped (R162); a record's clock second that still waits. -/
theorem witness_WaitingClockSeconds_reloaded :
    let reloaded := fun n : Option Nat => { ticksWait with driver := { ticksWait.driver with linkTimer := n } }
    (reloaded (some 60)).handOffs.linkTick = some ⟨0, 60, 0⟩ ∧ (reloaded (some 60)).driver.linkTimer = some 60 ∧
      (reloaded none).driver.linkTimer = none ∧ (secondWaits .inService 2).handOffs.recordTicks[4] = some ⟨0, 3, 0⟩ ∧
      (entryOf 9 ⟨0, 0, 0⟩ 59 (some ⟨0, 60, 0⟩)).expiry ≠ none := by
  and_intros <;> decide +kernel

/-- R162: a link timer reloaded before its waiting clock second is taken does not expire. -/
theorem test_reloaded_link_timer :
    let t := after .linkSilent { ticksWait with driver := { ticksWait.driver with linkTimer := some 60 } }
    t.driver.linkTimer = some 59 ∧ t.driver.linkSilent = false ∧ t.link = ticksWait.link := by decide +kernel

/-- A clock second that waits for the Field Estimator with no grade to lose, and one that waits for a stand-in. -/
theorem witness_WaitingClockSeconds_settles :
    let calm : State := { ticksWait with field := { ticksWait.field with age := 3 } }
    let stand : State := { onTheEdge with handOffs := { initialHandOffs with
      recordTicks := (Vector.replicate 16 none).set 4 (some ⟨0, 60, 0⟩) } }
    calm.handOffs.fieldTick = some ⟨0, 60, 0⟩ ∧ ¬ LosesGrade calm ∧ ¬ RecordWaits calm ∧ RecordWaits stand ∧
      stand.handOffs.fieldTick = none := by
  refine ⟨rfl, by unfold LosesGrade; decide +kernel, by unfold RecordWaits; decide +kernel, ⟨4, by decide +kernel⟩, rfl⟩

/-- R125: a field strong enough alone keeps the episode active if the tracker takes its second first, and no longer once
the Field Estimator has lost the grade. -/
theorem test_order_of_field_and_tracker :
    let s : State := { ticksWait with field := { ticksWait.field with latest := ⟨32000, 0, .good, false, none⟩ } }
    (after .fieldNone (after .episodeQuietClose s)).tracker.quietTimer = defaultDevice.quietTime ∧
      (after .episodeQuietClose (after .fieldNone s)).tracker.openEpisode = none := by decide +kernel

/-- FIELD_NONE: source DEVICE, detail 4, the stamp of the clock second; north and east remain (R64, R65). -/
theorem test_field_none :
    let t := after .fieldNone ticksWait
    t.field.latest.quality = .none ∧ t.field.latest.north = 10 ∧ t.field.age = 10 ∧
      t.link.transitions.getLast? = some ⟨⟨0, 60, 0⟩, none, .fieldNone, none, none, none, some 4, false⟩ := by
  decide +kernel

/-! ### Episodes -/

/-- QUIET with a strong field and the next number 41 (chapter 8); then ACTIVE. -/
def strongField : State :=
  { served .inService with
    field := { initialField with latest := ⟨310, 120, .good, false, none⟩ }
    tracker := ⟨none, 0, [], 41⟩ }

theorem witness_EpisodeClockSecond :
    strongField.tracker.openEpisode = none ∧ strongField.activitySecond = true ∧
      State.reset.activitySecond = false ∧ State.reset.tracker.openEpisode = none ∧
      onTheEdge.tracker.openEpisode.isSome = true ∧ onTheEdge.activitySecond = false ∧ onTheEdge.tracker.quietTimer ≤ 1 ∧
      2 ≤ ({ onTheEdge with tracker := { onTheEdge.tracker with quietTimer := 2 } } : State).tracker.quietTimer := by
  decide +kernel

/-- Episode 41 opens: next number 42, quiet timer 600, max |E| 310 (chapter 8, worked sequence). -/
theorem test_episode_opens :
    let s := { strongField with cfg := { strongField.cfg with device := { defaultDevice with quietTime := 600 } } }
    let t := s.trackerSecond ⟨12, 79797, 0⟩
    t.tracker.nextNumber = 42 ∧ t.tracker.quietTimer = 600 ∧
      (t.tracker.openEpisode.map fun e => (e.number, e.maxE)) = some (41, some (310, ⟨12, 79797, 0⟩)) := by
  decide +kernel

theorem witness_EvaluationReachesEpisode :
    let h : EvaluationHandOff := ⟨4, some 60, .watch, 1, ⟨12, 79800, 6⟩⟩
    let s := { onTheEdge with handOffs := { initialHandOffs with evaluations := [h] } }
    s.handOffs.evaluations = [] ++ h :: [] ∧ s.tracker.openEpisode.isSome = true ∧
      State.reset.tracker.openEpisode = none := by decide +kernel

/-- QUIET with a strong field, transformer 4's evaluation on its way and the tracker's clock second still to take. -/
def opening : State :=
  { strongField with
    live := State.reset.live.set 4 { initialLive .inService 0 with age := 2 }
    handOffs := { initialHandOffs with
      evaluations := [⟨4, some 60, .watch, 1, ⟨0, 59, 0⟩⟩], trackerTick := some ⟨0, 60, 0⟩ } }

/-- An opening that waits for a hand-off, and, behind the only one, waits for none. -/
theorem witness_EvaluationReachesEpisode_opening :
    opening.handOffs.trackerTick = some ⟨0, 60, 0⟩ ∧ OpensAhead opening ∧
      ¬ OpensAhead { opening with handOffs := { opening.handOffs with evaluations := [] } } :=
  ⟨rfl, ⟨rfl, by decide +kernel, by decide⟩, fun h => h.2.2 rfl⟩

/-- R134 at an opening: the hand-off taken first adds nothing to the charge, the clock second taken first lets it join; and
a stand-in second leaves the order open. -/
theorem test_order_at_an_opening :
    let charge := fun s : State => s.tracker.openEpisode.map fun e => e.entries[4].charge
    charge (after (.episodeHandoff 4) opening) = some 0 ∧
      charge (after (.episodeHandoff 4) (after .episodeQuietClose opening)) = some 60 ∧
      charge (after (.standInSecond 4) { opening with handOffs := { opening.handOffs with
        evaluations := [], recordTicks := (Vector.replicate 16 none).set 4 (some ⟨0, 60, 0⟩) } }) = none := by
  decide +kernel

/-- A basis greater than the peak becomes it; charge and max T follow (chapter 8). -/
theorem test_evaluation_joins_entry :
    EpisodeEntry.withEvaluation ⟨4, some 420, .watch, 2, ⟨12, 79801, 6⟩⟩ ⟨some (60, ⟨12, 79800, 6⟩), .watch, 60, 1⟩
      = ⟨some (420, ⟨12, 79801, 6⟩), .watch, 480, 2⟩ := by decide

/-! ### Inputs, service and panel -/

/-- An input whose hold is running, and one whose hold is not. -/
def holding : State :=
  { State.reset with inputs := { State.reset.inputs with panel := ⟨true, false, some 100⟩ } }

theorem witness_DebouncedInputs :
    (holding.inputs.get .panel).hold ≠ none ∧ (holding.inputs.get .lock).hold = none ∧ Pin.lock ≠ .panel := by
  decide +kernel

theorem test_hold_completes :
    (after (.debounceComplete .panel) holding).handOffs.panelReports = [true] := by decide +kernel

/-- `served` with a report of input EN4 waiting. -/
def reported (service : ServiceState) (level : Bool) : State :=
  { served service with handOffs := { initialHandOffs with enReports := [⟨4, level⟩] } }

theorem witness_ServiceChangesByInput :
    (reported .outOfService true).handOffs.enReports = [] ++ ⟨4, true⟩ :: [] ∧
      (reported .outOfService true).live[4].service = .outOfService ∧
      (reported .inService true).live[4].service ≠ .outOfService ∧
      (reported .inService false).live[4].service = .inService ∧
      (reported .outOfService false).live[4].service ≠ .inService := by decide +kernel

/-- De-energised at X = 1840 and T = 2400: OUT_OF_SERVICE carries both, T is kept, unacknowledged stays (chapter 1). -/
theorem test_switched_out :
    let t := after (.deenergised 4)
      { reported .inService false with
        live := State.reset.live.set 4
          { initialLive .inService 0 with level := .warn, basis := some 1840, heat := 2400, unacknowledged := true } }
    t.link.transitions.getLast? = some ⟨⟨0, 0, 0⟩, some 4, .outOfService, none, some 1840, some 2400, none, false⟩ ∧
      t.live[4].level = .normal ∧ t.live[4].heat = 2400 ∧ t.live[4].unacknowledged = true := by decide +kernel

/-- The panel in a state, with a press or a release waiting. -/
def paneled (p : PanelState) (pressed lock : Bool) : State :=
  { State.reset with
    cfg := { defaultSet with device := { defaultDevice with panelLock := lock } }
    driver := { State.reset.driver with panel := p }
    handOffs := { initialHandOffs with panelReports := [pressed] } }

theorem witness_PanelPressTestAndRelease :
    (paneled .idle true false).handOffs.panelReports = true :: [] ∧ (paneled .idle true false).driver.panel = .idle ∧
      (paneled .test true false).driver.panel ≠ .idle ∧ (paneled .pressed false false).driver.panel = .pressed ∧
      (paneled .test false false).driver.panel = .test ∧ (paneled .idle false false).driver.panel ≠ .pressed ∧
      (paneled .pressed false false).handOffs.panelReports = false :: [] ∧
      (paneled .testEnded false false).driver.panel = .testEnded ∧
      (paneled .ignored false true).driver.panel = .ignored ∧ (paneled .idle true true).cfg.device.panelLock = true := by
  decide +kernel

/-! ### Contacts -/

/-- K1 in LATCH mode, transformer 4 mapped from WARN on, and transformer 4 at WARN; K2 in FOLLOW mode. -/
def latched : State :=
  { served .inService with
    cfg :=
      { (served .inService).cfg with
        maps := (Vector.replicate 4 defaultMap).set 0 ⟨0x0010, .warn, 0, .latch, .deenergiseOnAlarm, true⟩ }
    live := State.reset.live.set 4 { initialLive .inService 0 with level := .warn, unacknowledged := true }
    handOffs := { initialHandOffs with reports := [.transformer 4] } }

theorem witness_ContactReportTaken :
    latched.handOffs.reports = .transformer 4 :: [] ∧ latched.cfg.maps[0].mode = .latch ∧
      latched.cfg.maps[1].mode = .follow ∧ latched.driver.contacts[0].state ≠ .closed := by decide +kernel

/-- Raised to WARN: K1 CLOSED_ACTIVE, its driver off, the lamp FLASHING (chapter 10, worked sequence). -/
theorem test_latched_contact :
    let t := after .contactReport latched
    t.driver.contacts[0] = ⟨.closedActive, true, false⟩ ∧ t.driver.lamp = .flashing := by decide +kernel

theorem witness_LatchTable : PanelState.idle ≠ .test := by decide

/-! ### Captures -/

/-- `capturing` with LEVEL trigger `g` waiting. -/
def triggered (records : List CaptureRecord) (waiting : List PendingEntry) : State :=
  { capturing records waiting with handOffs := { initialHandOffs with triggers := [⟨4, ⟨1, 2, 3⟩, 2, 20⟩] } }

theorem witness_LevelTriggersAndCaptureMemory :
    Memory.wf [] = true ∧ ([1, 0, 2] : List Int).length ≤ 16384 ∧
      (triggered [] []).handOffs.triggers = [] ++ ⟨4, ⟨1, 2, 3⟩, 2, 20⟩ :: [] ∧
      (triggered [] []).live[4].service ≠ .off ∧ State.reset.live[4].service = .off ∧
      (triggered [doneRecord 1 5, record4 .filling 20 0 none] []).capture.records
        = [doneRecord 1 5] ++ [record4 .filling 20 0 none] ∧ (doneRecord 1 5).state = .done ∧
      (record4 .filling 20 0 none).state ≠ .done ∧ (record4 .filling 20 0 none).channel = 4 ∧
      (triggered [] [entryOf 4 ⟨0, 0, 0⟩ 0 none]).capture.waiting = [] ++ entryOf 4 ⟨0, 0, 0⟩ 0 none :: [] ∧
      (entryOf 4 ⟨0, 0, 0⟩ 0 none).channel = 4 ∧
      8 ≤ (triggered (List.replicate 8 (doneRecord 1 5)) []).capture.records.length ∧
      (triggered [] []).NoActive (fun ch => ch = 4) := by
  and_intros <;> first | exact no_active rfl | decide +kernel

theorem witness_LevelTriggersAndCaptureMemory_start :
    (∀ r ∈ (triggered [] []).capture.records, r.state = .done) ∧ (triggered [] []).capture.waiting = [] ∧
      (triggered [] []).capture.records.length < 8 ∧ 32 * (2 + 1) ≤ (triggered [] []).capture.freeSlots ∧
      (triggered [] []).channels[4].ring = [] ∧ (triggered [] []).capture.writePos < 16384 := by decide +kernel

/-- Three DONE records of 254, 128 and 100 cycles leave 960 slots, and capture 15 starts at once (chapter 9). -/
theorem test_capture_starts :
    let s : State :=
      { triggered [doneRecord 12 254, doneRecord 13 128, doneRecord 14 100] [] with
        channels := State.reset.channels.set 4
          { initialChannel with ring := List.replicate 4 (List.replicate 32 5) } }
    let t := after (.levelTrigger 4) { s with capture := { s.capture with writePos := 15424, nextNumber := 15 } }
    s.capture.freeSlots = 960 ∧ t.capture.freeSlots = 896 ∧ t.capture.writePos = 15488 ∧
      (t.capture.records.map fun r => (r.number, r.preCount, r.firstSlot)).getLast? = some (15, 2, 15424) := by
  decide +kernel

/-- Room and none; one cycle short of the target; without a gap, with one, and SUSPENDED; entries waiting; and no capture of
the channel active. -/
theorem witness_OfferedCycle :
    let full := [doneRecord 1 254, doneRecord 2 254, doneRecord 3 4]
    let waiting := [entryOf 9 ⟨0, 0, 0⟩ 0 none]
    (capturing [record4 .filling 2 0 none] waiting).capture.records = [] ++ record4 .filling 2 0 none :: [] ∧
      32 ≤ (capturing [record4 .filling 2 0 none] waiting).capture.freeSlots ∧
      (record4 .filling 2 0 none).postStored + 1 ≠ (record4 .filling 2 0 none).postTarget ∧
      (record4 .filling 2 1 none).postStored + 1 = (record4 .filling 2 1 none).postTarget ∧
      (capturing (full ++ [record4 .filling 2 0 none]) waiting).capture.freeSlots < 32 ∧
      (∀ q ∈ full, q.state = .done) ∧ (record4 .filling 2 0 none).gap = none ∧
      (record4 .filling 2 0 (some (0, 3))).gap ≠ none ∧ (record4 .suspended 2 0 (some (0, 3))).gap = some (0, 3) ∧
      (capturing [] waiting).NoActive (fun other => other = 9) := by
  and_intros <;> first | exact no_active rfl | decide +kernel

/-- The cycle that meets the target ends the capture, and the entry of channel 9 starts with its cycle count as its
delay (R142, R145). -/
theorem test_end_serves_the_pending_set :
    let t := (capturing [record4 .filling 2 1 none] [entryOf 9 ⟨0, 0, 0⟩ 0 none]).offerCycle 4 (List.replicate 32 5)
    (t.capture.records.map fun r => (r.channel, r.state, r.startDelay)) = [(4, .done, none), (9, .filling, some 5)] ∧
      t.capture.waiting = [] := by decide +kernel

theorem witness_PendingSetAndDisables :
    let e := entryOf 9 ⟨0, 5, 0⟩ 0 none
    let f := entryOf 2 ⟨0, 6, 0⟩ 0 none
    let g := entryOf 11 ⟨0, 5, 0⟩ 0 none
    State.reset.capture.waiting = [] ∧ e ∈ (capturing [] [f, g, e]).capture.waiting ∧
      ((capturing [] [f, g, e]).capture.waiting.map PendingEntry.channel).Nodup ∧
      (f.stamp ≠ e.stamp ∧ e.stamp.le f.stamp = true) ∧ (g.stamp = e.stamp ∧ e.channel.val < g.channel.val) ∧
      (capturing [] [f, g, e]).capture.records.length < 8 ∧
      32 * (e.pre + 1) ≤ (capturing [] [f, g, e]).capture.freeSlots ∧
      8 ≤ (capturing (List.replicate 8 (doneRecord 1 5)) [f, g, e]).capture.records.length := by decide +kernel

theorem witness_PendingSetAndDisables_disable :
    let s : State :=
      { capturing [record4 .filling 20 3 none] [entryOf 4 ⟨0, 0, 0⟩ 0 none, entryOf 9 ⟨0, 0, 0⟩ 0 none] with
        handOffs := { initialHandOffs with disables := [4] } }
    s.handOffs.disables = [] ++ 4 :: [] ∧ s.capture.records = [] ++ record4 .filling 20 3 none :: [] ∧
      (record4 .filling 20 3 none).state ≠ .done ∧ (record4 .filling 20 3 none).channel = 4 ∧
      (capturing [] []).NoActive (fun other => other = 4) := by
  and_intros <;> first | exact no_active rfl | decide +kernel

/-! ### The host link -/

/-- A request with TAG 0x5A. -/
def request (kind : Byte) (body : List Byte) : Request := ⟨kind, 0x5A, body⟩

/-- A request of kind `k` at the head of the buffer of the reset state can be taken. -/
theorem takes_request (k : Byte) (body : List Byte) : (asked (request k body) State.reset).Takes k (request k body) :=
  takes_asked rfl rfl rfl

/-- LEN at both ends of its range and beyond them; a frame one byte short; a check byte that differs. -/
theorem witness_RequestFramesArrive :
    (List.replicate 236 (0 : Byte)).length ≤ 236 ∧ State.reset.link.line = [] ∧ State.reset.link.buffer.length < 2 ∧
      2 ≤ (2 : Byte).toNat ∧ (238 : Byte).toNat ≤ 238 ∧ ([0x01, 0x00] : List Byte).length ≤ (2 : Byte).toNat ∧
      (1 : Byte).toNat < 2 ∧ 238 < (239 : Byte).toNat ∧ ([0x01, 0x01] : List Byte).length = (2 : Byte).toNat ∧
      crc8 [0x02, 0x01, 0x01] ≠ 0x55 ∧ (0xE7 : Byte) ∉ 0x02 :: ([0x01, 0x01] ++ [0x55] : List Byte) := by decide +kernel

/-- Identify, TAG 1, whole on HRX, joins the buffer. -/
theorem test_identify_arrives :
    (after (.requestFrame [0xE7, 0x02, 0x01, 0x01, 0xC4]) State.reset).link.buffer = [⟨0x01, 0x01, []⟩] := by
  decide +kernel

theorem witness_RepliesAndMalformedRequests :
    ({ State.reset with link := { State.reset.link with sending := some [0xE7] } } : State).link.sending ≠ none ∧
      State.reset.link.sending = none ∧
      (asked (request 0 []) State.reset).Takes (request 0 []).kind (request 0 []) ∧ (request 0 []).kind.toNat = 0 ∧
      (asked (request 0x21 []) State.reset).Takes (request 0x21 []).kind (request 0x21 []) ∧
      0x20 < (request 0x21 []).kind.toNat ∧
      (∀ k : Byte, (asked (request k [1, 2, 3, 4, 5]) State.reset).Takes k (request k [1, 2, 3, 4, 5])) ∧
      (request 0x01 [1, 2, 3, 4, 5]).body.length ∉ ([0, 1, 2, 3, 4, 6, 8, 15, 81] : List Nat) := by
  and_intros <;> first | exact takes_request _ _ | exact fun k => takes_request k _ | decide +kernel

/-- Identify after the first power-on answers its codes, POWER_ON, DEFAULT and lock released (R183, R184). -/
theorem test_identify :
    (after .identify (asked (request 0x01 []) State.reset)).link.sending
      = some (replyFrame (request 0x01 []) .ok [0x4D, 0x4B, 0x21, 0x60, 0x01, 0, 1, 0]) := by decide +kernel

/-- The reset state with LOCK asserted. -/
def lockedPart : State := { State.reset with inputs := { State.reset.inputs with lock := ⟨true, true, none⟩ } }

/-- The reset state with a save in progress. -/
def saving : State := { State.reset with store := ⟨defaultSet, false, some defaultSet⟩ }

theorem witness_LockedAndBusy :
    lockedPart.inputs.lock.debounced = true ∧ saving.store.save ≠ none ∧ saving.inputs.lock.debounced = false ∧
      (∀ k : Byte, ∀ body : List Byte, (asked (request k body) lockedPart).Takes k (request k body) ∧
        (asked (request k body) saving).Takes k (request k body)) ∧
      (request 0x07 (List.replicate 81 0)).body.length = 81 ∧ (request 0x20 []).body = [] := by
  and_intros <;> first | exact fun k body => ⟨takes_asked rfl rfl rfl, takes_asked rfl rfl rfl⟩ | decide +kernel

/-- Episode 41, closed by a request. -/
def closed41 : Episode :=
  ⟨41, ⟨0, 0, 0⟩, some (⟨0, 9, 0⟩, .forced), none, Vector.replicate 16 ⟨none, .normal, 0, 0⟩⟩

/-- The reset state with a snapshot, a closed episode and two captures. -/
def furnished : State :=
  { State.reset with
    snapshots := some ⟨⟨1, 2, 3⟩, State.reset.live⟩
    tracker := ⟨none, 0, [closed41], 42⟩
    capture := { State.reset.capture with records := [doneRecord 1 254, doneRecord 2 5] } }

/-- Every read finds what it names: entries to the end and beyond it, an episode by 0 and by its number, the last codes of a
record of 8128, and a count too large. -/
theorem witness_ReadsAnswerAndChangeNothing :
    (∀ k : Byte, ∀ body : List Byte, (asked (request k body) furnished).Takes k (request k body)) ∧
      (request 0x08 [15]).body = [BitVec.ofNat 8 (15 : Fin 16).val] ∧ furnished.snapshots.isSome = true ∧
      (u8 [63, 1] 0 ≤ 63 ∧ min (u8 [63, 2] 1) (min 32 (64 - 63)) < u8 [63, 2] 1) ∧
      (request 0x10 [4]).body = [BitVec.ofNat 8 ((3 : Fin 4).val + 1)] ∧
      (furnished.tracker.openEpisode = none ∧ furnished.tracker.history.getLast? = some closed41 ∧ u16 [0, 0] 0 = 0) ∧
      (u16 [0, 41] 0 ≠ 0 ∧ closed41.number = u16 [0, 41] 0 ∧
        furnished.tracker.openEpisode.toList ++ furnished.tracker.history = [] ++ closed41 :: []) ∧
      furnished.capture.records = [] ++ doneRecord 1 254 :: [doneRecord 2 5] ∧ (doneRecord 1 254).number = u8 [1] 0 ∧
      u16 [1, 31, 92, 100] 1 + 100 = 32 * (0 + 254) ∧ u16 [1, 31, 192, 100] 1 ≤ 32 * (0 + 254) := by
  and_intros <;> first | exact fun k body => takes_asked rfl rfl rfl | decide +kernel

theorem witness_UnknownNumbersNotFound :
    (∀ k : Byte, ∀ body : List Byte, (asked (request k body) furnished).Takes k (request k body)) ∧
      16 ≤ u8 [16] 0 ∧ State.reset.snapshots = none ∧ (u8 [0] 0 = 0 ∧ 4 < u8 [5] 0) ∧ 1 < u8 [2] 0 ∧
      (∀ q ∈ furnished.capture.records, q.number ≠ u8 [3] 0) ∧ 63 < u8 [64, 1] 0 ∧ u16 [0, 40] 0 ≠ 0 ∧
      (∀ e ∈ furnished.tracker.openEpisode.toList ++ furnished.tracker.history, e.number ≠ u16 [0, 40] 0) ∧
      16 ≤ u8 [0, 0, 16] 2 ∧ (u16 [0, 0] 0 = 0 ∧ State.reset.tracker.openEpisode = none ∧ State.reset.tracker.history = []) ∧
      (request 0x07 (16 :: defaultSettings.bytes)).body.length = 81 ∧ 16 ≤ u8 (16 :: defaultSettings.bytes) 0 ∧
      (∀ q ∈ furnished.capture.records, q.number = u8 [2, 0, 161, 1] 0 → q.length < u16 [2, 0, 161, 1] 1) := by
  and_intros <;> first | exact fun k body => takes_asked rfl rfl rfl | decide +kernel

/-- A Write Transformer Settings of transformer 4. -/
def written (c : Settings) : Request := request 0x07 (beBytes 1 4 ++ c.bytes)

/-- Each order of R1 broken; a record taken unchanged in enabled, one that disables and one that enables. -/
theorem witness_WriteTransformerSettingsTaken :
    let c := fun (d : Settings) => settingsOf ((written d).body.drop 1)
    let thresholds := { defaultSettings with iWarn := 100 }
    let points := { defaultSettings with breakpoints := defaultBreakpoints.set 7 ⟨2000, 15000⟩ }
    let thermal := { defaultSettings with tWarn := 6000 }
    (asked (written defaultSettings) State.reset).Takes 0x07 (written defaultSettings) ∧
      (written defaultSettings).body.length = 81 ∧ u8 (written defaultSettings).body 0 = 4 ∧
      State.reset.inputs.lock.debounced = false ∧ State.reset.store.save = none ∧
      ¬ ((c thresholds).iWatch < (c thresholds).iWarn) ∧
      ((c points).iWatch < (c points).iWarn ∧ (c points).iWarn < (c points).iAlarm) ∧
      ¬ ((c points).breakpoints[6].x < (c points).breakpoints[7].x) ∧ (c thermal).tAlarm ≤ (c thermal).tWarn ∧
      (∀ d ∈ [thermal, defaultSettings, enabledSettings], (c d).iWatch < (c d).iWarn ∧ (c d).iWarn < (c d).iAlarm ∧
        ∀ k : Fin 7, (c d).breakpoints[k.val].x < (c d).breakpoints[k.val + 1].x ∧
          (c d).breakpoints[k.val].r ≤ (c d).breakpoints[k.val + 1].r) ∧
      (c defaultSettings).tWarn < (c defaultSettings).tAlarm ∧ (c enabledSettings).tWarn < (c enabledSettings).tAlarm ∧
      (c enabledSettings).enabled = true ∧ State.reset.cfg.transformers[4].enabled = false ∧
      (c defaultSettings).enabled = false ∧ (served .inService).cfg.transformers[4].enabled = true := by
  and_intros <;> first | exact takes_request _ _ | decide +kernel

/-- R7: an enable taken before an energising change emits OUT_OF_SERVICE and then IN_SERVICE, and taken after it IN_SERVICE
alone. -/
theorem test_enable_before_and_after_energising :
    let s := asked (written enabledSettings)
      { State.reset with
        inputs := { State.reset.inputs with en := State.reset.inputs.en.set 4 ⟨true, true, none⟩ }
        handOffs := { initialHandOffs with enReports := [⟨4, true⟩] } }
    let kinds := fun u : State => (u.link.transitions.map fun r => r.kind).drop 1
    kinds (after (.energised 4) (after .writeTransformerSettings s)) = [.outOfService, .inService] ∧
      kinds (after .writeTransformerSettings (after (.energised 4) s)) = [.inService] := by decide +kernel

/-- A hysteresis of 6000 is brought to 5000, and nothing else changes (R1, R2). -/
theorem test_write_clamps :
    settingsOf { defaultSettings with hyst := 6000 }.bytes = { defaultSettings with hyst := 5000 } := by decide +kernel

/-- A Write Device Settings. -/
def deviceWritten (d : DeviceSettings) : Request := request 0x05 d.writtenBytes

/-- Nothing changed; mains, debounce, link silence, panel lock and pps use changed, each alone. -/
theorem witness_WriteDeviceSettingsTaken :
    let d := fun (e : DeviceSettings) => deviceOf (deviceWritten e).body defaultDevice.noticeMask
    (asked (deviceWritten defaultDevice) State.reset).Takes 0x05 (deviceWritten defaultDevice) ∧
      (deviceWritten defaultDevice).body.length = 15 ∧ d defaultDevice = defaultDevice ∧
      d { defaultDevice with mains := .hz60 } = { defaultDevice with mains := .hz60 } ∧
      d { defaultDevice with debounce := 4 } = { defaultDevice with debounce := 4 } ∧
      d { defaultDevice with linkSilence := 10 } = { defaultDevice with linkSilence := 10 } ∧
      d { defaultDevice with panelLock := true } = { defaultDevice with panelLock := true } ∧
      d { defaultDevice with ppsUse := true } = { defaultDevice with ppsUse := true } ∧
      State.reset.driver.panel = .idle ∧
      (paneled .test true false).driver.panel = .test ∧ (holding.inputs.get .panel).hold = some 100 ∧ 4 ≤ 104 - 100 := by
  and_intros <;> first | exact takes_request _ _ | decide +kernel

/-- A table of one tap, one of none, and maps for contacts 1, 4 and 5. -/
theorem witness_TableAndMapWritten :
    (∀ k : Byte, ∀ body : List Byte, (asked (request k body) State.reset).Takes k (request k body)) ∧
      State.reset.inputs.lock.debounced = false ∧ State.reset.store.save = none ∧
      (u8 [1, 0, 0] 0 = 1 ∧ ([1, 0, 0] : List Byte).length = 1 + 2 * 1) ∧ (u8 [0] 0 = 0 ∧ 64 < u8 [65] 0) ∧
      (request 0x11 (1 :: defaultMap.bytes)).body.length = 8 ∧ u8 (1 :: defaultMap.bytes) 0 = (0 : Fin 4).val + 1 ∧
      u8 (4 :: defaultMap.bytes) 0 = (3 : Fin 4).val + 1 ∧ 4 < u8 (5 :: defaultMap.bytes) 0 := by
  and_intros <;> first | exact fun k body => takes_request k body | decide +kernel

/-- Queue with room and full; Set Clock at and beyond its ranges; a kept reply with the TAG and with another. -/
theorem witness_ClockTransitionsAndNotices :
    (∀ k : Byte, ∀ body : List Byte, (asked (request k body) State.reset).Takes k (request k body)) ∧
      State.reset.link.transitions.length < 64 ∧
      64 ≤ (List.replicate 64 (deviceRecord .clockSet none ⟨0, 0, 0⟩)).length ∧
      (request 0x03 [0, 1, 1, 81, 127, 9]).body.length = 6 ∧ State.reset.time.pps ≠ .tracking ∧
      u24 [0, 1, 1, 81, 127, 9] 2 = 86399 ∧ (request 0x13 [1, 0x3F]).body = [1, 0x3F] ∧
      State.reset.link.kept = none ∧ (some (0x5A, [0xE7]) : Option (Byte × List Byte)).isSome = true := by
  and_intros <;> first | exact fun k body => takes_request k body | decide +kernel

/-- Fetch Summary with RESTARTED in the queue answers DEVICE and 1, and releases ATTN (chapter 11, worked sequence). -/
theorem test_fetch_summary :
    let t := after .fetchSummary (asked (request 0x12 []) State.reset)
    t.link.sending = some (replyFrame (request 0x12 []) .ok [0x10, 1]) ∧ t.link.summary = 0 ∧ t.link.attn = false := by
  decide +kernel

theorem witness_AcknowledgeAndSuppress :
    (∀ k : Byte, ∀ body : List Byte, (asked (request k body) latched).Takes k (request k body)) ∧
      (request 0x0B [0, 0x10, 1]).body.length = 3 ∧ u8 [0, 0x10, 0] 2 = 0 ∧ u8 [0, 0x10, 1] 2 ≠ 0 ∧
      latched.inputs.lock.debounced = false := by
  and_intros <;> first | exact fun k body => takes_asked rfl rfl rfl | decide +kernel

/-- Acknowledge of transformer 4 answers with it, its flag is clear, and the change is reported with its number (R113,
R119). -/
theorem test_acknowledge :
    let t := after .acknowledge (asked (request 0x0B [0, 0x10, 0]) latched)
    t.link.sending = some (replyFrame (request 0x0B [0, 0x10, 0]) .ok [0, 0x10]) ∧ t.live[4].unacknowledged = false ∧
      t.handOffs.reports = latched.handOffs.reports ++ [.transformer 4] := by decide +kernel

theorem witness_SnapshotClearAndClose :
    (∀ k : Byte, ∀ body : List Byte, ∀ s ∈ [State.reset, fed (currentFrame 1 false) (.faulted 1), onTheEdge],
        (asked (request k body) s).Takes k (request k body)) ∧
      (request 0x1E [1]).body = [BitVec.ofNat 8 (1 : Fin 5).val] ∧
      (fed (currentFrame 1 false) (.faulted 1)).intake.converters[(1 : Fin 5)].state = .faulted 1 ∧
      State.reset.intake.converters[(1 : Fin 5)].state = .absent ∧ State.reset.tracker.openEpisode = none ∧
      onTheEdge.tracker.openEpisode.isSome = true := by
  refine ⟨fun k body s hs => ?_, rfl, by decide +kernel, by decide +kernel, rfl, rfl⟩
  simp only [List.mem_cons, List.not_mem_nil, or_false] at hs
  rcases hs with rfl | rfl | rfl <;> exact takes_asked rfl rfl rfl

/-- Capture Now: OFF; an entry waiting; an active capture of the channel; room; none. Extend: DONE and active. Release:
not DONE, not the oldest, DONE. -/
theorem witness_CaptureRequests :
    let r := request 0x18 [4, 5, 0]
    (∀ k : Byte, ∀ body : List Byte, ∀ records waiting,
        (asked (request k body) (capturing records waiting)).Takes k (request k body)) ∧
      r.body.length = 3 ∧ u8 r.body 0 = (4 : Fin 16).val ∧ State.reset.live[4].service = .off ∧
      (capturing [] []).live[4].service ≠ .off ∧
      (∃ e ∈ (capturing [] [entryOf 4 ⟨0, 0, 0⟩ 0 none]).capture.waiting, e.channel = 4) ∧
      (capturing [record4 .suspended 20 0 none] []).capture.records = [] ++ [record4 .suspended 20 0 none] ∧
      (record4 .suspended 20 0 none).state ≠ .done ∧ 32 * (4 + 1) ≤ (capturing [] []).capture.freeSlots ∧
      8 ≤ (capturing (List.replicate 8 (doneRecord 1 5)) []).capture.records.length ∧
      u8 [7, 255] 0 = (record4 .filling 20 0 none).number ∧ u8 [1, 0] 0 = (doneRecord 1 5).number ∧
      (doneRecord 1 5).state = .done ∧ u8 [2] 0 ≠ (doneRecord 1 5).number ∧ (doneRecord 2 5).number = u8 [2] 0 ∧
      doneRecord 1 5 ∉ [doneRecord 2 5] ∧ (∃ q ∈ [record4 .suspended 20 0 none], q.state ≠ .done) ∧
      (∀ q ∈ [doneRecord 2 5], q.state = .done) ∧ (capturing [] []).NoActive (fun other => other = 4) := by
  and_intros <;> first | exact fun k body _ _ => takes_asked rfl rfl rfl | exact no_active rfl | decide +kernel

theorem witness_SaveAndRestart :
    (∀ k : Byte, ∀ body : List Byte, (asked (request k body) State.reset).Takes k (request k body)) ∧
      State.reset.inputs.lock.debounced = false ∧ State.reset.store.save = none ∧
      saving.store.save = some defaultSet :=
  ⟨fun k body => takes_request k body, rfl, rfl, rfl⟩

/-- A second Restart in a row makes the reset due (R182). -/
theorem test_second_restart :
    (after .restart (asked (request 0x20 [])
      { State.reset with link := { State.reset.link with restart := .armed } })).link.restart = .due := by decide +kernel

end Sys2Proof.Tests
end

section
/-! SUPPORT. What a command can do to the Transformer Table, the settings and the Episode Tracker, said once: the parts of
the model that do none of it (`Quiet`), the moves that do, and of which moves each command is made. -/

namespace Sys2Proof.Machine

/-! ### One element of a table -/

/-- An element of a vector after one element has been replaced. -/
theorem get_set {α : Type} {n : Nat} (v : Vector α n) (i j : Fin n) (x : α) :
    (v.set i x)[j] = if j = i then x else v[j] := by
  simp only [Fin.getElem_fin, Vector.getElem_set, Fin.ext_iff, eq_comm]

/-- An element of a vector after that element has been replaced. -/
@[simp] theorem get_set_same {α : Type} {n : Nat} (v : Vector α n) (i : Fin n) (x : α) : (v.set i x)[i] = x := by
  simp

theorem get_set_of_ne {α : Type} {n : Nat} (v : Vector α n) {i j : Fin n} (h : j ≠ i) (x : α) :
    (v.set i x)[j] = v[j] := by
  rw [get_set, if_neg h]

/-- An element replaced by itself. -/
@[simp] theorem set_get_same {α : Type} {n : Nat} (v : Vector α n) (i : Fin n) : v.set i v[i] = v := by simp

/-- An element of a vector given element by element. -/
theorem get_ofFn {α : Type} {n : Nat} (f : Fin n → α) (i : Fin n) : (Vector.ofFn f)[i] = f i := by simp

/-! ### What leaves the table alone -/

/-- The record of a channel that offset learning and the de-energised time are kept in (R48, R50) stands as it was. -/
structure KeepsLearning (c d : Channel) : Prop where
  learning : d.learning = c.learning
  time : d.deenergisedTime = c.deenergisedTime

@[simp] theorem KeepsLearning.refl (c : Channel) : KeepsLearning c c := ⟨rfl, rfl⟩

/-- Live parts, learning, the Episode Tracker and the evaluations on their way to it stand as they were. -/
structure SameTable (s t : State) : Prop where
  live : t.live = s.live
  tracker : t.tracker = s.tracker
  evaluations : t.handOffs.evaluations = s.handOffs.evaluations
  channels : ∀ ch : Fin 16, KeepsLearning s.channels[ch] t.channels[ch]

/-- `SameTable`, and the settings and the store stand as they were too. -/
structure Quiet (s t : State) : Prop extends SameTable s t where
  cfg : t.cfg = s.cfg
  store : t.store = s.store

theorem KeepsLearning.symm {c d : Channel} (h : KeepsLearning c d) : KeepsLearning d c := ⟨h.learning.symm, h.time.symm⟩

theorem KeepsLearning.trans {c d e : Channel} (h : KeepsLearning c d) (k : KeepsLearning d e) : KeepsLearning c e :=
  ⟨k.learning.trans h.learning, k.time.trans h.time⟩

@[simp] theorem SameTable.refl (s : State) : SameTable s s := ⟨rfl, rfl, rfl, fun _ => .refl _⟩

theorem SameTable.trans {s u t : State} (h : SameTable s u) (k : SameTable u t) : SameTable s t :=
  ⟨k.live.trans h.live, k.tracker.trans h.tracker, k.evaluations.trans h.evaluations,
    fun ch => (h.channels ch).trans (k.channels ch)⟩

@[simp] theorem Quiet.refl (s : State) : Quiet s s := ⟨.refl s, rfl, rfl⟩

theorem Quiet.trans {s u t : State} (h : Quiet s u) (k : Quiet u t) : Quiet s t :=
  ⟨h.toSameTable.trans k.toSameTable, k.cfg.trans h.cfg, k.store.trans h.store⟩

/-- An operation that leaves all the channels alone. -/
theorem Quiet.of_eq {s t : State} (hl : t.live = s.live) (ht : t.tracker = s.tracker)
    (he : t.handOffs.evaluations = s.handOffs.evaluations) (hc : t.channels = s.channels) (hg : t.cfg = s.cfg)
    (hs : t.store = s.store) : Quiet s t :=
  ⟨⟨hl, ht, he, fun ch => by rw [hc]; exact .refl _⟩, hg, hs⟩

theorem Quiet.symm {s t : State} (h : Quiet s t) : Quiet t s :=
  ⟨⟨h.live.symm, h.tracker.symm, h.evaluations.symm, fun ch => (h.channels ch).symm⟩, h.cfg.symm, h.store.symm⟩

/-- What is quiet can be left out. -/
theorem Quiet.iff {s u t : State} (k : Quiet u t) : Quiet s t ↔ Quiet s u :=
  ⟨fun h => h.trans k.symm, fun h => h.trans k⟩

/-- One channel replaced by one with its learning and de-energised time. -/
theorem quiet_setChannel {s u : State} {ch : Fin 16} {c : Channel} (hl : c.learning = u.channels[ch].learning)
    (ht : c.deenergisedTime = u.channels[ch].deenergisedTime) : Quiet s (u.setChannel ch c) ↔ Quiet s u := by
  refine Quiet.iff ⟨⟨rfl, rfl, rfl, fun j => ?_⟩, rfl, rfl⟩
  rw [State.setChannel_channels, get_set]
  split
  · subst j; exact ⟨hl, ht⟩
  · exact .refl _

/-- Hand-offs replaced by ones with the same evaluations on their way. -/
theorem quiet_setHandOffs {s u : State} {g : HandOffs} (hg : g.evaluations = u.handOffs.evaluations) :
    Quiet s (u.setHandOffs g) ↔ Quiet s u := Quiet.iff (.of_eq rfl rfl hg rfl rfl rfl)

/-- A fold whose every step is quiet is quiet. -/
theorem quiet_foldl {α : Type} {s u : State} (f : State → α → State) (hf : ∀ v a, Quiet v (f v a)) (l : List α) :
    Quiet s (l.foldl f u) ↔ Quiet s u := by
  induction l generalizing u with
  | nil => rfl
  | cons a l ih => exact ih.trans (hf u a).iff

theorem quiet_whenChanged {s u : State} (b : Bool) (f : State → State) (hf : ∀ v, Quiet v (f v)) :
    Quiet s (u.whenChanged b f) ↔ Quiet s u := by
  cases b
  · rfl
  · exact (hf u).iff

/-! ### Operations that touch neither the table nor the evaluations on their way -/

section
variable {s u : State}

@[simp] theorem quiet_setConverter (c : Fin 5) (v : Converter) : Quiet s (u.setConverter c v) ↔ Quiet s u :=
  Quiet.iff (.of_eq rfl rfl rfl rfl rfl rfl)
@[simp] theorem quiet_setCapture (c : CaptureUnit) : Quiet s (u.setCapture c) ↔ Quiet s u :=
  Quiet.iff (.of_eq rfl rfl rfl rfl rfl rfl)
@[simp] theorem quiet_setDriver (d : ContactDriver) : Quiet s (u.setDriver d) ↔ Quiet s u :=
  Quiet.iff (.of_eq rfl rfl rfl rfl rfl rfl)
@[simp] theorem quiet_setField (f : FieldEstimator) : Quiet s (u.setField f) ↔ Quiet s u :=
  Quiet.iff (.of_eq rfl rfl rfl rfl rfl rfl)
@[simp] theorem quiet_setTime (t : TimeBase) : Quiet s (u.setTime t) ↔ Quiet s u :=
  Quiet.iff (.of_eq rfl rfl rfl rfl rfl rfl)
@[simp] theorem quiet_setLink (l : MessageLink) : Quiet s (u.setLink l) ↔ Quiet s u :=
  Quiet.iff (.of_eq rfl rfl rfl rfl rfl rfl)
@[simp] theorem quiet_emitDevice (k : TransitionKind) (d : Option Nat) (t : Stamp) :
    Quiet s (u.emitDevice k d t) ↔ Quiet s u :=
  Quiet.iff (.of_eq rfl rfl rfl rfl rfl rfl)
@[simp] theorem quiet_emitTransformer (i : Fin 16) (k : TransitionKind) (v : Option (Level × Level)) (x d : Option Nat) (t : Stamp) :
    Quiet s (u.emitTransformer i k v x d t) ↔ Quiet s u :=
  Quiet.iff (.of_eq rfl rfl rfl rfl rfl rfl)
@[simp] theorem quiet_report (r : ContactReport) : Quiet s (u.report r) ↔ Quiet s u :=
  Quiet.iff (.of_eq rfl rfl rfl rfl rfl rfl)
@[simp] theorem quiet_answer (r : Request) (st : Status) (body : List Byte) :
    Quiet s (u.answer r st body) ↔ Quiet s u :=
  Quiet.iff (.of_eq rfl rfl rfl rfl rfl rfl)
@[simp] theorem quiet_replied (r : Request) (st : Status) (body : List Byte) :
    Quiet s (u.replied r st body) ↔ Quiet s u :=
  Quiet.iff (.of_eq rfl rfl rfl rfl rfl rfl)
@[simp] theorem quiet_disarm : Quiet s (u.disarm) ↔ Quiet s u :=
  Quiet.iff (.of_eq rfl rfl rfl rfl rfl rfl)
@[simp] theorem quiet_hostAbandon : Quiet s (u.hostAbandon) ↔ Quiet s u :=
  Quiet.iff (.of_eq rfl rfl rfl rfl rfl rfl)
@[simp] theorem quiet_tenthPasses : Quiet s (u.tenthPasses) ↔ Quiet s u :=
  Quiet.iff (.of_eq rfl rfl rfl rfl rfl rfl)
@[simp] theorem quiet_serve : Quiet s (u.serve) ↔ Quiet s u :=
  Quiet.iff (.of_eq (by simp) (by simp) (by simp) (by simp) (by simp) (by simp))
@[simp] theorem quiet_endCapture (b : Bool) (t : Stamp) : Quiet s (u.endCapture b t) ↔ Quiet s u :=
  Quiet.iff (.of_eq (by simp) (by simp) (by simp) (by simp) (by simp) (by simp))
@[simp] theorem quiet_offerCycle (ch : Fin 16) (codes : List Int) : Quiet s (u.offerCycle ch codes) ↔ Quiet s u :=
  Quiet.iff (.of_eq (by simp) (by simp) (by simp) (by simp) (by simp) (by simp))
@[simp] theorem quiet_captureNotice (p : Fin 16 → Bool) : Quiet s (u.captureNotice p) ↔ Quiet s u :=
  Quiet.iff (.of_eq (by simp) (by simp) (by simp) (by simp) (by simp) (by simp))
@[simp] theorem quiet_startOrWait (ch : Fin 16) (k : CaptureCause) (t : Stamp) (pre post : Nat) :
    Quiet s (u.startOrWait ch k t pre post) ↔ Quiet s u :=
  Quiet.iff (.of_eq (by simp) (by simp) (by simp) (by simp) (by simp) (by simp))
@[simp] theorem quiet_levelTriggered (t : TriggerHandOff) : Quiet s (u.levelTriggered t) ↔ Quiet s u :=
  Quiet.iff (.of_eq (by simp) (by simp) (by simp) (by simp) (by simp) (by simp))
@[simp] theorem quiet_captureDisabled (ch : Fin 16) : Quiet s (u.captureDisabled ch) ↔ Quiet s u :=
  Quiet.iff (.of_eq (by simp) (by simp) (by simp) (by simp) (by simp) (by simp))
@[simp] theorem quiet_missCapture (ch : Fin 16) (t : Stamp) : Quiet s (u.missCapture ch t) ↔ Quiet s u :=
  Quiet.iff (.of_eq (by simp) (by simp) (by simp) (by simp) (by simp) (by simp))
@[simp] theorem quiet_releaseOldest : Quiet s (u.releaseOldest) ↔ Quiet s u :=
  Quiet.iff (.of_eq (by simp) (by simp) (by simp) (by simp) (by simp) (by simp))
@[simp] theorem quiet_takeFieldGroup (n e : Int) (tag : Tag) : Quiet s (u.takeFieldGroup n e tag) ↔ Quiet s u :=
  Quiet.iff (.of_eq (by simp) (by simp) (by simp) (by simp) (by simp) (by simp))
@[simp] theorem quiet_abandonField : Quiet s (u.abandonField) ↔ Quiet s u :=
  Quiet.iff (.of_eq (by simp) (by simp) (by simp) (by simp) (by simp) (by simp))
@[simp] theorem quiet_fieldSecond (t : Stamp) : Quiet s (u.fieldSecond t) ↔ Quiet s u :=
  Quiet.iff (.of_eq (by simp) (by simp) (by simp) (by simp) (by simp) (by simp))
@[simp] theorem quiet_sampleBytes (bytes : List Byte) : Quiet s (u.sampleBytes bytes) ↔ Quiet s u :=
  Quiet.iff (.of_eq (by simp) (by simp) (by simp) (by simp) (by simp) (by simp))
@[simp] theorem quiet_sampleIdle : Quiet s (u.sampleIdle) ↔ Quiet s u :=
  Quiet.iff (.of_eq (by simp) (by simp) (by simp) (by simp) (by simp) (by simp))
@[simp] theorem quiet_sampleDamaged : Quiet s (u.sampleDamaged) ↔ Quiet s u :=
  Quiet.iff (.of_eq (by simp) (by simp) (by simp) (by simp) (by simp) (by simp))
@[simp] theorem quiet_driveOutputs : Quiet s (u.driveOutputs) ↔ Quiet s u :=
  Quiet.iff (.of_eq (by simp) (by simp) (by simp) (by simp) (by simp) (by simp))
@[simp] theorem quiet_judgeContacts : Quiet s (u.judgeContacts) ↔ Quiet s u :=
  Quiet.iff (.of_eq (by simp) (by simp) (by simp) (by simp) (by simp) (by simp))
@[simp] theorem quiet_acknowledgeContacts : Quiet s (u.acknowledgeContacts) ↔ Quiet s u :=
  Quiet.iff (.of_eq (by simp) (by simp) (by simp) (by simp) (by simp) (by simp))
@[simp] theorem quiet_setPanel (p : PanelState) (b : Bool) : Quiet s (u.setPanel p b) ↔ Quiet s u :=
  Quiet.iff (.of_eq (by simp) (by simp) (by simp) (by simp) (by simp) (by simp))
@[simp] theorem quiet_panelPressed : Quiet s (u.panelPressed) ↔ Quiet s u :=
  Quiet.iff (.of_eq (by simp) (by simp) (by simp) (by simp) (by simp) (by simp))
@[simp] theorem quiet_panelLocked : Quiet s (u.panelLocked) ↔ Quiet s u :=
  Quiet.iff (.of_eq (by simp) (by simp) (by simp) (by simp) (by simp) (by simp))
@[simp] theorem quiet_captureSecond (t : Stamp) : Quiet s (u.captureSecond t) ↔ Quiet s u :=
  Quiet.iff (.of_eq (by simp) (by simp) (by simp) (by simp) (by simp) (by simp))
@[simp] theorem quiet_ppsUseWritten (b : Bool) : Quiet s (u.ppsUseWritten b) ↔ Quiet s u :=
  Quiet.iff (.of_eq (by simp) (by simp) (by simp) (by simp) (by simp) (by simp))
@[simp] theorem quiet_offerRequest (r : Request) : Quiet s (u.offerRequest r) ↔ Quiet s u :=
  Quiet.iff (.of_eq (by simp) (by simp) (by simp) (by simp) (by simp) (by simp))
@[simp] theorem quiet_replySentOut : Quiet s (u.replySentOut) ↔ Quiet s u :=
  Quiet.iff (.of_eq (by simp) (by simp) (by simp) (by simp) (by simp) (by simp))
@[simp] theorem quiet_reportIf (b : Bool) (r : ContactReport) : Quiet s (u.reportIf b r) ↔ Quiet s u := by
  cases b
  · rfl
  · exact quiet_report r

/-! ### Operations that hand something else on, or touch other parts of a channel -/

@[simp] theorem quiet_completeSecond (ch : Fin 16) (g : Nat) : Quiet s (u.completeSecond ch g) ↔ Quiet s u := by
  simp only [State.completeSecond]
  exact (quiet_setChannel (by rfl) (by rfl)).trans (quiet_setHandOffs (by rfl))

@[simp] theorem quiet_completeBlock (ch : Fin 16) (g : Nat) : Quiet s (u.completeBlock ch g) ↔ Quiet s u := by
  simp only [State.completeBlock]
  split <;> simp [quiet_setChannel]

@[simp] theorem quiet_completeCycle (ch : Fin 16) (c : PartialCycle) : Quiet s (u.completeCycle ch c) ↔ Quiet s u := by
  simp only [State.completeCycle]
  split <;> simp [quiet_setChannel]

@[simp] theorem quiet_takeSample (ch : Fin 16) (code : Int) (tag : Tag) :
    Quiet s (u.takeSample ch code tag) ↔ Quiet s u := by
  simp only [State.takeSample]
  split <;> simp [quiet_setChannel]

@[simp] theorem quiet_abandonChannels (p : Fin 16 → Bool) : Quiet s (u.abandonChannels p) ↔ Quiet s u := by
  refine Quiet.iff ⟨⟨by simp, by simp, by simp, fun ch => ?_⟩, by simp, by simp⟩
  simp only [State.abandonChannels, get_ofFn]
  split
  · exact ⟨rfl, rfl⟩
  · exact .refl _

@[simp] theorem quiet_abandon (p : Fin 16 → Bool) : Quiet s (u.abandon p) ↔ Quiet s u := by
  simp [State.abandon]

@[simp] theorem quiet_takeGroup (g : SampleGroup) : Quiet s (u.takeGroup g) ↔ Quiet s u := by
  cases g <;> simp [State.takeGroup]

@[simp] theorem quiet_handFill (f : Frame) (q : Byte) : Quiet s (u.handFill f q) ↔ Quiet s u := by
  simp [State.handFill]

@[simp] theorem quiet_handFills (f : Frame) (q : Byte) (n : Nat) : Quiet s (u.handFills f q n) ↔ Quiet s u := by
  induction n generalizing u q with
  | zero => rfl
  | succ n ih => exact (ih _).trans (quiet_handFill f q)

@[simp] theorem quiet_setConverterState (c : Fin 5) (v : ConverterState) :
    Quiet s (u.setConverterState c v) ↔ Quiet s u := by simp [State.setConverterState]

@[simp] theorem quiet_handleStatus (f : Frame) : Quiet s (u.handleStatus f) ↔ Quiet s u := by
  simp only [State.handleStatus]
  (repeat' split) <;> simp

@[simp] theorem quiet_handOwn (f : Frame) : Quiet s (u.handOwn f) ↔ Quiet s u := by
  simp only [State.handOwn]
  split
  · simp
  · exact (quiet_takeGroup _).trans (Quiet.iff (.of_eq rfl rfl rfl rfl rfl rfl))

@[simp] theorem quiet_followRef (f : Frame) : Quiet s (u.followRef f) ↔ Quiet s u := by simp [State.followRef]

@[simp] theorem quiet_abandonConverter (c : Fin 5) : Quiet s (u.abandonConverter c) ↔ Quiet s u := by
  simp only [State.abandonConverter]
  split <;> simp

@[simp] theorem quiet_resync (f : Frame) : Quiet s (u.resync f) ↔ Quiet s u := by simp [State.resync]

@[simp] theorem quiet_firstFrame (f : Frame) : Quiet s (u.firstFrame f) ↔ Quiet s u := by
  simp only [State.firstFrame]
  split <;> simp

@[simp] theorem quiet_judge (f : Frame) : Quiet s (u.judge f) ↔ Quiet s u := by
  simp only [State.judge]
  (repeat' split) <;> simp

@[simp] theorem quiet_takeHead (p : Frame → Bool) : Quiet s (u.takeHead p) ↔ Quiet s u := by
  simp only [State.takeHead]
  repeat' split
  · rfl
  · exact (quiet_judge _).trans (Quiet.iff (.of_eq rfl rfl rfl rfl rfl rfl))
  · rfl

@[simp] theorem quiet_silenceExpired (c : Fin 5) : Quiet s (u.silenceExpired c) ↔ Quiet s u := by
  simp only [State.silenceExpired]
  (repeat' split) <;> simp

@[simp] theorem quiet_completeHold (p : Pin) : Quiet s (u.completeHold p) ↔ Quiet s u := by
  refine Quiet.iff (.of_eq (by simp) (by simp) ?_ (by simp) (by simp) (by simp))
  simp only [State.completeHold]
  split
  · rfl
  · cases p <;> rfl

@[simp] theorem quiet_debounceWritten (now : Nat) : Quiet s (u.debounceWritten now) ↔ Quiet s u :=
  quiet_foldl _ (fun v p => by (repeat' split) <;> simp) _

@[simp] theorem quiet_linkHeard : Quiet s u.linkHeard ↔ Quiet s u := by
  simp only [State.linkHeard]
  split <;> simp

@[simp] theorem quiet_hostBytes (bytes : List Byte) : Quiet s (u.hostBytes bytes) ↔ Quiet s u :=
  (quiet_foldl _ (fun _ _ => by simp) _).trans (quiet_setLink _)

@[simp] theorem quiet_linkSilenceWritten : Quiet s u.linkSilenceWritten ↔ Quiet s u := by
  simp [State.linkSilenceWritten]

@[simp] theorem quiet_linkSecond (t : Stamp) : Quiet s (u.linkSecond t) ↔ Quiet s u := by
  simp only [State.linkSecond]
  (repeat' split) <;> simp

@[simp] theorem quiet_takeLinkTick : Quiet s u.takeLinkTick ↔ Quiet s u := by
  simp only [State.takeLinkTick]
  split <;> simp [quiet_setHandOffs]

@[simp] theorem quiet_linkClock (t : Stamp) : Quiet s (u.linkClock t) ↔ Quiet s u := by
  simp only [State.linkClock]
  split <;> simp [quiet_setHandOffs]

@[simp] theorem quiet_takeFieldTick : Quiet s u.takeFieldTick ↔ Quiet s u := by
  simp only [State.takeFieldTick]
  split <;> simp [quiet_setHandOffs]

@[simp] theorem quiet_fieldClock (t : Stamp) : Quiet s (u.fieldClock t) ↔ Quiet s u := by
  simp only [State.fieldClock]
  split <;> simp [quiet_setHandOffs]

@[simp] theorem quiet_deviceEffects (a b : DeviceSettings) (now : Nat) :
    Quiet s (u.deviceEffects a b now) ↔ Quiet s u := by
  simp [State.deviceEffects, quiet_whenChanged]

end

end Sys2Proof.Machine
end

section
/-! SUPPORT. Of which moves of the Transformer Table, the settings and the Episode Tracker each command is made. -/

namespace Sys2Proof.Machine

/-- Live parts that differ in unacknowledged, which may be cleared, and in suppressed alone (R113, R117). -/
structure FlagsMoved (l m : Live) : Prop where
  rest : m = { l with unacknowledged := m.unacknowledged, suppressed := m.suppressed }
  cleared : m.unacknowledged = true → l.unacknowledged = true

/-- One move of the table or of the settings. Every command is a chain of them, but for at most one move of the tracker. -/
inductive TableMove : State → State → Prop
  | quiet {s t : State} (h : Quiet s t) : TableMove s t
  /-- A record takes a measured second (R15). -/
  | second (h : SecondHandOff) (s : State) : TableMove s (s.takeSecond h)
  /-- A record takes a clock second (R15, R17). -/
  | clock (i : Fin 16) (stamp : Stamp) (s : State) : TableMove s (s.recordSecond i stamp)
  | energise (i : Fin 16) (s : State) : TableMove s (s.energise i)
  | deenergise (i : Fin 16) (s : State) : TableMove s (s.deenergise i)
  /-- Flags are cleared or set (R113, R117). -/
  | flags {s t : State} (live : ∀ i : Fin 16, FlagsMoved s.live[i] t.live[i]) (rest : Quiet { s with live := t.live } t) :
      TableMove s t
  /-- A settings part is taken (R2). -/
  | settings (i : Fin 16) {c : Settings} (h : SettingsOk c) (s : State) :
      TableMove s ((s.setSettings i c).settingsEffects i s.cfg.transformers[i] c)
  /-- Other settings, or the store, change, the settings of the transformers and the table do not (R68, R166, R173, R179,
  R180). -/
  | configured {s t : State} (h : SameTable s t) (transformers : t.cfg.transformers = s.cfg.transformers)
      (law : SettingsLaw s → SettingsLaw t) : TableMove s t

/-- A move of the Episode Tracker. -/
inductive TrackerMove : State → State → Prop
  /-- A reset (R181). -/
  | startUp (cause : ResetCause) (rateHigh : Bool) (s : State) : TrackerMove s (s.startUp cause rateHigh)
  /-- A clock second comes to the tracker (R125). -/
  | clock (stamp : Stamp) (s : State) : TrackerMove s (s.trackerClock stamp)
  /-- The tracker takes a clock second that has waited (R129). -/
  | tick (s : State) : TrackerMove s s.takeTrackerTick
  /-- It does so where nothing keeps it waiting (R134). -/
  | settle (s : State) : TrackerMove s s.settleTracker
  /-- The tracker takes the oldest evaluation of a transformer (R133). -/
  | handOff {s : State} {i : Fin 16} {h : EvaluationHandOff} {rest : List EvaluationHandOff}
      (taken : takeFirst (fun g => g.transformer == i) s.handOffs.evaluations = some (h, rest)) :
      TrackerMove s ((s.setHandOffs { s.handOffs with evaluations := rest }).takeHandOff h)
  /-- The open episode is closed by the host (R132). -/
  | close {s : State} {e : Episode} (isOpen : s.tracker.openEpisode = some e) :
      TrackerMove s (s.closeEpisodeRecord e s.time.now .forced)

/-- A chain of moves of the table and the settings. -/
abbrev TableMoves : State → State → Prop := Relation.ReflTransGen TableMove

/-- What a command can do: a chain of moves of the table, with at most one move of the tracker among them. -/
inductive CommandMoves (s t : State) : Prop
  | table (h : TableMoves s t)
  | tracker {u v : State} (before : TableMoves s u) (move : TrackerMove u v) (after : TableMoves v t)

theorem Quiet.moves {s t : State} (h : Quiet s t) : TableMoves s t := .single (.quiet h)

theorem Quiet.commandMoves {s t : State} (h : Quiet s t) : CommandMoves s t := .table h.moves

theorem TableMove.commandMoves {s t : State} (h : TableMove s t) : CommandMoves s t := .table (.single h)

theorem TrackerMove.commandMoves {s t : State} (h : TrackerMove s t) : CommandMoves s t := .tracker .refl h .refl

/-- A command's moves after a chain of moves of the table. -/
theorem CommandMoves.after {s u t : State} (k : CommandMoves u t) (h : TableMoves s u) : CommandMoves s t := by
  cases k with
  | table m => exact .table (h.trans m)
  | tracker b m a => exact .tracker (h.trans b) m a

/-- A command's moves before a chain of moves of the table. -/
theorem CommandMoves.before {s u t : State} (h : CommandMoves s u) (k : TableMoves u t) : CommandMoves s t := by
  cases h with
  | table m => exact .table (m.trans k)
  | tracker b m a => exact .tracker b m (a.trans k)

theorem CommandMoves.afterQuiet {s u t : State} (k : CommandMoves u t) (h : Quiet s u) : CommandMoves s t :=
  k.after h.moves

theorem CommandMoves.beforeQuiet {s u t : State} (h : CommandMoves s u) (k : Quiet u t) : CommandMoves s t :=
  h.before k.moves

/-! ### The clock -/

theorem tableMoves_takeRecordTick (i : Fin 16) (s : State) : TableMoves s (s.takeRecordTick i) := by
  simp only [State.takeRecordTick]
  split
  · exact .refl
  · exact .tail (Quiet.moves ((quiet_setHandOffs (by rfl)).mpr (.refl s))) (.clock i _ _)

theorem tableMoves_recordClock (stamp : Stamp) (i : Fin 16) (s : State) : TableMoves s (s.recordClock stamp i) := by
  simp only [State.recordClock]
  split
  · exact (tableMoves_takeRecordTick i s).tail (.quiet ((quiet_setHandOffs (by rfl)).mpr (.refl _)))
  · exact (tableMoves_takeRecordTick i s).tail (.clock i stamp _)

/-- A fold whose every step is made of moves is made of moves. -/
theorem tableMoves_foldl {α : Type} (f : State → α → State) (hf : ∀ u a, TableMoves u (f u a)) (l : List α) (s : State) :
    TableMoves s (l.foldl f s) := by
  induction l generalizing s with
  | nil => exact .refl
  | cons a l ih => exact (hf s a).trans (ih _)

theorem commandMoves_blocksClock (stamp : Stamp) (s : State) : CommandMoves s (s.blocksClock stamp) := by
  have records := tableMoves_foldl (fun u i => u.recordClock stamp i) (fun u i => tableMoves_recordClock stamp i u)
    allSixteen s
  have fieldToo := records.tail (.quiet ((quiet_fieldClock stamp).mpr (.refl _)))
  exact ((TrackerMove.clock stamp _).commandMoves.after fieldToo).beforeQuiet (by simp [State.blocksClock])

theorem commandMoves_oscillatorSecond (s : State) : CommandMoves s s.oscillatorSecond :=
  (commandMoves_blocksClock _ _).afterQuiet (by simp)

theorem commandMoves_supervisedSecond (s : State) : CommandMoves s s.supervisedSecond := by
  simp only [State.supervisedSecond]
  split
  · exact commandMoves_oscillatorSecond s
  · exact (commandMoves_blocksClock _ _).afterQuiet (by simp)

theorem commandMoves_ppsEdgeAt (now : Nat) (s : State) : CommandMoves s (s.ppsEdgeAt now) := by
  simp only [State.ppsEdgeAt]
  repeat' split
  · exact Quiet.commandMoves (by simp)
  · exact Quiet.commandMoves (by simp)
  · exact (commandMoves_supervisedSecond _).afterQuiet (by simp)
  · exact (commandMoves_oscillatorSecond _).afterQuiet (by simp)

theorem commandMoves_ppsFails (s : State) : CommandMoves s s.ppsFails := by
  simp only [State.ppsFails]
  split
  · exact (commandMoves_supervisedSecond _).afterQuiet (by simp)
  · exact Quiet.commandMoves (by simp)

theorem commandMoves_settleClock (s : State) : CommandMoves s s.settleClock :=
  (TrackerMove.settle _).commandMoves.afterQuiet (by split <;> simp)

/-! ### Flags -/

theorem FlagsMoved.refl (l : Live) : FlagsMoved l l := ⟨rfl, id⟩

theorem tableMove_acknowledgeTransformers (named : TransformerSet) (s : State) :
    TableMove s (s.acknowledgeTransformers named) := by
  refine .flags (fun i => ?_) (.of_eq rfl (by simp) rfl (by simp) (by simp) (by simp))
  have : (s.acknowledgeTransformers named).live[i] =
      if named.getLsbD i then { s.live[i] with unacknowledged := false } else s.live[i] := get_ofFn _ i
  rw [this]
  split
  · exact ⟨rfl, by simp⟩
  · exact .refl _

theorem tableMove_suppressTransformers (named : TransformerSet) (value : Bool) (s : State) :
    TableMove s (s.suppressTransformers named value) := by
  refine .flags (fun i => ?_) (.of_eq rfl (by simp) rfl (by simp) (by simp) (by simp))
  have : (s.suppressTransformers named value).live[i] =
      if named.getLsbD i then { s.live[i] with suppressed := value } else s.live[i] := get_ofFn _ i
  rw [this]
  split
  · exact ⟨rfl, id⟩
  · exact .refl _

theorem commandMoves_panelReleased (s : State) : CommandMoves s s.panelReleased := by
  simp only [State.panelReleased]
  split
  case h_2 =>
    have flags := (tableMove_acknowledgeTransformers 0xFFFF (s.setPanel .idle false)).commandMoves
    exact (flags.afterQuiet (by simp)).beforeQuiet (by simp)
  all_goals exact Quiet.commandMoves (by simp)

/-! ### Settings in their ranges -/

theorem signed_mem {bits v : Nat} (hb : 0 < bits) (hv : v < 2 ^ bits) :
    -(2 ^ (bits - 1) : Nat) ≤ signed bits v ∧ signed bits v ≤ (2 ^ (bits - 1) : Nat) - 1 := by
  obtain ⟨n, rfl⟩ : ∃ n, bits = n + 1 := ⟨bits - 1, by omega⟩
  have h2 : 2 ^ (n + 1) = 2 * 2 ^ n := by ring
  unfold signed
  simp only [Nat.add_sub_cancel]
  split <;> omega

theorem u8_lt (b : List Byte) (k : Nat) : u8 b k < 256 := (b.getD k 0).isLt

theorem u16_lt (b : List Byte) (k : Nat) : u16 b k < 65536 := by
  have h := u8_lt b k
  have h' := u8_lt b (k + 1)
  unfold u16
  omega

theorem s16_mem (b : List Byte) (k : Nat) : -32768 ≤ s16 b k ∧ s16 b k ≤ 32767 :=
  signed_mem (bits := 16) (by decide) (u16_lt b k)

/-- What `pointsOk` says of two points next to each other (R1). -/
theorem pointsOk_iff {l : List Breakpoint} :
    pointsOk l = true ↔ ∀ k, (h : k + 1 < l.length) → l[k].x < l[k + 1].x ∧ l[k].r ≤ l[k + 1].r := by
  induction l with
  | nil => simp [pointsOk]
  | cons a rest ih =>
    cases rest with
    | nil => simp [pointsOk]
    | cons b rest =>
      simp only [pointsOk, Bool.and_eq_true, decide_eq_true_eq, ih]
      constructor
      · rintro ⟨⟨hx, hr⟩, h⟩ k hk
        cases k with
        | zero => exact ⟨hx, hr⟩
        | succ k => exact h k (by simpa using hk)
      · intro h
        exact ⟨h 0 (by simp), fun k hk => h (k + 1) (by simpa using hk)⟩

/-- Points in order next to each other are in order throughout (R1). -/
theorem pointsOk_rising {l : List Breakpoint} (h : pointsOk l = true) (j k : Nat) (hjk : j < k) (hk : k < l.length) :
    l[j].x < l[k].x ∧ l[j].r ≤ l[k].r := by
  induction k with
  | zero => omega
  | succ k ih =>
    obtain ⟨hx, hr⟩ := pointsOk_iff.mp h k hk
    rcases Nat.lt_succ_iff_lt_or_eq.mp hjk with hlt | rfl
    · obtain ⟨hx', hr'⟩ := ih hlt (by omega)
      exact ⟨hx'.trans hx, hr'.trans hr⟩
    · exact ⟨hx, hr⟩

theorem violation_eq_none {c : Settings} : c.violation = none ↔
    c.thresholdsOk = true ∧ pointsOk c.breakpoints.toList = true ∧ c.thermalOk = true := by
  unfold Settings.violation
  cases c.thresholdsOk <;> cases pointsOk c.breakpoints.toList <;> cases c.thermalOk <;> simp

theorem reminderOf_mem (r : Nat) : reminderOf r = 0 ∨ 60 ≤ reminderOf r ∧ reminderOf r ≤ 3600 := by
  unfold reminderOf clampNat
  split <;> omega

/-- A settings part brought within range and in order is in its ranges (R2). -/
theorem settingsOf_ok {b : List Byte} (h : (settingsOf b).violation = none) : SettingsOk (settingsOf b) := by
  obtain ⟨ht, hp, hh⟩ := violation_eq_none.mp h
  simp only [Settings.thresholdsOk, Settings.thermalOk, Bool.and_eq_true, decide_eq_true_eq] at ht hh
  have clamp {lo hi : Nat} (hle : lo ≤ hi) (n : Nat) := clampNat_mem (n := n) hle
  exact {
    gain := clamp (by decide) _
    offset := clampInt_mem (by decide)
    currents := ⟨(clamp (by decide) _).1, ht.1, ht.2, (clamp (by decide) _).2⟩
    hyst := (clamp (by decide) _).2
    delays := ⟨(clamp (by decide) _).2, (clamp (by decide) _).2, (clamp (by decide) _).2, (clamp (by decide) _).2⟩
    points := fun k => by
      simp only [settingsOf, get_ofFn]
      exact ⟨(clamp (by decide) _).1, (clamp (by decide) _).2, (clamp (by decide) _).2⟩
    rising := fun j k hjk => by
      simpa using pointsOk_rising hp j k hjk (by simp)
    constants := ⟨(clamp (by decide) _).1, (clamp (by decide) _).2, (clamp (by decide) _).1, (clamp (by decide) _).2⟩
    thermal := ⟨(clamp (by decide) _).1, hh, (clamp (by decide) _).2, (clamp (by decide) _).2⟩
    coefficients := ⟨(s16_mem b _).1, (s16_mem b _).2, s16_mem b _⟩
    band := ⟨(clamp (by decide) _).1, (clamp (by decide) _).2, (clamp (by decide) _).2⟩
    doubtD := clamp (by decide) _
    reminder := reminderOf_mem _
    capture := ⟨(clamp (by decide) _).2, clamp (by decide) _⟩ }

theorem linkSilenceOf_mem (n : Nat) : linkSilenceOf n = 0 ∨ 10 ≤ linkSilenceOf n ∧ linkSilenceOf n ≤ 3600 := by
  unfold linkSilenceOf clampNat
  split <;> omega

/-- Device settings brought within range are in their ranges (R179). -/
theorem deviceOf_ok (b : List Byte) (mask : CategorySet) : DeviceOk (deviceOf b mask) :=
  ⟨clampNat_mem (by decide), clampNat_mem (by decide), clampNat_mem (by decide), linkSilenceOf_mem _⟩

theorem mapOf_minLevel (b : List Byte) : (mapOf b).minLevel ≠ .normal := by
  simp only [mapOf, minLevelOf]
  repeat' split
  all_goals decide

theorem DeviceOk.withMask {d : DeviceSettings} (h : DeviceOk d) (m : CategorySet) : DeviceOk { d with noticeMask := m } :=
  ⟨h.debounce, h.quietTime, h.eStart, h.linkSilence⟩

theorem SetOk.withDevice {c : SettingsSet} (h : SetOk c) {d : DeviceSettings} (hd : DeviceOk d) :
    SetOk { c with device := d } := ⟨h.transformers, hd, h.taps, h.maps⟩

theorem SetOk.withMap {c : SettingsSet} (h : SetOk c) (k : Fin 4) {m : ContactMap} (hm : m.minLevel ≠ .normal) :
    SetOk { c with maps := c.maps.set k m } := by
  refine ⟨h.transformers, h.device, h.taps, fun j => ?_⟩
  rw [get_set]
  split
  · exact hm
  · exact h.maps j

theorem SetOk.withTransformer {c : SettingsSet} (h : SetOk c) (i : Fin 16) {x : Settings} (hx : SettingsOk x) :
    SetOk { c with transformers := c.transformers.set i x } := by
  refine ⟨fun j => ?_, h.device, h.taps, h.maps⟩
  rw [get_set]
  split
  · exact hx
  · exact h.transformers j

/-- The taps of a body with 1 to 64 of them are in their ranges (R68). -/
theorem SetOk.withTaps {c : SettingsSet} (h : SetOk c) (b : List Byte) {n : Nat} (hn : n ≠ 0) (hn' : n ≤ 64) :
    SetOk { c with taps := tapsOf b n } := by
  refine ⟨h.transformers, h.device, ⟨by simp [tapsOf]; omega, by simp [tapsOf]; omega, fun k hk => ?_⟩, h.maps⟩
  obtain ⟨j, -, rfl⟩ := List.mem_map.mp hk
  exact s16_mem b _

/-- The law of the settings where the settings in use change and the store does not. -/
theorem SettingsLaw.withCfg {s t : State} (h : SettingsLaw s) (hc : SetOk t.cfg) (hs : t.store = s.store) :
    SettingsLaw t := ⟨hc, by rw [hs]; exact h.image, by rw [hs]; exact h.copy⟩

end Sys2Proof.Machine
end

section
/-! SUPPORT. Of which moves the commands are made: the request handlers, and then every command. -/

namespace Sys2Proof.Machine

/-! ### Requests -/

/-- A request row is made of moves where its handler is. -/
theorem commandMoves_serveRequest (k : Byte) {f : Request → State → State}
    (hf : ∀ r u, CommandMoves u (f r u)) (s : State) : CommandMoves s (s.serveRequest k f) := by
  rcases serveRequest_cases k f s with h | ⟨r, -, h | ⟨-, h⟩⟩
  · rw [h]; exact (Quiet.refl s).commandMoves
  · rw [h]; exact Quiet.commandMoves (by simp)
  · rw [h]; exact (hf r _).afterQuiet (by simp)

/-- A request row is quiet where its handler is. -/
theorem quiet_serveRequest (k : Byte) {f : Request → State → State} (hf : ∀ r u, Quiet u (f r u)) (s : State) :
    CommandMoves s (s.serveRequest k f) :=
  commandMoves_serveRequest k (fun r u => (hf r u).commandMoves) s

theorem quiet_withTransformer {s : State} (n : Nat) (r : Request) (f : Fin 16 → State → State)
    (hf : ∀ i, Quiet s (f i s)) : Quiet s (s.withTransformer n r f) := by
  simp only [State.withTransformer]
  split
  · simp
  · exact hf _

/-! #### Requests that are quiet -/

section
variable (r : Request) (s : State)

theorem quiet_handleSetClock : Quiet s (handleSetClock r s) := by
  simp only [handleSetClock]
  split <;> simp

theorem quiet_handleReadSettings : Quiet s (handleReadSettings r s) := quiet_withTransformer _ _ _ fun _ => by simp

theorem quiet_handleReadLive : Quiet s (handleReadLive r s) := quiet_withTransformer _ _ _ fun _ => by simp

theorem quiet_handleSnapshot : Quiet s (handleSnapshot r s) :=
  (quiet_answer _ _ _).mpr (.of_eq rfl rfl rfl rfl rfl rfl)

theorem quiet_handleReadSnapshot : Quiet s (handleReadSnapshot r s) := by
  simp only [handleReadSnapshot]
  split
  · simp
  · exact quiet_withTransformer _ _ _ fun _ => by simp

theorem quiet_handleReadField : Quiet s (handleReadField r s) := by
  simp only [handleReadField]
  split <;> simp

theorem quiet_handleReadMap : Quiet s (handleReadMap r s) := by
  simp only [handleReadMap]
  split <;> simp

theorem quiet_handleFetchSummary : Quiet s (handleFetchSummary r s) := by simp [handleFetchSummary]

theorem quiet_handleFetchTransitions : Quiet s (handleFetchTransitions r s) := by
  simp only [handleFetchTransitions]
  split <;> simp

theorem quiet_handleReadEpisode : Quiet s (handleReadEpisode r s) := by
  simp only [handleReadEpisode]
  split <;> simp

theorem quiet_handleReadEntry : Quiet s (handleReadEntry r s) := by
  simp only [handleReadEntry]
  split <;> simp

theorem quiet_captureNow (ch : Fin 16) : Quiet s (s.captureNow ch r) := by
  simp only [State.captureNow]
  (repeat' split) <;> simp

theorem quiet_handleCaptureNow : Quiet s (handleCaptureNow r s) :=
  quiet_withTransformer _ _ _ fun ch => by
    split
    · simp
    · exact quiet_captureNow r s ch

theorem quiet_handleExtendCapture : Quiet s (handleExtendCapture r s) := by
  simp only [handleExtendCapture]
  (repeat' split) <;> simp

theorem quiet_handleListCaptures : Quiet s (handleListCaptures r s) := by
  simp only [handleListCaptures]
  (repeat' split) <;> simp

theorem quiet_handleReadSamples : Quiet s (handleReadSamples r s) := by
  simp only [handleReadSamples]
  split <;> simp

theorem quiet_handleRelease : Quiet s (handleRelease r s) := by
  simp only [handleRelease]
  (repeat' split) <;> simp

theorem quiet_handleReadIntake : Quiet s (handleReadIntake r s) :=
  (quiet_answer _ _ _).mpr (.of_eq rfl rfl rfl rfl rfl rfl)

theorem quiet_handleClearFault : Quiet s (handleClearFault r s) := by
  simp only [handleClearFault]
  (repeat' split) <;> simp

theorem quiet_serveUnknown : Quiet s s.serveUnknown := by
  simp only [State.serveUnknown]
  (repeat' split) <;> simp

theorem quiet_serveRestart : Quiet s s.serveRestart := by
  simp only [State.serveRestart]
  (repeat' split) <;> simp

/-! #### Requests that change settings, the store, flags or the tracker -/

theorem commandMoves_handleWriteDevice (now : Nat) : CommandMoves s (handleWriteDevice now r s) := by
  simp only [handleWriteDevice]
  split
  · exact Quiet.commandMoves (by simp)
  · have stored : TableMove s (s.setDevice (deviceOf r.body s.cfg.device.noticeMask)) :=
      .configured ⟨rfl, rfl, rfl, fun _ => .refl _⟩ rfl fun h => h.withCfg (h.inUse.withDevice (deviceOf_ok _ _)) rfl
    exact stored.commandMoves.beforeQuiet (by simp)

theorem commandMoves_handleWriteSettings : CommandMoves s (handleWriteSettings r s) := by
  simp only [handleWriteSettings, State.withTransformer, State.writeSettings]
  repeat' split
  · exact Quiet.commandMoves (by simp)
  · exact Quiet.commandMoves (by simp)
  · exact Quiet.commandMoves (by simp)
  · rename_i i _ _ ok
    exact (TableMove.settings i (settingsOf_ok ok) s).commandMoves.beforeQuiet (by simp)

theorem commandMoves_handleAcknowledge : CommandMoves s (handleAcknowledge r s) :=
  (tableMove_acknowledgeTransformers (BitVec.ofNat 16 (u16 r.body 0)) s).commandMoves.beforeQuiet
    (by simp [handleAcknowledge, quiet_whenChanged])

theorem commandMoves_handleSuppress : CommandMoves s (handleSuppress r s) := by
  simp only [handleSuppress]
  split
  · exact Quiet.commandMoves (by simp)
  · have flags := tableMove_suppressTransformers (BitVec.ofNat 16 (u16 r.body 0)) (u8 r.body 2 != 1) s
    exact flags.commandMoves.beforeQuiet (by simp)

theorem commandMoves_handleLoadResponse : CommandMoves s (handleLoadResponse r s) := by
  simp only [handleLoadResponse]
  repeat' split
  · exact Quiet.commandMoves (by simp)
  · exact Quiet.commandMoves (by simp)
  · rename_i bounds
    obtain ⟨-, hn, hn', -⟩ := not_or.mp bounds |>.imp id fun h => not_or.mp h |>.imp id not_or.mp
    have stored : TableMove s { s with cfg := { s.cfg with taps := tapsOf r.body (u8 r.body 0) } } :=
      .configured ⟨rfl, rfl, rfl, fun _ => .refl _⟩ rfl fun h =>
        h.withCfg (h.inUse.withTaps _ hn (Nat.not_lt.mp hn')) rfl
    exact stored.commandMoves.beforeQuiet (by simp)

theorem commandMoves_handleWriteMap : CommandMoves s (handleWriteMap r s) := by
  simp only [handleWriteMap]
  repeat' split
  · exact Quiet.commandMoves (by simp)
  · exact Quiet.commandMoves (by simp)
  · rename_i k _
    have hcfg : (s.mapWritten k (mapOf (r.body.drop 1))).cfg =
        { s.cfg with maps := s.cfg.maps.set k (mapOf (r.body.drop 1)) } := by simp [State.mapWritten]
    have stored : TableMove s (s.mapWritten k (mapOf (r.body.drop 1))) :=
      .configured ⟨by simp, by simp, rfl, fun _ => by simp⟩ (by rw [hcfg]) fun h =>
        h.withCfg (by rw [hcfg]; exact h.inUse.withMap k (mapOf_minLevel _)) (by simp)
    exact stored.commandMoves.beforeQuiet (by simp)

theorem commandMoves_handleChangeMask : CommandMoves s (handleChangeMask r s) := by
  simp only [handleChangeMask]
  split
  · exact Quiet.commandMoves (by simp)
  · have stored (m : CategorySet) : TableMove s (s.setDevice { s.cfg.device with noticeMask := m }) :=
      .configured ⟨rfl, rfl, rfl, fun _ => .refl _⟩ rfl fun h =>
        h.withCfg (h.inUse.withDevice (h.inUse.device.withMask m)) rfl
    exact (stored (maskAfter (u8 r.body 0) (BitVec.ofNat 6 (u8 r.body 1)) s.cfg.device.noticeMask)).commandMoves.beforeQuiet (by simp)

theorem commandMoves_handleCloseEpisode : CommandMoves s (handleCloseEpisode r s) := by
  simp only [handleCloseEpisode]
  split
  · exact Quiet.commandMoves (by simp)
  · rename_i isOpen
    exact (TrackerMove.close isOpen).commandMoves.beforeQuiet (by simp)

theorem commandMoves_handleSave : CommandMoves s (handleSave r s) := by
  simp only [handleSave]
  split
  · exact Quiet.commandMoves (by simp)
  · have begun : TableMove s { s with store := { s.store with save := some s.cfg } } :=
      .configured ⟨rfl, rfl, rfl, fun _ => .refl _⟩ rfl fun h => ⟨h.inUse, h.image, fun c hc => by cases hc; exact h.inUse⟩
    exact begun.commandMoves.beforeQuiet (by simp)

theorem commandMoves_saveEnds (agrees : Bool) : CommandMoves s (s.saveEnds agrees) := by
  simp only [State.saveEnds]
  repeat' split
  · exact Quiet.commandMoves (by simp)
  · rename_i copy saving _
    have ended : TableMove s { s with store := ⟨copy, true, none⟩ } :=
      .configured ⟨rfl, rfl, rfl, fun _ => .refl _⟩ rfl fun h =>
        ⟨h.inUse, fun _ => h.copy copy saving, fun c hc => by cases hc⟩
    exact ended.commandMoves.beforeQuiet (by simp)
  · have ended : TableMove s { s with store := { s.store with valid := false, save := none } } :=
      .configured ⟨rfl, rfl, rfl, fun _ => .refl _⟩ rfl fun h =>
        ⟨h.inUse, by rintro ⟨⟩, by rintro _ ⟨⟩⟩
    exact ended.commandMoves.beforeQuiet (by simp)

end

/-! ### Events that wait -/

section
variable (t : Fin 16) {s u : State}

theorem commandMoves_execMeasuredSecond (h : execMeasuredSecond t s = .next u) : CommandMoves s u := by
  simp only [execMeasuredSecond] at h
  split at h <;> cases h
  · exact (Quiet.refl s).commandMoves
  · exact (TableMove.second _ _).commandMoves.afterQuiet ((quiet_setHandOffs (by rfl)).mpr (.refl s))

theorem commandMoves_execStandInSecond (h : execStandInSecond t s = .next u) : CommandMoves s u := by
  simp only [execStandInSecond] at h
  split at h <;> cases h
  · exact (commandMoves_settleClock _).after (tableMoves_takeRecordTick t s)
  · exact (Quiet.refl s).commandMoves

theorem commandMoves_execEpisodeHandoff (h : execEpisodeHandoff t s = .next u) : CommandMoves s u := by
  simp only [execEpisodeHandoff] at h
  split at h <;> cases h
  · exact (Quiet.refl s).commandMoves
  · rename_i taken
    exact (TrackerMove.handOff taken).commandMoves

theorem commandMoves_execEnergised (h : execEnergised t s = .next u) : CommandMoves s u := by
  simp only [execEnergised] at h
  split at h
  · cases h; exact (Quiet.refl s).commandMoves
  · split at h <;> cases h
    · exact (TableMove.energise t _).commandMoves.afterQuiet ((quiet_setHandOffs (by rfl)).mpr (.refl s))
    · exact (Quiet.refl s).commandMoves

theorem commandMoves_execDeenergised (h : execDeenergised t s = .next u) : CommandMoves s u := by
  simp only [execDeenergised] at h
  split at h
  · cases h; exact (Quiet.refl s).commandMoves
  · split at h <;> cases h
    · exact (Quiet.refl s).commandMoves
    · exact (TableMove.deenergise t _).commandMoves.afterQuiet ((quiet_setHandOffs (by rfl)).mpr (.refl s))

theorem commandMoves_execPanelRelease (h : execPanelRelease s = .next u) : CommandMoves s u := by
  simp only [execPanelRelease] at h
  split at h <;> cases h
  · exact (commandMoves_panelReleased _).afterQuiet ((quiet_setHandOffs (by rfl)).mpr (.refl s))
  · exact (Quiet.refl s).commandMoves

theorem quiet_execPanelPress (h : execPanelPress s = .next u) : Quiet s u := by
  simp only [execPanelPress] at h
  split at h <;> cases h
  · exact (quiet_panelPressed).mpr ((quiet_setHandOffs (by rfl)).mpr (.refl s))
  · exact .refl s

theorem quiet_execContactReport (h : execContactReport s = .next u) : Quiet s u := by
  simp only [execContactReport] at h
  split at h <;> cases h
  · exact .refl s
  · exact (quiet_judgeContacts).mpr ((quiet_setHandOffs (by rfl)).mpr (.refl s))

theorem quiet_execLevelTrigger (h : execLevelTrigger t s = .next u) : Quiet s u := by
  simp only [execLevelTrigger] at h
  split at h <;> cases h
  · exact .refl s
  · exact (quiet_levelTriggered _).mpr ((quiet_setHandOffs (by rfl)).mpr (.refl s))

theorem quiet_execCaptureDisableReport (h : execCaptureDisableReport t s = .next u) : Quiet s u := by
  simp only [execCaptureDisableReport] at h
  split at h <;> cases h
  · exact .refl s
  · exact (quiet_captureDisabled _).mpr ((quiet_setHandOffs (by rfl)).mpr (.refl s))

theorem quiet_execCaptureMissed (h : execCaptureMissed t s = .next u) : Quiet s u := by
  simp only [execCaptureMissed] at h
  split at h <;> cases h
  · exact .refl s
  · simp

theorem quiet_execTenthAdvance (h : execTenthAdvance s = .next u) : Quiet s u := by
  cases h
  (repeat' split) <;> simp

theorem commandMoves_execRestartReset (rateHigh : Bool) (h : execRestartReset rateHigh s = .next u) :
    CommandMoves s u := by
  cases h
  split
  · exact (TrackerMove.startUp _ _ s).commandMoves
  · exact (Quiet.refl s).commandMoves

theorem commandMoves_execClockSecond (h : execClockSecond s = .next u) : CommandMoves s u := by
  cases h
  split
  · exact (Quiet.refl s).commandMoves
  · exact commandMoves_oscillatorSecond s

theorem commandMoves_execFieldNone (h : execFieldNone s = .next u) : CommandMoves s u := by
  cases h
  split
  · exact (commandMoves_settleClock _).afterQuiet (by simp)
  · exact (Quiet.refl s).commandMoves

end

/-! ### Every command -/

/-- Every command is a chain of moves of the table and the settings, with at most one move of the tracker among them. -/
theorem exec_commandMoves {c : Instr} {s t : State} (h : exec c s = .next t) : CommandMoves s t := by
  cases c with
  | powerOnReset rateHigh => cases h; exact (TrackerMove.startUp _ _ s).commandMoves
  | pinReset rateHigh => cases h; exact (TrackerMove.startUp _ _ s).commandMoves
  | restartReset rateHigh => exact commandMoves_execRestartReset rateHigh h
  | sampleFrame bytes => cases h; exact Quiet.commandMoves (by simp)
  | sampleLineIdle bytes => cases h; exact Quiet.commandMoves (by simp)
  | takeCurrentFrame => cases h; exact Quiet.commandMoves (by simp)
  | takeFieldFrame => cases h; exact Quiet.commandMoves (by simp)
  | measuredSecond i => exact commandMoves_execMeasuredSecond i h
  | clockSecond => exact commandMoves_execClockSecond h
  | standInSecond i => exact commandMoves_execStandInSecond i h
  | fieldNone => exact commandMoves_execFieldNone h
  | episodeQuietClose => cases h; exact (TrackerMove.tick s).commandMoves
  | episodeHandoff i => exact commandMoves_execEpisodeHandoff i h
  | captureMissed ch => exact (quiet_execCaptureMissed ch h).commandMoves
  | linkSilent => cases h; exact Quiet.commandMoves (by simp)
  | silenceTimerExpiry c => cases h; exact Quiet.commandMoves (by simp)
  | ppsEdge now => cases h; exact commandMoves_ppsEdgeAt now s
  | ppsLost => cases h; exact commandMoves_ppsFails s
  | inputLevelChange pin level now => cases h; exact Quiet.commandMoves (.of_eq rfl rfl rfl rfl rfl rfl)
  | debounceComplete pin => cases h; exact Quiet.commandMoves (by simp)
  | energised i => exact commandMoves_execEnergised i h
  | deenergised i => exact commandMoves_execDeenergised i h
  | panelPress => exact (quiet_execPanelPress h).commandMoves
  | panelRelease => exact commandMoves_execPanelRelease h
  | panelTestStart => cases h; exact Quiet.commandMoves (by split <;> simp)
  | panelTestTimeout => cases h; exact Quiet.commandMoves (by split <;> simp)
  | contactReport => exact (quiet_execContactReport h).commandMoves
  | levelTrigger ch => exact (quiet_execLevelTrigger ch h).commandMoves
  | captureDisableReport ch => exact (quiet_execCaptureDisableReport ch h).commandMoves
  | requestFrame bytes => cases h; exact Quiet.commandMoves (by simp)
  | hostFrameGap bytes => cases h; exact Quiet.commandMoves (by simp)
  | unknownKindRequest => cases h; exact (quiet_serveUnknown s).commandMoves
  | identify => cases h; exact quiet_serveRequest _ (fun r u => by simp [handleIdentify]) s
  | readClock => cases h; exact quiet_serveRequest _ (fun r u => by simp [handleReadClock]) s
  | setClock => cases h; exact quiet_serveRequest _ quiet_handleSetClock s
  | readDeviceSettings => cases h; exact quiet_serveRequest _ (fun r u => by simp [handleReadDevice]) s
  | writeDeviceSettings now => cases h; exact commandMoves_serveRequest _ (commandMoves_handleWriteDevice · · now) s
  | readTransformerSettings => cases h; exact quiet_serveRequest _ quiet_handleReadSettings s
  | writeTransformerSettings => cases h; exact commandMoves_serveRequest _ commandMoves_handleWriteSettings s
  | readLive => cases h; exact quiet_serveRequest _ quiet_handleReadLive s
  | snapshot => cases h; exact quiet_serveRequest _ quiet_handleSnapshot s
  | readSnapshot => cases h; exact quiet_serveRequest _ quiet_handleReadSnapshot s
  | acknowledge => cases h; exact commandMoves_serveRequest _ commandMoves_handleAcknowledge s
  | suppress => cases h; exact commandMoves_serveRequest _ commandMoves_handleSuppress s
  | loadGroundResponse => cases h; exact commandMoves_serveRequest _ commandMoves_handleLoadResponse s
  | readGroundResponse => cases h; exact quiet_serveRequest _ (fun r u => by simp [handleReadResponse]) s
  | readField => cases h; exact quiet_serveRequest _ quiet_handleReadField s
  | readContactMap => cases h; exact quiet_serveRequest _ quiet_handleReadMap s
  | writeContactMap => cases h; exact commandMoves_serveRequest _ commandMoves_handleWriteMap s
  | fetchSummary => cases h; exact quiet_serveRequest _ quiet_handleFetchSummary s
  | changeNoticeMask => cases h; exact commandMoves_serveRequest _ commandMoves_handleChangeMask s
  | fetchTransitions => cases h; exact quiet_serveRequest _ quiet_handleFetchTransitions s
  | readEpisode => cases h; exact quiet_serveRequest _ quiet_handleReadEpisode s
  | readEpisodeEntry => cases h; exact quiet_serveRequest _ quiet_handleReadEntry s
  | closeEpisode => cases h; exact commandMoves_serveRequest _ commandMoves_handleCloseEpisode s
  | captureNow => cases h; exact quiet_serveRequest _ quiet_handleCaptureNow s
  | extendCapture => cases h; exact quiet_serveRequest _ quiet_handleExtendCapture s
  | listCaptures => cases h; exact quiet_serveRequest _ quiet_handleListCaptures s
  | readCaptureSamples => cases h; exact quiet_serveRequest _ quiet_handleReadSamples s
  | releaseCapture => cases h; exact quiet_serveRequest _ quiet_handleRelease s
  | readIntakeStatus => cases h; exact quiet_serveRequest _ quiet_handleReadIntake s
  | clearConverterFault => cases h; exact quiet_serveRequest _ quiet_handleClearFault s
  | saveSettings => cases h; exact commandMoves_serveRequest _ commandMoves_handleSave s
  | saveCompletion agrees => cases h; exact commandMoves_saveEnds s agrees
  | restart => cases h; exact (quiet_serveRestart s).commandMoves
  | tenthAdvance => exact (quiet_execTenthAdvance h).commandMoves
  | replySent => cases h; exact Quiet.commandMoves (by simp)
  | sampleDamagedByte bytes => cases h; exact Quiet.commandMoves (by simp)
  | sampleFrameDiscard bytes => cases h; exact Quiet.commandMoves (by simp)
  | hostDamagedByte bytes => cases h; exact Quiet.commandMoves (by simp)
  | hostFrameDiscard bytes => cases h; exact Quiet.commandMoves (by simp)

/-- A step is a command's moves: it takes the front command off the queue, which no move reads. -/
theorem step_commandMoves {s t : State} (h : step s = .next t) : CommandMoves s t := by
  simp only [step] at h
  split at h
  · cases h; exact (Quiet.refl s).commandMoves
  · exact (exec_commandMoves h).afterQuiet (.of_eq rfl rfl rfl rfl rfl rfl)

end Sys2Proof.Machine
end

section
/-! SUPPORT. What the moves of the table do to the settings and to the live parts, and the law of the thermal rise (R92). -/

namespace Sys2Proof.Machine

/-! ### The law of the settings -/

theorem defaultSettings_ok : SettingsOk defaultSettings := by constructor <;> decide +kernel

theorem defaultSet_ok : SetOk defaultSet where
  transformers i := by
    have : defaultSet.transformers[i] = defaultSettings := by simp [defaultSet]
    rw [this]
    exact defaultSettings_ok
  device := by constructor <;> decide
  taps := by decide
  maps k := by
    have : defaultSet.maps[k] = defaultMap := by simp [defaultSet]
    rw [this]
    decide

/-- A start-up loads settings in their ranges (R181). -/
theorem SettingsLaw.loaded {s : State} (h : SettingsLaw s) : SetOk s.store.loaded := by
  simp only [Store.loaded]
  split
  · rename_i valid
    simp only [Store.validAtReset, Bool.and_eq_true] at valid
    exact h.image valid.1
  · exact defaultSet_ok

theorem SettingsLaw.startUp {s : State} (h : SettingsLaw s) (cause : ResetCause) (rateHigh : Bool) :
    SettingsLaw (s.startUp cause rateHigh) := by
  refine ⟨h.loaded, fun valid => ?_, by rintro _ ⟨⟩⟩
  have : s.store.validAtReset = true := valid
  simp only [Store.validAtReset, Bool.and_eq_true] at this
  exact h.image this.1

theorem SettingsLaw.same {s t : State} (h : SettingsLaw s) (hc : t.cfg = s.cfg) (hs : t.store = s.store) :
    SettingsLaw t := h.withCfg (by rw [hc]; exact h.inUse) hs

theorem TableMove.settingsLaw {s t : State} (m : TableMove s t) (h : SettingsLaw s) : SettingsLaw t := by
  cases m with
  | quiet q => exact h.same q.cfg q.store
  | second g => exact h.same (by simp) (by simp)
  | clock i stamp => exact h.same (by simp) (by simp)
  | energise i => exact h.same (by simp) (by simp)
  | deenergise i => exact h.same (by simp) (by simp)
  | flags _ rest => exact h.same rest.cfg rest.store
  | settings i ok => exact h.withCfg (by simpa using h.inUse.withTransformer i ok) (by simp)
  | configured _ _ law => exact law h

theorem TrackerMove.settingsLaw {s t : State} (m : TrackerMove s t) (h : SettingsLaw s) : SettingsLaw t := by
  cases m with
  | startUp cause rateHigh => exact h.startUp cause rateHigh
  | clock stamp => exact h.same (by simp) (by simp)
  | tick => exact h.same (by simp) (by simp)
  | settle => exact h.same (by simp) (by simp)
  | handOff taken => exact h.same (by simp) (by simp)
  | close isOpen => exact h.same (by simp) (by simp)

/-- But for a reset, no move of the tracker touches the table, the settings or the store. -/
theorem TrackerMove.frame {s t : State} (m : TrackerMove s t) : (∃ cause rateHigh, t = s.startUp cause rateHigh) ∨
    t.live = s.live ∧ t.channels = s.channels ∧ t.cfg = s.cfg ∧ t.store = s.store := by
  cases m with
  | startUp cause rateHigh => exact .inl ⟨_, _, rfl⟩
  | _ => exact .inr (by simp)

/-- A law that every move keeps is kept by every step. -/
theorem step_keeps {P : State → Prop} (table : ∀ {s t}, TableMove s t → P s → P t)
    (tracker : ∀ {s t}, TrackerMove s t → P s → P t) {s t : State} (h : step s = .next t) (hs : P s) : P t := by
  have chain : ∀ {a b}, TableMoves a b → P a → P b := fun moves ha => by
    induction moves with
    | refl => exact ha
    | tail _ m ih => exact table m ih
  cases step_commandMoves h with
  | table m => exact chain m hs
  | tracker b m a => exact chain a (tracker m (chain b hs))

/-! ### The live part an evaluation leaves -/

/-- The three stages of an evaluation, one after another (R16). -/
def evaluated (cfg : Settings) (v : FieldView) (ev : Option SecondHandOff) (l : Live) : Live :=
  levelEvaluation cfg (heatingUpdate cfg (basisSelection cfg v ev l))

theorem State.evaluate_live (i : Fin 16) (ev : Option SecondHandOff) (stamp : Stamp) (s : State) :
    (s.evaluate i ev stamp).live = s.live.set i (evaluated s.cfg.transformers[i] s.fieldView ev s.live[i]) := by
  simp only [State.evaluate]
  split <;> simp [evaluated]

/-- What stage 1 leaves as it was; it settles P, X, DOUBT, LOST and the runs (R83). -/
@[simp] theorem basisSelection_frame (cfg : Settings) (v : FieldView) (ev : Option SecondHandOff) (l : Live) :
    (basisSelection cfg v ev l).service = l.service ∧ (basisSelection cfg v ev l).level = l.level
      ∧ (basisSelection cfg v ev l).measured = l.measured ∧ (basisSelection cfg v ev l).offsetEff = l.offsetEff
      ∧ (basisSelection cfg v ev l).offsetFault = l.offsetFault ∧ (basisSelection cfg v ev l).age = l.age
      ∧ (basisSelection cfg v ev l).heat = l.heat ∧ (basisSelection cfg v ev l).steady = l.steady
      ∧ (basisSelection cfg v ev l).riseAge = l.riseAge ∧ (basisSelection cfg v ev l).calmAge = l.calmAge
      ∧ (basisSelection cfg v ev l).unacknowledged = l.unacknowledged
      ∧ (basisSelection cfg v ev l).reminderCount = l.reminderCount
      ∧ (basisSelection cfg v ev l).suppressed = l.suppressed := by
  and_intros <;> (simp only [basisSelection, updateDoubt]; (repeat' split) <;> rfl)

/-- What stage 2 leaves as it was; it settles S and T (R93). -/
@[simp] theorem heatingUpdate_frame (cfg : Settings) (l : Live) :
    (heatingUpdate cfg l).service = l.service ∧ (heatingUpdate cfg l).level = l.level
      ∧ (heatingUpdate cfg l).measured = l.measured ∧ (heatingUpdate cfg l).offsetEff = l.offsetEff
      ∧ (heatingUpdate cfg l).offsetFault = l.offsetFault ∧ (heatingUpdate cfg l).age = l.age
      ∧ (heatingUpdate cfg l).predicted = l.predicted ∧ (heatingUpdate cfg l).basis = l.basis
      ∧ (heatingUpdate cfg l).doubt = l.doubt ∧ (heatingUpdate cfg l).outsideRun = l.outsideRun
      ∧ (heatingUpdate cfg l).insideRun = l.insideRun ∧ (heatingUpdate cfg l).lost = l.lost
      ∧ (heatingUpdate cfg l).riseAge = l.riseAge ∧ (heatingUpdate cfg l).calmAge = l.calmAge
      ∧ (heatingUpdate cfg l).unacknowledged = l.unacknowledged
      ∧ (heatingUpdate cfg l).reminderCount = l.reminderCount
      ∧ (heatingUpdate cfg l).suppressed = l.suppressed := by
  simp [heatingUpdate]

/-- What stage 3 leaves as it was; it settles the level, the two ages, unacknowledged and the reminder count (R104 to
R115). -/
@[simp] theorem levelEvaluation_frame (cfg : Settings) (l : Live) :
    (levelEvaluation cfg l).service = l.service ∧ (levelEvaluation cfg l).measured = l.measured
      ∧ (levelEvaluation cfg l).offsetEff = l.offsetEff ∧ (levelEvaluation cfg l).offsetFault = l.offsetFault
      ∧ (levelEvaluation cfg l).age = l.age ∧ (levelEvaluation cfg l).predicted = l.predicted
      ∧ (levelEvaluation cfg l).basis = l.basis ∧ (levelEvaluation cfg l).doubt = l.doubt
      ∧ (levelEvaluation cfg l).outsideRun = l.outsideRun ∧ (levelEvaluation cfg l).insideRun = l.insideRun
      ∧ (levelEvaluation cfg l).lost = l.lost ∧ (levelEvaluation cfg l).heat = l.heat
      ∧ (levelEvaluation cfg l).steady = l.steady ∧ (levelEvaluation cfg l).suppressed = l.suppressed := by
  and_intros <;>
    (simp only [levelEvaluation, levelBranch, riseBranch, calmBranch]; (repeat' split) <;> rfl)

@[simp] theorem evaluated_service (cfg : Settings) (v : FieldView) (ev : Option SecondHandOff) (l : Live) :
    (evaluated cfg v ev l).service = l.service := by simp [evaluated]

/-! ### Heating -/

/-- A rounded quotient is no larger than the dividend. -/
theorem roundedQuotient_le (n d : Nat) : (2 * n + d) / (2 * d) ≤ n := by
  rcases Nat.eq_zero_or_pos d with rfl | hd
  · simp
  · refine Nat.lt_succ_iff.mp ((Nat.div_lt_iff_lt_mul (by omega)).mpr ?_)
    nlinarith

/-- A heating step does not pass its steady value, and points towards it (R92). -/
theorem heatStep_between (d : Int) (tau : Nat) : min d 0 ≤ heatStep d tau ∧ heatStep d tau ≤ max d 0 := by
  have hq := roundedQuotient_le d.natAbs tau
  generalize hg : (2 * d.natAbs + tau) / (2 * tau) = q at hq
  have hr : roundDiv d tau = d.sign * (q : Int) := by simp only [roundDiv, hg]
  rcases lt_trichotomy d 0 with hd | rfl | hd
  · have := Int.sign_eq_neg_one_of_neg hd
    simp only [heatStep, hr, this]
    split <;> omega
  · simp [heatStep, roundDiv]
  · have := Int.sign_eq_one_of_pos hd
    simp only [heatStep, hr, this]
    split <;> omega

/-- One step of T lies between T and the steady value it heads for (R92). -/
theorem heatTowards_between (cfg : Settings) (heat steady : Nat) :
    min heat steady ≤ heatTowards cfg heat steady ∧ heatTowards cfg heat steady ≤ max heat steady := by
  have h := heatStep_between ((steady : Int) - heat) (if 0 < (steady : Int) - heat then cfg.tauHeat else cfg.tauCool)
  simp only [heatTowards]
  omega

/-- A point of the steady-rise curve is no higher than the highest of its points (R90). -/
theorem steadyFrom_le {M : Nat} (X : Nat) (points : List Breakpoint) (hp : ∀ b ∈ points, b.r ≤ M) (x : Nat) {r : Nat}
    (hr : r ≤ M) : steadyFrom x r X points ≤ M := by
  induction points generalizing x r with
  | nil => exact hr
  | cons b rest ih =>
    have hb := hp b (by simp)
    simp only [steadyFrom]
    split
    · have hq : roundDivNat ((X - x) * (b.r - r)) (b.x - x) ≤ b.r - r := by
        have hm : (X - x) * (b.r - r) ≤ (b.x - x) * (b.r - r) := Nat.mul_le_mul_right _ (by omega)
        unfold roundDivNat
        rcases Nat.eq_zero_or_pos (b.x - x) with h0 | hpos
        · simp [h0]
        · refine Nat.lt_succ_iff.mp ((Nat.div_lt_iff_lt_mul (by omega)).mpr ?_)
          nlinarith
      omega
    · exact ih (fun c hc => hp c (List.mem_cons_of_mem _ hc)) b.x hb

theorem steadyValue_le {c : Settings} (h : SettingsOk c) (X : Nat) : steadyValue c.breakpoints X ≤ 20000 := by
  refine steadyFrom_le X _ (fun b hb => ?_) 0 (Nat.zero_le _)
  obtain ⟨k, hk, rfl⟩ := List.getElem_of_mem hb
  exact (h.points ⟨k, by simpa using hk⟩).2.2

/-- T and S of a live part within 0 to 20000 (R92). -/
structure Warm (l : Live) : Prop where
  heat : l.heat ≤ 20000
  steady : l.steady ≤ 20000

/-- Live parts with the same T and S. -/
theorem Warm.of_eq {l m : Live} (h : Warm l) (hh : m.heat = l.heat) (hs : m.steady = l.steady) : Warm m :=
  ⟨hh.trans_le h.heat, hs.trans_le h.steady⟩

theorem Warm.evaluated {cfg : Settings} (hc : SettingsOk cfg) {l : Live} (h : Warm l) (v : FieldView)
    (ev : Option SecondHandOff) : Warm (evaluated cfg v ev l) := by
  have hs : steadyOf cfg (basisSelection cfg v ev l) ≤ 20000 := by
    simp only [steadyOf]
    split
    · exact steadyValue_le hc _
    · simpa using h.steady
  have ht := (heatTowards_between cfg l.heat (steadyOf cfg (basisSelection cfg v ev l))).2
  have hl := h.heat
  exact ⟨by simp [Machine.evaluated, heatingUpdate]; omega, by simpa [Machine.evaluated, heatingUpdate] using hs⟩

theorem Warm.cooled {l : Live} (h : Warm l) (cfg : Settings) : Warm (coolingUpdate cfg l) := by
  have := (heatTowards_between cfg l.heat 0).2
  have := h.heat
  exact ⟨by simp [coolingUpdate]; omega, by simp [coolingUpdate]⟩

end Sys2Proof.Machine
end

section
/-! SUPPORT. What the moves of the table do to one live part and one channel. Then the law of the thermal rise (R92). -/

namespace Sys2Proof.Machine

/-! ### A record's second -/

/-- The live part of a record after a clock second (R15, R17, R82). -/
def secondPassed (cfg : Settings) (v : FieldView) (l : Live) : Live :=
  match l.service with
  | .off => l
  | .outOfService => coolingUpdate cfg l
  | .inService =>
    if l.standsIn then evaluated cfg v none { l with age := satSucc 65535 l.age }
    else { l with age := satSucc 65535 l.age }

/-- What stage 1 reads of the field meets no live part. -/
@[simp] theorem State.fieldView_setLive (i : Fin 16) (l : Live) (s : State) : (s.setLive i l).fieldView = s.fieldView := rfl

theorem State.recordSecond_live (i : Fin 16) (stamp : Stamp) (s : State) :
    (s.recordSecond i stamp).live = s.live.set i (secondPassed s.cfg.transformers[i] s.fieldView s.live[i]) := by
  cases h : s.live[i].service with
  | off => simp [State.recordSecond, secondPassed, h, -Fin.getElem_fin]
  | outOfService => simp [State.recordSecond, secondPassed, h, -Fin.getElem_fin]
  | inService =>
    simp only [State.recordSecond, secondPassed, h]
    split <;> simp [State.evaluate_live, -Fin.getElem_fin]

/-- What offset learning does with a second offered to it (R49 to R52): nothing, where it may not gather; else another
accumulation, still short of a whole attempt, and O_eff as it was or as learned within its limits. -/
theorem State.offerLearning_cases (h : SecondHandOff) (s : State) :
    let u := s.offerLearning h
    (u.live = s.live ∧ u.channels = s.channels) ∨
    (s.cfg.transformers[h.channel].learning = true ∧ 60 ≤ s.channels[h.channel].deenergisedTime ∧
      ∃ x : Learning, x.seconds ≤ 29 ∧
        u.channels = s.channels.set h.channel { s.channels[h.channel] with learning := x } ∧
        ∃ (o : Int) (f : Bool),
          u.live = s.live.set h.channel { s.live[h.channel] with offsetEff := o, offsetFault := f } ∧
          (o = s.live[h.channel].offsetEff ∨
            (o - s.cfg.transformers[h.channel].offsetSet).natAbs ≤ 256 ∧ o.natAbs ≤ 2047)) := by
  have clamped (l : Learning) : l.offset.natAbs ≤ 2047 := by
    have := clampInt_mem (lo := -2047) (hi := 2047) (n := roundDiv l.sum l.codes) (by decide)
    simp only [Learning.offset]
    omega
  simp only [State.offerLearning]
  split
  · rename_i gathers
    simp only [Bool.and_eq_true, decide_eq_true_eq] at gathers
    refine .inr ⟨gathers.1, gathers.2, ?_⟩
    split
    · split
      · refine ⟨emptyLearning, by decide, ?_⟩
        simp only [State.completeLearning]
        split
        · rename_i accepted
          refine ⟨?_, _, false, ?_, .inr ⟨accepted, clamped _⟩⟩
          · split <;> simp [State.clearLearning]
          · split <;> simp
        · refine ⟨?_, _, true, ?_, .inl rfl⟩
          · split <;> simp [State.clearLearning]
          · split <;> simp
      · rename_i short
        exact ⟨⟨s.channels[h.channel].learning.seconds + 1, _, _⟩, by simp only [not_le] at short ⊢; omega, by rfl,
          s.live[h.channel].offsetEff, s.live[h.channel].offsetFault, (set_get_same s.live h.channel).symm, .inl rfl⟩
    · exact ⟨emptyLearning, by decide, by rfl, s.live[h.channel].offsetEff, s.live[h.channel].offsetFault,
        (set_get_same s.live h.channel).symm, .inl rfl⟩
  · exact .inl ⟨rfl, rfl⟩

/-- A live part that has kept a measured second (R15). -/
def Live.keeping (h : SecondHandOff) (l : Live) : Live := { l with measured := some ⟨h.m, h.quality⟩ }

/-- What a record does with a measured second (R15): OFF nothing, OUT_OF_SERVICE it is kept and offered to learning,
IN_SERVICE it is kept and evaluated. -/
theorem State.takeSecond_cases (h : SecondHandOff) (s : State) :
    let u := s.takeSecond h
    (s.live[h.channel].service = .off ∧ u = s) ∨
    (s.live[h.channel].service = .outOfService ∧
      u = (s.setLive h.channel (s.live[h.channel].keeping h)).offerLearning h) ∨
    (s.live[h.channel].service = .inService ∧ u.channels = s.channels ∧
      u.live = s.live.set h.channel (evaluated s.cfg.transformers[h.channel] s.fieldView (some h)
        { s.live[h.channel].keeping h with age := 0 })) := by
  cases hs : s.live[h.channel].service with
  | off => exact .inl ⟨rfl, by simp only [State.takeSecond, hs]⟩
  | outOfService => exact .inr (.inl ⟨rfl, by simp only [State.takeSecond, hs, Live.keeping]⟩)
  | inService =>
    refine .inr (.inr ⟨rfl, ?_⟩)
    simp only [State.takeSecond, hs]
    exact ⟨by simp, by simp [State.evaluate_live, Live.keeping, hs, -Fin.getElem_fin]⟩

/-! ### Service changes -/

/-- What the table has taken of an input meets neither live parts nor channels. -/
@[simp] theorem State.enTaken_setLive (i j : Fin 16) (l : Live) (s : State) : (s.setLive j l).enTaken i = s.enTaken i := rfl
@[simp] theorem State.enTaken_clearLearning (i j : Fin 16) (s : State) : (s.clearLearning j).enTaken i = s.enTaken i := rfl
@[simp] theorem State.enTaken_offsetWritten (i j : Fin 16) (c : Settings) (s : State) :
    (s.offsetWritten j c).enTaken i = s.enTaken i := rfl

theorem State.clearLearning_channels (i : Fin 16) (s : State) :
    (s.clearLearning i).channels = s.channels.set i { s.channels[i] with learning := emptyLearning } := rfl

theorem State.clearDeenergisedTime_channels (i : Fin 16) (s : State) :
    (s.clearDeenergisedTime i).channels = s.channels.set i { s.channels[i] with deenergisedTime := 0 } := rfl

/-- A channel with neither a learning accumulation nor de-energised time (R8, R11). -/
def Channel.restarted (c : Channel) : Channel := { c with learning := emptyLearning, deenergisedTime := 0 }

theorem State.energise_table (i : Fin 16) (s : State) :
    (s.live[i].service = .outOfService ∧
      (s.energise i).live = s.live.set i { s.live[i] with service := .inService, age := 0 } ∧
      (s.energise i).channels = s.channels.set i s.channels[i].restarted) ∨
    s.live[i].service ≠ .outOfService ∧ s.energise i = s := by
  cases h : s.live[i].service with
  | outOfService =>
    refine .inl ⟨rfl, ?_⟩
    simp [State.energise, h, clearLearning_channels, clearDeenergisedTime_channels, Channel.restarted, -Fin.getElem_fin]
  | off => exact .inr ⟨by simp, by simp only [State.energise, h]⟩
  | inService => exact .inr ⟨by simp, by simp only [State.energise, h]⟩

theorem State.deenergise_table (i : Fin 16) (s : State) :
    (s.live[i].service = .inService ∧ (s.deenergise i).live = s.live.set i s.live[i].deenergised ∧
      (s.deenergise i).channels = s.channels.set i { s.channels[i] with deenergisedTime := 0 }) ∨
    s.live[i].service ≠ .inService ∧ s.deenergise i = s := by
  cases h : s.live[i].service with
  | inService =>
    refine .inl ⟨rfl, ?_⟩
    simp [State.deenergise, h, clearDeenergisedTime_channels, -Fin.getElem_fin]
  | off => exact .inr ⟨by simp, by simp only [State.deenergise, h]⟩
  | outOfService => exact .inr ⟨by simp, by simp only [State.deenergise, h]⟩

theorem State.disableTransformer_table (i : Fin 16) (s : State) :
    (s.disableTransformer i).live = s.live.set i s.live[i].disabled ∧
      (s.disableTransformer i).channels = s.channels.set i s.channels[i].restarted := by
  simp [State.disableTransformer, clearLearning_channels, clearDeenergisedTime_channels, Channel.restarted,
    -Fin.getElem_fin]

/-- The live part an enable leaves (R9); `energised`: the input's state that it goes by. -/
def Live.enabled (energised : Bool) (l : Live) : Live :=
  if energised then { l with service := .inService, age := 0 } else { l with service := .outOfService }

theorem State.enableTransformer_table (i : Fin 16) (s : State) :
    (s.enableTransformer i).live = s.live.set i (s.live[i].enabled (s.enTaken i)) ∧
      (s.enableTransformer i).channels = s.channels.set i { s.channels[i] with deenergisedTime := 0 } := by
  cases h : s.enTaken i <;>
    simp [State.enableTransformer, h, clearDeenergisedTime_channels, Live.enabled, -Fin.getElem_fin]

/-- The live part with a written O_set (R3). -/
def Live.withOffset (before after : Settings) (l : Live) : Live :=
  if before.offsetSet = after.offsetSet then l else { l with offsetEff := after.offsetSet, offsetFault := false }

/-- The channel with learning as written (R3). -/
def Channel.withLearning (before after : Settings) (c : Channel) : Channel :=
  if before.learning = true ∧ after.learning = false then { c with learning := emptyLearning } else c

/-- A disable clears the accumulation, whatever learning is written to be (R8). -/
@[simp] theorem Channel.withLearning_restarted (before after : Settings) (c : Channel) :
    (c.withLearning before after).restarted = c.restarted := by
  unfold Channel.withLearning
  split <;> rfl

/-- The live part that a taken settings part leaves (R3, R8, R9); `energised`: the input's state that an enable goes by. -/
def Live.withSettings (before after : Settings) (energised : Bool) (l : Live) : Live :=
  match before.enabled, after.enabled with
  | true, false => (l.withOffset before after).disabled
  | false, true => (l.withOffset before after).enabled energised
  | _, _ => l.withOffset before after

/-- The channel that a taken settings part leaves (R3, R8, R9). -/
def Channel.withSettings (before after : Settings) (c : Channel) : Channel :=
  match before.enabled, after.enabled with
  | true, false => c.restarted
  | false, true => { c.withLearning before after with deenergisedTime := 0 }
  | _, _ => c.withLearning before after

/-- The first two effects of a taken settings part (R3). -/
def State.offsetAndLearning (i : Fin 16) (before after : Settings) (s : State) : State :=
  (s.whenChanged (before.offsetSet != after.offsetSet) (State.offsetWritten i after)).whenChanged
    (before.learning && !after.learning) (State.clearLearning i)

theorem State.offsetAndLearning_table (i : Fin 16) (before after : Settings) (s : State) :
    (s.offsetAndLearning i before after).live = s.live.set i (s.live[i].withOffset before after) ∧
      (s.offsetAndLearning i before after).channels = s.channels.set i (s.channels[i].withLearning before after) ∧
      ∀ j, (s.offsetAndLearning i before after).enTaken j = s.enTaken j := by
  by_cases ho : before.offsetSet = after.offsetSet <;> cases hl : before.learning <;> cases hm : after.learning <;>
    simp [State.offsetAndLearning, State.whenChanged, Live.withOffset, Channel.withLearning, State.offsetWritten,
      clearLearning_channels, ho, hl, hm, -Fin.getElem_fin]

theorem State.settingsEffects_eq (i : Fin 16) (before after : Settings) (s : State) :
    s.settingsEffects i before after =
      match before.enabled, after.enabled with
      | true, false => (s.offsetAndLearning i before after).disableTransformer i
      | false, true => (s.offsetAndLearning i before after).enableTransformer i
      | _, _ => s.offsetAndLearning i before after := by
  cases hb : before.enabled <;> cases ha : after.enabled <;>
    simp [State.settingsEffects, State.offsetAndLearning, hb, ha, State.whenChanged]

theorem State.settingsEffects_table (i : Fin 16) (before after : Settings) (s : State) :
    (s.settingsEffects i before after).live = s.live.set i (s.live[i].withSettings before after (s.enTaken i)) ∧
      (s.settingsEffects i before after).channels = s.channels.set i (s.channels[i].withSettings before after) := by
  obtain ⟨hlive, hchannels, htaken⟩ := s.offsetAndLearning_table i before after
  obtain ⟨hd, hd'⟩ := (s.offsetAndLearning i before after).disableTransformer_table i
  obtain ⟨he, he'⟩ := (s.offsetAndLearning i before after).enableTransformer_table i
  rw [settingsEffects_eq]
  cases hb : before.enabled <;> cases ha : after.enabled <;>
    simp [Live.withSettings, Channel.withSettings, hb, ha, hd, hd', he, he',
      hlive, hchannels, htaken, -Fin.getElem_fin]

end Sys2Proof.Machine
end

section
/-! The law of the thermal rise (R92): T and S stay within 0 to 20000, under settings in their ranges. -/

namespace Sys2Proof.Machine

/-- What holds of every element, and of the one put in, holds of every element afterwards. -/
theorem forall_set {α : Type} {n : Nat} {P : α → Prop} {v w : Vector α n} {i : Fin n} {x : α} (h : w = v.set i x)
    (hv : ∀ j : Fin n, P v[j]) (hx : P x) (j : Fin n) : P w[j] := by
  rw [h, get_set]
  split
  · exact hx
  · exact hv j

theorem Warm.secondPassed {cfg : Settings} (hc : SettingsOk cfg) {l : Live} (h : Warm l) (v : FieldView) :
    Warm (secondPassed cfg v l) := by
  simp only [Machine.secondPassed]
  split
  · exact h
  · exact h.cooled cfg
  · split
    · exact Warm.evaluated hc (h.of_eq (by rfl) (by rfl)) v none
    · exact h.of_eq rfl rfl

theorem Warm.withOffset {l : Live} (h : Warm l) (before after : Settings) : Warm (l.withOffset before after) := by
  unfold Live.withOffset
  split
  · exact h
  · exact h.of_eq rfl rfl

theorem Warm.enabled {l : Live} (h : Warm l) (energised : Bool) : Warm (l.enabled energised) := by
  cases energised <;> exact h.of_eq rfl rfl

theorem Warm.withSettings {l : Live} (h : Warm l) (before after : Settings) (energised : Bool) :
    Warm (l.withSettings before after energised) := by
  simp only [Live.withSettings]
  split
  · exact ⟨Nat.zero_le _, Nat.zero_le _⟩
  · exact (h.withOffset before after).enabled energised
  · exact h.withOffset before after

/-- Every live part is warm after a measured second has been taken. -/
theorem warm_takeSecond {s : State} (hc : ∀ i : Fin 16, SettingsOk s.cfg.transformers[i])
    (hw : ∀ i : Fin 16, Warm s.live[i]) (h : SecondHandOff) (i : Fin 16) : Warm (s.takeSecond h).live[i] := by
  have kept : Warm (s.live[h.channel].keeping h) := (hw _).of_eq rfl rfl
  rcases s.takeSecond_cases h with ⟨-, hu⟩ | ⟨-, hu⟩ | ⟨-, -, hl⟩
  · rw [hu]; exact hw i
  · have keptAll := forall_set (State.setLive_live h.channel _ s) hw kept
    rw [hu]
    rcases State.offerLearning_cases h (s.setLive h.channel (s.live[h.channel].keeping h)) with
      ⟨hl, -⟩ | ⟨-, -, _, -, -, o, f, hl, -⟩
    · rw [hl]; exact keptAll i
    · exact forall_set hl keptAll ((keptAll h.channel).of_eq rfl rfl) i
  · exact forall_set hl hw (Warm.evaluated (hc _) (kept.of_eq (by rfl) (by rfl)) _ _) i

theorem TableMove.warm {s t : State} (m : TableMove s t) (hc : ∀ i : Fin 16, SettingsOk s.cfg.transformers[i])
    (hw : ∀ i : Fin 16, Warm s.live[i]) (i : Fin 16) : Warm t.live[i] := by
  cases m with
  | quiet q => rw [q.live]; exact hw i
  | second h => exact warm_takeSecond hc hw h i
  | clock j stamp => exact forall_set (s.recordSecond_live j stamp) hw ((hw j).secondPassed (hc j) _) i
  | energise j =>
    rcases s.energise_table j with ⟨-, hl, -⟩ | ⟨-, h⟩
    · exact forall_set hl hw ((hw j).of_eq rfl rfl) i
    · rw [h]; exact hw i
  | deenergise j =>
    rcases s.deenergise_table j with ⟨-, hl, -⟩ | ⟨-, h⟩
    · exact forall_set hl hw ⟨(hw j).heat, Nat.zero_le _⟩ i
    · rw [h]; exact hw i
  | flags moved rest => rw [(moved i).rest]; exact (hw i).of_eq rfl rfl
  | settings j ok =>
    exact forall_set ((s.setSettings j _).settingsEffects_table j _ _).1 hw ((hw j).withSettings _ _ _) i
  | configured h => rw [h.live]; exact hw i

/-- After a start-up every live part is as R4 gives it. -/
theorem State.startUp_live (cause : ResetCause) (rateHigh : Bool) (s : State) (i : Fin 16) :
    (s.startUp cause rateHigh).live[i] = initialLive
      (serviceAtStart s.store.loaded.transformers[i].enabled s.inputs.en[i].raw) s.store.loaded.transformers[i].offsetSet :=
  get_ofFn _ i

theorem thermalLaw_iff {s : State} : ThermalLaw s ↔ SettingsLaw s ∧ ∀ i : Fin 16, Warm s.live[i] :=
  ⟨fun h => ⟨h.settings, fun i => ⟨h.heat i, h.steady i⟩⟩, fun h => ⟨h.1, fun i => (h.2 i).heat, fun i => (h.2 i).steady⟩⟩

theorem TableMove.thermalLaw {s t : State} (m : TableMove s t) (h : ThermalLaw s) : ThermalLaw t := by
  obtain ⟨hs, hw⟩ := thermalLaw_iff.mp h
  exact thermalLaw_iff.mpr ⟨m.settingsLaw hs, m.warm hs.inUse.transformers hw⟩

theorem TrackerMove.thermalLaw {s t : State} (m : TrackerMove s t) (h : ThermalLaw s) : ThermalLaw t := by
  obtain ⟨hs, hw⟩ := thermalLaw_iff.mp h
  refine thermalLaw_iff.mpr ⟨m.settingsLaw hs, fun i => ?_⟩
  rcases m.frame with ⟨cause, rateHigh, rfl⟩ | ⟨hl, -⟩
  · rw [State.startUp_live]
    exact ⟨Nat.zero_le _, Nat.zero_le _⟩
  · rw [hl]; exact hw i

/-- Settles O9: every command is a chain of moves, and each move keeps the law. -/
theorem stepKeepsThermalLaw : Obligations.StepKeepsThermalLaw :=
  fun _ _ h hs => step_keeps TableMove.thermalLaw TrackerMove.thermalLaw hs h

end Sys2Proof.Machine
end

section
/-! The law of the transformers: service state against enabled, rest out of service, ages, offset, learning, and the ranges
of the counts (R4, R7, R8, R10, R48 to R51, R104). -/

namespace Sys2Proof.Machine

/-! ### The counts of a live part -/

/-- The counts of a live part stand in their ranges (R4), and never both persistence ages run (R104). -/
structure CountsOk (l : Live) : Prop where
  ages : l.riseAge = 0 ∨ l.calmAge = 0
  runs : l.outsideRun ≤ 3600 ∧ l.insideRun ≤ 3600
  counts : l.age ≤ 65535 ∧ l.riseAge ≤ 65535 ∧ l.calmAge ≤ 65535
  reminder : l.reminderCount ≤ 3600

theorem CountsOk.withAge {l : Live} (h : CountsOk l) {n : Nat} (hn : n ≤ 65535) : CountsOk { l with age := n } :=
  ⟨h.ages, h.runs, ⟨hn, h.counts.2⟩, h.reminder⟩

/-- Service state, age and the offset put in beside counts that stand in their ranges. -/
theorem CountsOk.serving {l : Live} (h : CountsOk l) (x : ServiceState) (o : Int) (f : Bool) :
    CountsOk { l with service := x, age := 0, offsetEff := o, offsetFault := f } :=
  ⟨h.ages, h.runs, ⟨Nat.zero_le _, h.counts.2⟩, h.reminder⟩

theorem CountsOk.keeping {l : Live} (h : CountsOk l) (m : SecondHandOff) : CountsOk (l.keeping m) :=
  ⟨h.ages, h.runs, h.counts, h.reminder⟩

theorem CountsOk.updateDoubt {l : Live} (h : CountsOk l) (cfg : Settings) (c : SecondClass) :
    CountsOk (updateDoubt cfg c l) := by
  simp only [Machine.updateDoubt]
  repeat' split
  · exact ⟨h.ages, ⟨Nat.zero_le _, Nat.zero_le _⟩, h.counts, h.reminder⟩
  · exact ⟨h.ages, ⟨satSucc_le _ _, Nat.zero_le _⟩, h.counts, h.reminder⟩
  · exact ⟨h.ages, ⟨Nat.zero_le _, satSucc_le _ _⟩, h.counts, h.reminder⟩
  · exact h

theorem CountsOk.basisSelection {l : Live} (h : CountsOk l) (cfg : Settings) (v : FieldView) (ev : Option SecondHandOff) :
    CountsOk (basisSelection cfg v ev l) := by
  have judged := h.updateDoubt cfg (classify cfg v (predictionOf cfg v) ev)
  exact ⟨judged.ages, judged.runs, judged.counts, judged.reminder⟩

theorem CountsOk.heatingUpdate {l : Live} (h : CountsOk l) (cfg : Settings) : CountsOk (heatingUpdate cfg l) :=
  ⟨h.ages, h.runs, h.counts, h.reminder⟩

theorem CountsOk.riseBranch {l : Live} (h : CountsOk l) {cfg : Settings} (hr : cfg.reminder ≤ 3600) (c : Level) :
    CountsOk (riseBranch cfg c l) := by
  simp only [Machine.riseBranch]
  split
  · exact ⟨.inr rfl, h.runs, ⟨h.counts.1, satSucc_le _ _, Nat.zero_le _⟩, h.reminder⟩
  · refine ⟨.inr rfl, h.runs, ⟨h.counts.1, satSucc_le _ _, Nat.zero_le _⟩, ?_⟩
    dsimp only
    split
    · exact hr
    · exact h.reminder

theorem CountsOk.calmBranch {l : Live} (h : CountsOk l) (cfg : Settings) (f : Level) : CountsOk (calmBranch cfg f l) := by
  simp only [Machine.calmBranch]
  split
  · refine ⟨.inl rfl, h.runs, ⟨h.counts.1, Nat.zero_le _, Nat.zero_le _⟩, ?_⟩
    dsimp only
    split
    · exact Nat.zero_le _
    · exact h.reminder
  · exact ⟨.inl rfl, h.runs, ⟨h.counts.1, Nat.zero_le _, satSucc_le _ _⟩, h.reminder⟩

theorem CountsOk.levelBranch {l : Live} (h : CountsOk l) {cfg : Settings} (hr : cfg.reminder ≤ 3600) :
    CountsOk (levelBranch cfg l) := by
  simp only [Machine.levelBranch]
  repeat' split
  · exact h.riseBranch hr _
  · exact h
  · exact h.calmBranch cfg _
  · exact ⟨.inl rfl, h.runs, ⟨h.counts.1, Nat.zero_le _, Nat.zero_le _⟩, h.reminder⟩

theorem remind_le {cfg : Settings} (hr : cfg.reminder ≤ 3600) {n : Nat} (hn : n ≤ 3600) : (remind cfg n).1 ≤ 3600 := by
  simp only [remind]
  repeat' split
  · exact Nat.zero_le _
  · exact hr
  · exact hr
  · exact (Nat.sub_le n 1).trans hn

theorem CountsOk.levelEvaluation {l : Live} (h : CountsOk l) {cfg : Settings} (hr : cfg.reminder ≤ 3600) :
    CountsOk (levelEvaluation cfg l) := by
  have branch := h.levelBranch hr
  simp only [Machine.levelEvaluation]
  split
  · exact ⟨branch.ages, branch.runs, branch.counts, remind_le hr branch.reminder⟩
  · exact branch

theorem CountsOk.evaluated {l : Live} (h : CountsOk l) {cfg : Settings} (hr : cfg.reminder ≤ 3600) (v : FieldView)
    (ev : Option SecondHandOff) : CountsOk (evaluated cfg v ev l) :=
  ((h.basisSelection cfg v ev).heatingUpdate cfg).levelEvaluation hr

theorem SettingsOk.reminder_le {c : Settings} (h : SettingsOk c) : c.reminder ≤ 3600 := by
  have := h.reminder
  omega

/-! ### The condition of one transformer -/

section
variable {c : Settings} {l m : Live} {ch d : Channel}

theorem TransformerOk.countsOk (h : TransformerOk c l ch) : CountsOk l :=
  ⟨h.ages, h.runs, ⟨h.counts.1, h.counts.2.1, h.counts.2.2.1⟩, h.reminder⟩

/-- Of a channel the condition reads learning and the de-energised time alone. -/
theorem TransformerOk.keepsLearning (h : TransformerOk c l ch) (k : KeepsLearning ch d) : TransformerOk c l d where
  enabled := h.enabled
  ages := h.ages
  resting := h.resting
  off := h.off
  offset := h.offset
  deenergised := by rw [k.time]; exact h.deenergised
  learning := by rw [k.time, k.learning]; exact h.learning
  gathered := by rw [k.learning]; exact h.gathered
  runs := h.runs
  counts := by rw [k.time]; exact h.counts
  reminder := h.reminder
  codes := h.codes

/-- IN_SERVICE nothing is gathered. -/
theorem TransformerOk.learning_empty (h : TransformerOk c l ch) (hs : l.service ≠ .outOfService) :
    ch.learning = emptyLearning := by
  by_contra gathering
  exact hs (h.learning gathering).1

/-- The condition of a transformer that is IN_SERVICE. -/
theorem TransformerOk.ofInService (hl : l.service = .inService) (he : c.enabled = true) (hn : CountsOk l)
    (ho : (l.offsetEff - c.offsetSet).natAbs ≤ 256) (hc : l.offsetEff.natAbs ≤ 2047) (ht : ch.deenergisedTime = 0)
    (hg : ch.learning = emptyLearning) : TransformerOk c l ch where
  enabled := by simp [hl, he]
  ages := hn.ages
  resting := fun h => absurd hl h
  off := by simp [hl]
  offset := ho
  deenergised := fun _ => ht
  learning := fun h => absurd hg h
  gathered := by rw [hg]; decide
  runs := hn.runs
  counts := ⟨hn.counts.1, hn.counts.2.1, hn.counts.2.2, by omega⟩
  reminder := hn.reminder
  codes := hc

/-- An operation on an IN_SERVICE transformer that leaves it there with its O_eff. -/
theorem TransformerOk.inService (h : TransformerOk c l ch) (hl : l.service = .inService) (hm : m.service = .inService)
    (ho : m.offsetEff = l.offsetEff) (hn : CountsOk m) : TransformerOk c m ch := by
  have enabled : c.enabled = true := by simpa [hl] using h.enabled
  exact .ofInService hm enabled hn (by rw [ho]; exact h.offset) (by rw [ho]; exact h.codes)
    (h.deenergised (by simp [hl])) (h.learning_empty (by simp [hl]))

/-- A service change to IN_SERVICE (R9, R11): age 0, no de-energised time, nothing gathered. -/
theorem TransformerOk.intoService (h : TransformerOk c l ch) (he : c.enabled = true) (ht : d.deenergisedTime = 0)
    (hg : d.learning = emptyLearning) : TransformerOk c { l with service := .inService, age := 0 } d :=
  .ofInService rfl he (h.countsOk.serving _ _ _) h.offset h.codes ht hg

theorem TransformerOk.evaluated (h : TransformerOk c l ch) (hl : l.service = .inService) (hc : SettingsOk c)
    (hn : CountsOk m) (hm : m.service = .inService) (ho : m.offsetEff = l.offsetEff) (v : FieldView)
    (ev : Option SecondHandOff) : TransformerOk c (evaluated c v ev m) ch :=
  h.inService hl (by simp [hm]) (by simp [Machine.evaluated, ho]) (hn.evaluated hc.reminder_le v ev)

/-- Keeping a measured second out of service (R15). -/
theorem TransformerOk.keeping (h : TransformerOk c l ch) (hl : l.service = .outOfService) (g : SecondHandOff) :
    TransformerOk c (l.keeping g) ch :=
  { h with off := fun ho => by simp [Live.keeping, hl] at ho }

/-- Offset learning out of service (R49 to R52). -/
theorem TransformerOk.learnt (h : TransformerOk c l ch) (hl : l.service = .outOfService) (hc : c.learning = true)
    (ht : 60 ≤ ch.deenergisedTime) {x : Learning} (hx : x.seconds ≤ 29) {o : Int} (f : Bool)
    (ho : o = l.offsetEff ∨ (o - c.offsetSet).natAbs ≤ 256 ∧ o.natAbs ≤ 2047) :
    TransformerOk c { l with offsetEff := o, offsetFault := f } { ch with learning := x } :=
  { h with
    offset := by
      rcases ho with rfl | ho
      · exact h.offset
      · exact ho.1
    learning := fun _ => ⟨hl, hc, ht⟩
    gathered := hx
    codes := by
      rcases ho with rfl | ho
      · exact h.codes
      · exact ho.2 }

/-- A clock second out of service (R17, R48): a cooling update and one more second of de-energised time. -/
theorem TransformerOk.cooled (h : TransformerOk c l ch) (hl : l.service = .outOfService) :
    TransformerOk c (coolingUpdate c l) { ch with deenergisedTime := satSucc 65535 ch.deenergisedTime } where
  enabled := h.enabled
  ages := h.ages
  resting := fun hs => by
    obtain ⟨h1, h2, h3, h4, h5, h6, h7, h8, h9, h10, -⟩ := h.resting hs
    exact ⟨h1, h2, h3, h4, h5, h6, h7, h8, h9, h10, rfl⟩
  off := fun ho => by simp [coolingUpdate, hl] at ho
  offset := h.offset
  deenergised := fun hs => absurd hl hs
  learning := fun hg => by
    obtain ⟨hs, hc, ht⟩ := h.learning hg
    refine ⟨hs, hc, ?_⟩
    simp only [satSucc]
    omega
  gathered := h.gathered
  runs := h.runs
  counts := ⟨h.counts.1, h.counts.2.1, h.counts.2.2.1, satSucc_le _ _⟩
  reminder := h.reminder
  codes := h.codes

/-- A de-energising (R10): the live part rests, and nothing has been gathered. -/
theorem TransformerOk.deenergise (h : TransformerOk c l ch) (hl : l.service = .inService) :
    TransformerOk c l.deenergised { ch with deenergisedTime := 0 } where
  enabled := by simpa [Live.deenergised, hl] using h.enabled
  ages := .inl rfl
  resting := fun _ => ⟨rfl, rfl, rfl, rfl, rfl, rfl, rfl, rfl, rfl, rfl, rfl⟩
  off := fun ho => by cases ho
  offset := h.offset
  deenergised := fun _ => rfl
  learning := fun hg => absurd (h.learning_empty (by simp [hl])) hg
  gathered := h.gathered
  runs := ⟨Nat.zero_le _, Nat.zero_le _⟩
  counts := ⟨h.counts.1, Nat.zero_le _, Nat.zero_le _, Nat.zero_le _⟩
  reminder := Nat.zero_le _
  codes := h.codes

/-- Flags that are cleared or set (R113, R117). -/
theorem TransformerOk.flags (h : TransformerOk c l ch) (moved : FlagsMoved l m) : TransformerOk c m ch := by
  obtain ⟨rest, cleared⟩ := moved
  rw [rest]
  refine { h with off := fun ho => ?_ }
  obtain ⟨hm, hh, ha, hu⟩ := h.off ho
  refine ⟨hm, hh, ha, ?_⟩
  cases hmu : m.unacknowledged with
  | false => rfl
  | true => rw [cleared hmu] at hu; cases hu

end

/-! ### A settings part taken -/

section
variable {c e : Settings} {l : Live} {ch : Channel}

/-- A written O_set sets O_eff (R3); so O_eff stands within 256 codes of O_set either way. -/
theorem TransformerOk.withOffset_codes (h : TransformerOk c l ch) (he : SettingsOk e) :
    ((l.withOffset c e).offsetEff - e.offsetSet).natAbs ≤ 256 ∧ (l.withOffset c e).offsetEff.natAbs ≤ 2047 := by
  have := he.offset
  unfold Live.withOffset
  split
  · rename_i same
    rw [← same]
    exact ⟨h.offset, h.codes⟩
  · constructor <;> (dsimp only; omega)

theorem Live.withOffset_rest (c e : Settings) (l : Live) :
    l.withOffset c e =
      { l with offsetEff := (l.withOffset c e).offsetEff, offsetFault := (l.withOffset c e).offsetFault } := by
  unfold Live.withOffset
  split <;> rfl

/-- Learning turned off leaves nothing gathered (R3). -/
theorem Channel.withLearning_cases (c e : Settings) (ch : Channel) :
    (ch.withLearning c e).deenergisedTime = ch.deenergisedTime ∧
      ((ch.withLearning c e).learning = emptyLearning ∨
        (ch.withLearning c e).learning = ch.learning ∧ (c.learning = true → e.learning = true)) := by
  unfold Channel.withLearning
  split
  · exact ⟨rfl, .inl rfl⟩
  · rename_i kept
    refine ⟨rfl, .inr ⟨rfl, fun hc => ?_⟩⟩
    cases he : e.learning with
    | true => rfl
    | false => exact absurd ⟨hc, he⟩ kept

/-- A settings part taken that leaves enabled as it was (R3). -/
theorem TransformerOk.settingsKept (h : TransformerOk c l ch) (he : SettingsOk e) (same : e.enabled = c.enabled) :
    TransformerOk e (l.withOffset c e) (ch.withLearning c e) := by
  obtain ⟨ho, hc⟩ := h.withOffset_codes he
  obtain ⟨ht, hl⟩ := Channel.withLearning_cases c e ch
  rw [Live.withOffset_rest]
  exact { h with
    enabled := by rw [same]; exact h.enabled
    offset := ho
    deenergised := by rw [ht]; exact h.deenergised
    learning := fun hg => by
      rcases hl with hl | ⟨hl, kept⟩
      · exact absurd hl hg
      · obtain ⟨hs, hcl, h60⟩ := h.learning (hl ▸ hg)
        exact ⟨hs, kept hcl, ht ▸ h60⟩
    gathered := by
      rcases hl with hl | ⟨hl, -⟩
      · rw [hl]; decide
      · rw [hl]; exact h.gathered
    counts := by rw [ht]; exact h.counts
    codes := hc }

/-- A disable (R8). -/
theorem TransformerOk.disabled (h : TransformerOk c l ch) (he : SettingsOk e) (off : e.enabled = false) :
    TransformerOk e (l.withOffset c e).disabled ch.restarted where
  enabled := by simp [Live.disabled, off]
  ages := .inl rfl
  resting := fun _ => ⟨rfl, rfl, rfl, rfl, rfl, rfl, rfl, rfl, rfl, rfl, rfl⟩
  off := fun _ => ⟨rfl, rfl, rfl, rfl⟩
  offset := (h.withOffset_codes he).1
  deenergised := fun _ => rfl
  learning := fun hg => absurd rfl hg
  gathered := Nat.zero_le _
  runs := ⟨Nat.zero_le _, Nat.zero_le _⟩
  counts := ⟨Nat.zero_le _, Nat.zero_le _, Nat.zero_le _, Nat.zero_le _⟩
  reminder := Nat.zero_le _
  codes := (h.withOffset_codes he).2

/-- An enable of an OFF transformer (R9). -/
theorem TransformerOk.enable (h : TransformerOk c l ch) (he : SettingsOk e) (was : c.enabled = false)
    (on : e.enabled = true) (energised : Bool) :
    TransformerOk e ((l.withOffset c e).enabled energised) { ch.withLearning c e with deenergisedTime := 0 } := by
  have hoff : l.service = .off := h.enabled.mpr was
  obtain ⟨ho, hc⟩ := h.withOffset_codes he
  have hg : (ch.withLearning c e).learning = emptyLearning := by
    rcases (Channel.withLearning_cases c e ch).2 with hl | ⟨hl, -⟩
    · exact hl
    · rw [hl]; exact h.learning_empty (by simp [hoff])
  rw [Live.withOffset_rest]
  cases energised with
  | true => exact .ofInService rfl on (h.countsOk.serving _ _ _) ho hc rfl hg
  | false =>
    exact { h with
      enabled := by simp [Live.enabled, on]
      resting := fun _ => h.resting (by simp [hoff])
      off := fun hs => by cases hs
      offset := ho
      deenergised := fun hs => absurd rfl hs
      learning := fun hn => absurd hg hn
      gathered := by rw [hg]; decide
      counts := ⟨h.counts.1, h.counts.2.1, h.counts.2.2.1, Nat.zero_le _⟩
      codes := hc }

theorem TransformerOk.withSettings (h : TransformerOk c l ch) (he : SettingsOk e) (energised : Bool) :
    TransformerOk e (l.withSettings c e energised) (ch.withSettings c e) := by
  cases was : c.enabled <;> cases on : e.enabled <;> simp only [Live.withSettings, Channel.withSettings, was, on]
  · exact h.settingsKept he (by rw [was, on])
  · exact h.enable he was on energised
  · exact h.disabled he on
  · exact h.settingsKept he (by rw [was, on])

end

end Sys2Proof.Machine
end

section
/-! The law of the transformers: every move keeps it. -/

namespace Sys2Proof.Machine

/-- What holds of every pair of elements of two vectors, and of the pair put in, holds of every pair afterwards. -/
theorem forall_set_pair {α β : Type} {n : Nat} {P : Fin n → α → β → Prop} {v v' : Vector α n} {w w' : Vector β n}
    {i : Fin n} {x : α} {y : β} (hv : v' = v.set i x) (hw : w' = w.set i y) (h : ∀ j, j ≠ i → P j v[j] w[j])
    (hi : P i x y) (j : Fin n) : P j v'[j] w'[j] := by
  rw [hv, hw, get_set, get_set]
  split
  · subst j; exact hi
  · rename_i other
    exact h j other

/-- The channel of a record after a clock second (R48). -/
def Channel.secondPassed (l : Live) (ch : Channel) : Channel :=
  match l.service with
  | .outOfService => { ch with deenergisedTime := satSucc 65535 ch.deenergisedTime }
  | _ => ch

theorem State.recordSecond_channels (i : Fin 16) (stamp : Stamp) (s : State) :
    (s.recordSecond i stamp).channels = s.channels.set i (s.channels[i].secondPassed s.live[i]) := by
  cases h : s.live[i].service with
  | off => simp [State.recordSecond, Channel.secondPassed, h, -Fin.getElem_fin]
  | outOfService => simp [State.recordSecond, Channel.secondPassed, h, -Fin.getElem_fin]
  | inService =>
    simp only [State.recordSecond, Channel.secondPassed, h]
    split <;> simp [-Fin.getElem_fin]

section
variable {c : Settings} {l : Live} {ch : Channel}

theorem TransformerOk.secondPassed (h : TransformerOk c l ch) (hc : SettingsOk c) (v : FieldView) :
    TransformerOk c (secondPassed c v l) (ch.secondPassed l) := by
  cases hs : l.service with
  | off => simpa only [Machine.secondPassed, Channel.secondPassed, hs] using h
  | outOfService => simpa only [Machine.secondPassed, Channel.secondPassed, hs] using h.cooled hs
  | inService =>
    have aged := h.countsOk.withAge (satSucc_le 65535 l.age)
    simp only [Machine.secondPassed, Channel.secondPassed, hs]
    split
    · simpa only [hs] using h.evaluated hs hc aged hs rfl v none
    · simpa only [hs] using h.inService (m := { l with age := satSucc 65535 l.age }) hs hs rfl aged

theorem TransformerOk.measured (h : TransformerOk c l ch) (hs : l.service = .inService) (hc : SettingsOk c) (v : FieldView)
    (g : SecondHandOff) : TransformerOk c (Machine.evaluated c v (some g) { l.keeping g with age := 0 }) ch :=
  h.evaluated hs hc ((h.countsOk.keeping g).withAge (Nat.zero_le _)) hs rfl v _

/-- The condition at a start-up (R181). -/
theorem transformerOk_initial (hc : SettingsOk c) (energised : Bool) :
    TransformerOk c (initialLive (serviceAtStart c.enabled energised) c.offsetSet) initialChannel where
  enabled := by cases h : c.enabled <;> cases energised <;> simp [initialLive, serviceAtStart]
  ages := .inl rfl
  resting := fun _ => ⟨rfl, rfl, rfl, rfl, rfl, rfl, rfl, rfl, rfl, rfl, rfl⟩
  off := fun _ => ⟨rfl, rfl, rfl, rfl⟩
  offset := by simp [initialLive]
  deenergised := fun _ => rfl
  learning := fun hg => absurd rfl hg
  gathered := Nat.zero_le _
  runs := ⟨Nat.zero_le _, Nat.zero_le _⟩
  counts := ⟨Nat.zero_le _, Nat.zero_le _, Nat.zero_le _, Nat.zero_le _⟩
  reminder := Nat.zero_le _
  codes := by have := hc.offset; simp only [initialLive]; omega

end

/-- The condition of every transformer is kept where a measured second is taken (R15, R49). -/
theorem transformersOk_takeSecond {s : State} (hc : ∀ i : Fin 16, SettingsOk s.cfg.transformers[i])
    (h : ∀ i : Fin 16, TransformerOk s.cfg.transformers[i] s.live[i] s.channels[i]) (g : SecondHandOff) (i : Fin 16) :
    TransformerOk s.cfg.transformers[i] (s.takeSecond g).live[i] (s.takeSecond g).channels[i] := by
  rcases s.takeSecond_cases g with ⟨-, hu⟩ | ⟨hs, hu⟩ | ⟨hs, hch, hl⟩
  · rw [hu]; exact h i
  · have kept := (h g.channel).keeping hs g
    have keptAll := forall_set_pair (P := fun j => TransformerOk s.cfg.transformers[j])
      (State.setLive_live g.channel (s.live[g.channel].keeping g) s) (set_get_same s.channels g.channel).symm
      (fun j _ => h j) kept
    rw [hu]
    rcases State.offerLearning_cases g (s.setLive g.channel (s.live[g.channel].keeping g)) with
      ⟨hl, hch⟩ | ⟨hlearning, htime, x, hx, hch, o, f, hl, ho⟩
    · rw [hl, hch]; exact keptAll i
    · refine forall_set_pair (P := fun j => TransformerOk s.cfg.transformers[j]) hl hch (fun j _ => keptAll j) ?_ i
      exact (keptAll g.channel).learnt (by simp [Live.keeping, hs, -Fin.getElem_fin]) hlearning htime hx f ho
  · exact forall_set_pair (P := fun j => TransformerOk s.cfg.transformers[j]) hl
      (hch.trans (set_get_same s.channels g.channel).symm) (fun j _ => h j) ((h g.channel).measured hs (hc _) _ g) i

/-- Nothing of a record changes where neither live parts nor, of the channels, learning and time do. -/
theorem transformersOk_of_keepsLearning {s t : State} (hl : t.live = s.live)
    (hch : ∀ ch : Fin 16, KeepsLearning s.channels[ch] t.channels[ch]) (hc : t.cfg.transformers = s.cfg.transformers)
    (h : ∀ i : Fin 16, TransformerOk s.cfg.transformers[i] s.live[i] s.channels[i]) (i : Fin 16) :
    TransformerOk t.cfg.transformers[i] t.live[i] t.channels[i] := by
  rw [hl, hc]
  exact (h i).keepsLearning (hch i)

theorem TableMove.transformersOk {s t : State} (m : TableMove s t) (hc : ∀ i : Fin 16, SettingsOk s.cfg.transformers[i])
    (h : ∀ i : Fin 16, TransformerOk s.cfg.transformers[i] s.live[i] s.channels[i]) (i : Fin 16) :
    TransformerOk t.cfg.transformers[i] t.live[i] t.channels[i] := by
  cases m with
  | quiet q => exact transformersOk_of_keepsLearning q.live q.channels (by rw [q.cfg]) h i
  | second g => simpa using transformersOk_takeSecond hc h g i
  | clock j stamp =>
    rw [show (s.recordSecond j stamp).cfg = s.cfg by simp]
    exact forall_set_pair (P := fun j => TransformerOk s.cfg.transformers[j]) (s.recordSecond_live j stamp)
      (s.recordSecond_channels j stamp) (fun k _ => h k) ((h j).secondPassed (hc j) _) i
  | energise j =>
    rw [show (s.energise j).cfg = s.cfg by simp]
    rcases s.energise_table j with ⟨hs, hl, hch⟩ | ⟨-, hu⟩
    · have enabled : s.cfg.transformers[j].enabled = true := by
        have := (h j).enabled
        simpa [hs, -Fin.getElem_fin] using this
      exact forall_set_pair (P := fun j => TransformerOk s.cfg.transformers[j]) hl hch (fun k _ => h k)
        ((h j).intoService enabled rfl rfl) i
    · rw [hu]; exact h i
  | deenergise j =>
    rw [show (s.deenergise j).cfg = s.cfg by simp]
    rcases s.deenergise_table j with ⟨hs, hl, hch⟩ | ⟨-, hu⟩
    · exact forall_set_pair (P := fun j => TransformerOk s.cfg.transformers[j]) hl hch (fun k _ => h k)
        ((h j).deenergise hs) i
    · rw [hu]; exact h i
  | flags moved rest =>
    have moved' := (h i).flags (moved i)
    rw [rest.cfg]
    exact moved'.keepsLearning (rest.channels i)
  | @settings j e ok =>
    obtain ⟨hl, hch⟩ := (s.setSettings j e).settingsEffects_table j s.cfg.transformers[j] e
    rw [show ((s.setSettings j e).settingsEffects j s.cfg.transformers[j] e).cfg = (s.setSettings j e).cfg by simp]
    refine forall_set_pair (P := fun k => TransformerOk (s.setSettings j e).cfg.transformers[k]) hl hch
      (fun k other => ?_) ?_ i
    · simp only [State.setSettings_cfg]
      rw [get_set_of_ne _ other]
      exact h k
    · simpa [-Fin.getElem_fin] using (h j).withSettings ok _
  | configured same ht _ => exact transformersOk_of_keepsLearning same.live same.channels ht h i

theorem TableMove.transformerLaw {s t : State} (m : TableMove s t) (h : TransformerLaw s) : TransformerLaw t :=
  ⟨m.settingsLaw h.settings, m.transformersOk h.settings.inUse.transformers h.each⟩

theorem TrackerMove.transformerLaw {s t : State} (m : TrackerMove s t) (h : TransformerLaw s) : TransformerLaw t := by
  have settings := m.settingsLaw h.settings
  refine ⟨settings, fun i => ?_⟩
  rcases m.frame with ⟨cause, rateHigh, rfl⟩ | ⟨hl, hch, hc, -⟩
  · have started : (s.startUp cause rateHigh).channels[i] = initialChannel := by simp [State.startUp]
    rw [State.startUp_live, started]
    exact transformerOk_initial (settings.inUse.transformers i) _
  · rw [hl, hch, hc]; exact h.each i

/-- Settles O8: every command is a chain of moves, and each move keeps the condition of each transformer. -/
theorem stepKeepsTransformerLaw : Obligations.StepKeepsTransformerLaw :=
  fun _ _ h hs => step_keeps TableMove.transformerLaw TrackerMove.transformerLaw hs h

end Sys2Proof.Machine
end

section
/-! The law of the episodes (R124 to R134): what a move of the tracker can do to the tracker alone, and which of its laws
it keeps. -/

namespace Sys2Proof.Machine

/-! ### The tracker by itself -/

/-- The part of the law of the episodes that speaks of the tracker alone (R124, R127, R130, R133). -/
structure TrackerLaw (t : EpisodeTracker) : Prop where
  history : t.history.length ≤ 8
  closed : ∀ e ∈ t.history, e.closed ≠ none
  isOpen : ∀ e, t.openEpisode = some e → e.closed = none
  quiet : t.openEpisode = none → t.quietTimer = 0
  charge : ∀ e ∈ t.history ++ t.openEpisode.toList, ∀ i : Fin 16, e.entries[i].charge ≤ 4294967295
  numbers : Consecutive t.numbers
  range : ∀ n ∈ t.numbers, 1 ≤ n ∧ n ≤ 65535

/-- No transformer is warmer than its entry says, or than a hand-off on its way will make it say (R17, R126). -/
def Noted (s : State) (e : Episode) : Prop :=
  ∀ i : Fin 16, s.live[i].heat ≤ e.entries[i].maxT ∨
    ∃ h ∈ s.handOffs.evaluations, h.transformer = i ∧ s.live[i].heat ≤ h.heat

theorem episodeLaw_iff {s : State} :
    EpisodeLaw s ↔ TrackerLaw s.tracker ∧ ∀ e, s.tracker.openEpisode = some e → Noted s e :=
  ⟨fun ⟨h1, h2, h3, h4, h5, h6, h7, h8⟩ => ⟨⟨h1, h2, h3, h4, h5, h6, h7⟩, h8⟩,
    fun ⟨⟨h1, h2, h3, h4, h5, h6, h7⟩, h8⟩ => ⟨h1, h2, h3, h4, h5, h6, h7, h8⟩⟩

/-- `EpisodesKept` speaks of the two trackers alone. -/
structure TrackerKept (t u : EpisodeTracker) : Prop where
  closed : ∃ (gone : Nat) (joined : List Episode), u.history = (t.history ++ joined).drop gone ∧
    joined.length ≤ 1 ∧ ∀ r ∈ joined, ∃ e, t.openEpisode = some e ∧ ClosedFrom e r
  isOpen : ∀ f, u.openEpisode = some f → (∃ e, t.openEpisode = some e ∧ Continues e f) ∨
    f.number = t.nextNumber ∧ ∀ i : Fin 16, f.entries[i].charge = 0

theorem episodesKept_iff {s t : State} : EpisodesKept s t ↔ TrackerKept s.tracker t.tracker :=
  ⟨fun h => ⟨h.closed, h.isOpen⟩, fun h => ⟨h.closed, h.isOpen⟩⟩

/-! ### What a clock second does to the tracker -/

/-- The open episode, if any, may only have another max |E|, and the quiet timer another value (R128, R129). -/
structure Advances (t u : EpisodeTracker) : Prop where
  history : u.history = t.history
  next : u.nextNumber = t.nextNumber
  isOpen : u = t ∨ ∃ e m, t.openEpisode = some e ∧ u.openEpisode = some { e with maxE := m }

/-- An opening (R126). -/
structure Opens (s : State) (u : EpisodeTracker) : Prop where
  none_open : s.tracker.openEpisode = none
  history : u.history = s.tracker.history
  next : u.nextNumber = nextEpisodeNumber s.tracker.nextNumber
  isOpen : ∃ stamp, u.openEpisode = some (s.openedEpisode stamp)

/-- A close of the open episode (R130), which may first take another max |E|. -/
inductive Closes (t : EpisodeTracker) : EpisodeTracker → Prop
  | close {e : Episode} (isOpen : t.openEpisode = some e) (m : Option (Nat × Stamp)) (c : Stamp × CloseCause) :
      Closes t ⟨none, 0, historyAfter t.history { e with maxE := m, closed := some c }, t.nextNumber⟩

theorem Advances.refl (t : EpisodeTracker) : Advances t t := ⟨rfl, rfl, .inl rfl⟩

theorem State.closeEpisodeRecord_closes {s : State} {e : Episode} (h : s.tracker.openEpisode = some e)
    (m : Option (Nat × Stamp)) (stamp : Stamp) (why : CloseCause) :
    Closes s.tracker (s.closeEpisodeRecord { e with maxE := m } stamp why).tracker := by
  simpa [State.closeEpisodeRecord] using Closes.close h m (stamp, why)

/-- A clock second with activity opens an episode or lets the open one go on (R125, R126, R129). -/
theorem State.trackerSecond_active {s : State} (stamp : Stamp) (h : s.activitySecond = true) :
    Opens s (s.trackerSecond stamp).tracker ∨
      s.tracker.openEpisode.isSome ∧ Advances s.tracker (s.trackerSecond stamp).tracker := by
  cases he : s.tracker.openEpisode with
  | none =>
    simp only [State.trackerSecond, he, h, if_true]
    exact .inl ⟨he, by simp [State.openEpisode], by simp [State.openEpisode], stamp, by simp [State.openEpisode]⟩
  | some e =>
    simp only [State.trackerSecond, he, h, if_true]
    exact .inr ⟨rfl, rfl, rfl, .inr ⟨e, _, he, rfl⟩⟩

/-- A clock second without activity lets the open episode go on or closes it (R129). -/
theorem State.trackerSecond_calm {s : State} (stamp : Stamp) (h : s.activitySecond = false) :
    Advances s.tracker (s.trackerSecond stamp).tracker ∨ Closes s.tracker (s.trackerSecond stamp).tracker := by
  cases he : s.tracker.openEpisode with
  | none =>
    simp only [State.trackerSecond, he, h]
    exact .inl (.refl _)
  | some e =>
    simp only [State.trackerSecond, he, h]
    split
    · contradiction
    · split
      · exact .inr (State.closeEpisodeRecord_closes he _ _ _)
      · exact .inl ⟨rfl, rfl, .inr ⟨e, _, he, rfl⟩⟩

/-- With no episode open a clock second without activity changes nothing (R125). -/
theorem State.trackerSecond_of_none {s : State} (stamp : Stamp) (he : s.tracker.openEpisode = none)
    (h : s.activitySecond = false) : s.trackerSecond stamp = s := by
  simp [State.trackerSecond, he, h]

/-! ### Numbers that follow one another -/

theorem Consecutive.drop {l : List Nat} (h : Consecutive l) (n : Nat) : Consecutive (l.drop n) := by
  induction l generalizing n with
  | nil => simpa using h
  | cons a l ih =>
    cases n with
    | zero => exact h
    | succ n =>
      refine ih ?_ n
      cases l with
      | nil => trivial
      | cons b l => exact h.2

theorem nextEpisodeNumber_eq (n : Nat) : nextEpisodeNumber n = if n < 65535 then n + 1 else 1 := by
  simp only [nextEpisodeNumber]
  split <;> split <;> omega

theorem Consecutive.append {l : List Nat} {a : Nat} (h : Consecutive (l ++ [a])) :
    Consecutive (l ++ [a] ++ [nextEpisodeNumber a]) := by
  induction l with
  | nil => exact ⟨nextEpisodeNumber_eq a, trivial⟩
  | cons b l ih =>
    cases l with
    | nil => exact ⟨h.1, nextEpisodeNumber_eq a, trivial⟩
    | cons c l => exact ⟨h.1, ih h.2⟩

theorem nextEpisodeNumber_mem (n : Nat) : 1 ≤ nextEpisodeNumber n ∧ nextEpisodeNumber n ≤ 65535 := by
  simp only [nextEpisodeNumber]
  split <;> omega

/-- The history after a close: the record joined, and of a full history the oldest gone (R130). -/
theorem historyAfter_eq (l : List Episode) (e : Episode) : historyAfter l e = (l ++ [e]).drop (l.length - 7) := by
  have depth : Config.historyDepth = 8 := rfl
  unfold historyAfter
  split
  · rw [show l.length - 7 = 0 by omega, List.drop_zero]
  · rw [depth, show l.length + 1 - 8 = l.length - 7 by omega, List.drop_append_of_le_length (by omega)]

/-! ### The law of the tracker is kept -/

section
variable {s : State} {t u : EpisodeTracker}

theorem TrackerLaw.initial : TrackerLaw initialTracker where
  history := Nat.zero_le _
  closed := by simp [initialTracker]
  isOpen := by simp [initialTracker]
  quiet := fun _ => rfl
  charge := by simp [initialTracker]
  numbers := by trivial
  range := by simp [initialTracker, EpisodeTracker.numbers]

/-- Another open record with the number, the close and no more charge than allowed; the quiet timer is free. -/
theorem TrackerLaw.reopen (h : TrackerLaw t) {e f : Episode} (he : t.openEpisode = some e) (hu : u.openEpisode = some f)
    (hh : u.history = t.history) (hn : u.nextNumber = t.nextNumber) (number : f.number = e.number)
    (closed : f.closed = e.closed) (charge : ∀ i : Fin 16, f.entries[i].charge ≤ 4294967295) : TrackerLaw u := by
  have numbers : u.numbers = t.numbers := by simp [EpisodeTracker.numbers, he, hu, hh, hn, number]
  refine ⟨by rw [hh]; exact h.history, by rw [hh]; exact h.closed, ?_, ?_, ?_, by rw [numbers]; exact h.numbers,
    by rw [numbers]; exact h.range⟩
  · intro g hg
    obtain rfl : f = g := Option.some.inj (hu.symm.trans hg)
    rw [closed]
    exact h.isOpen e he
  · intro hno; rw [hu] at hno; cases hno
  · intro g hg
    rw [hu, hh, List.mem_append] at hg
    rcases hg with hg | hg
    · exact h.charge g (List.mem_append_left _ hg)
    · obtain rfl : g = f := by simpa using hg
      exact charge

theorem TrackerLaw.advances (h : TrackerLaw t) (a : Advances t u) : TrackerLaw u := by
  obtain ⟨hh, hn, rfl | ⟨e, m, he, hu⟩⟩ := a
  · exact h
  · exact h.reopen he hu hh hn rfl rfl (h.charge e (by simp [he]))

theorem TrackerLaw.opens (h : TrackerLaw s.tracker) (o : Opens s u) : TrackerLaw u := by
  obtain ⟨he, hh, hn, stamp, hu⟩ := o
  have numbers : u.numbers = s.tracker.numbers ++ [nextEpisodeNumber s.tracker.nextNumber] := by
    simp [EpisodeTracker.numbers, he, hu, hh, hn, State.openedEpisode]
  refine ⟨by rw [hh]; exact h.history, by rw [hh]; exact h.closed, ?_, ?_, ?_, ?_, ?_⟩
  · intro g hg
    rw [hu] at hg
    cases hg
    rfl
  · intro hno; rw [hu] at hno; cases hno
  · intro g hg
    rw [hu, hh, List.mem_append] at hg
    rcases hg with hg | hg
    · exact h.charge g (List.mem_append_left _ hg)
    · obtain rfl : g = s.openedEpisode stamp := by simpa using hg
      exact fun i => by simp [State.openedEpisode, openingEntry]
  · rw [numbers]
    exact h.numbers.append
  · intro n hn
    rw [numbers, List.mem_append, List.mem_singleton] at hn
    rcases hn with hn | rfl
    · exact h.range n hn
    · exact nextEpisodeNumber_mem _

theorem TrackerLaw.closes (h : TrackerLaw t) (closes : Closes t u) : TrackerLaw u := by
  obtain @⟨e, he, m, c⟩ := closes
  have kept : ∀ r ∈ historyAfter t.history { e with maxE := m, closed := some c },
      r ∈ t.history ∨ r = { e with maxE := m, closed := some c } := fun r hr => by
    rw [historyAfter_eq] at hr
    simpa using List.mem_of_mem_drop hr
  have numbers : EpisodeTracker.numbers
      ⟨none, 0, historyAfter t.history { e with maxE := m, closed := some c }, t.nextNumber⟩ =
        t.numbers.drop (t.history.length - 7) := by
    simp [EpisodeTracker.numbers, historyAfter_eq, he, List.drop_append_of_le_length]
  refine ⟨?_, ?_, by simp, fun _ => rfl, ?_, ?_, ?_⟩
  · have := h.history
    simp only [historyAfter_eq, List.length_drop, List.length_append, List.length_singleton]
    omega
  · intro r hr
    rcases kept r hr with hr | rfl
    · exact h.closed r hr
    · simp
  · intro r hr
    rcases kept r (by simpa using hr) with hr | rfl
    · exact h.charge r (List.mem_append_left _ hr)
    · exact h.charge e (by simp [he])
  · rw [numbers]; exact h.numbers.drop _
  · intro n hn
    rw [numbers] at hn
    exact h.range n (List.mem_of_mem_drop hn)

/-! ### What is kept from one tracker to the next -/

theorem Continues.refl (e : Episode) : Continues e e := ⟨⟨rfl, rfl⟩, fun _ => ⟨le_rfl, le_rfl, le_rfl⟩⟩

theorem TrackerKept.of_history (hh : u.history = t.history)
    (ho : ∀ f, u.openEpisode = some f → (∃ e, t.openEpisode = some e ∧ Continues e f) ∨
      f.number = t.nextNumber ∧ ∀ i : Fin 16, f.entries[i].charge = 0) : TrackerKept t u :=
  ⟨⟨0, [], by simp [hh], by simp, by simp⟩, ho⟩

theorem TrackerKept.refl (t : EpisodeTracker) : TrackerKept t t :=
  .of_history rfl fun f hf => .inl ⟨f, hf, .refl f⟩

theorem Opens.kept (o : Opens s u) : TrackerKept s.tracker u := by
  obtain ⟨-, hh, -, stamp, hu⟩ := o
  refine .of_history hh fun f hf => .inr ?_
  obtain rfl : s.openedEpisode stamp = f := Option.some.inj (hu.symm.trans hf)
  exact ⟨rfl, fun i => by simp [State.openedEpisode, openingEntry]⟩

theorem Closes.kept (c : Closes t u) : TrackerKept t u := by
  cases c with
  | @close e isOpen m c =>
    refine ⟨⟨_, [{ e with maxE := m, closed := some c }], historyAfter_eq _ _, le_rfl, ?_⟩, by simp⟩
    simp only [List.mem_singleton, forall_eq]
    exact ⟨e, isOpen, by simp, ⟨rfl, rfl⟩, fun _ => ⟨rfl, rfl, rfl⟩⟩

/-- An advance first changes nothing of what is kept. -/
theorem TrackerKept.afterAdvance {v : EpisodeTracker} (k : TrackerKept u v) (a : Advances t u) : TrackerKept t v := by
  obtain ⟨hh, hn, rfl | ⟨e, m, he, hu⟩⟩ := a
  · exact k
  obtain ⟨⟨gone, joined, hv, hj, hr⟩, ho⟩ := k
  refine ⟨⟨gone, joined, hh ▸ hv, hj, fun r hr' => ?_⟩, fun f hf => ?_⟩
  · obtain ⟨e', he', c⟩ := hr r hr'
    obtain rfl := Option.some.inj (hu.symm.trans he')
    exact ⟨e, he, c.closed, c.number, c.entries⟩
  · rcases ho f hf with ⟨e', he', c⟩ | ⟨hnum, hch⟩
    · obtain rfl := Option.some.inj (hu.symm.trans he')
      exact .inl ⟨e, he, c.number, c.entries⟩
    · exact .inr ⟨hnum.trans hn, hch⟩

/-- An advance afterwards changes nothing of what is kept. -/
theorem TrackerKept.beforeAdvance {v : EpisodeTracker} (k : TrackerKept t u) (a : Advances u v) : TrackerKept t v := by
  obtain ⟨hh, hn, rfl | ⟨e, m, he, hu⟩⟩ := a
  · exact k
  obtain ⟨⟨gone, joined, hv, hj, hr⟩, ho⟩ := k
  refine ⟨⟨gone, joined, hh.trans hv, hj, hr⟩, fun f hf => ?_⟩
  obtain rfl := Option.some.inj (hu.symm.trans hf)
  rcases ho e he with ⟨e', he', c⟩ | fresh
  · exact .inl ⟨e', he', c.number, c.entries⟩
  · exact .inr fresh

theorem Advances.kept (a : Advances t u) : TrackerKept t u := (TrackerKept.refl t).beforeAdvance a

end

end Sys2Proof.Machine
end

section
/-! The law of the episodes: every move of the table leaves the tracker alone under the law, and every move of the tracker
keeps what is closed. -/

namespace Sys2Proof.Machine

/-! ### Moves of the tracker -/

/-- What one clock second can do to the tracker (R125 to R130). -/
def Ticks (s : State) (u : EpisodeTracker) : Prop := Opens s u ∨ Advances s.tracker u ∨ Closes s.tracker u

theorem Ticks.refl (s : State) : Ticks s s.tracker := .inr (.inl (.refl _))

theorem State.trackerSecond_ticks (stamp : Stamp) (s : State) : Ticks s (s.trackerSecond stamp).tracker := by
  cases h : s.activitySecond with
  | true => exact (s.trackerSecond_active stamp h).imp_right fun a => .inl a.2
  | false => exact .inr (s.trackerSecond_calm stamp h)

theorem Ticks.kept {s : State} {u : EpisodeTracker} (h : Ticks s u) : TrackerKept s.tracker u := by
  rcases h with o | a | c
  · exact o.kept
  · exact a.kept
  · exact c.kept

@[simp] theorem State.trackerSecond_evaluations (stamp : Stamp) (s : State) :
    (s.trackerSecond stamp).handOffs.evaluations = s.handOffs.evaluations := by
  simp only [State.trackerSecond]
  repeat' split
  all_goals rfl

@[simp] theorem State.takeTrackerTick_evaluations (s : State) :
    s.takeTrackerTick.handOffs.evaluations = s.handOffs.evaluations := by
  unfold State.takeTrackerTick
  split <;> simp

/-- A clock second leaves the law of the episodes standing: an opening takes T as max T (R126). -/
theorem EpisodeLaw.ticks {s t : State} (h : EpisodeLaw s) (k : Ticks s t.tracker) (hl : t.live = s.live)
    (he : t.handOffs.evaluations = s.handOffs.evaluations) : EpisodeLaw t := by
  obtain ⟨law, noted⟩ := episodeLaw_iff.mp h
  have same {e f : Episode} (hn : Noted s e) (hf : f.entries = e.entries) : Noted t f := by
    simpa only [Noted, hl, he, hf] using hn
  rcases k with o | a | c
  · refine episodeLaw_iff.mpr ⟨law.opens o, fun f hf i => .inl ?_⟩
    obtain ⟨stamp, hu⟩ := o.isOpen
    obtain rfl := Option.some.inj (hu.symm.trans hf)
    simp [hl, State.openedEpisode, openingEntry]
  · refine episodeLaw_iff.mpr ⟨law.advances a, fun f hf => ?_⟩
    rcases a.isOpen with hu | ⟨e, m, hs, hu⟩
    · exact same (noted f (hu ▸ hf)) rfl
    · obtain rfl := Option.some.inj (hu.symm.trans hf)
      exact same (noted e hs) rfl
  · refine episodeLaw_iff.mpr ⟨law.closes c, fun f hf => ?_⟩
    generalize t.tracker = u at c hf
    cases c
    cases hf

/-- What is on its way does not matter to it. -/
theorem Ticks.of_setHandOffs {s : State} {g : HandOffs} {u : EpisodeTracker} (h : Ticks (s.setHandOffs g) u) :
    Ticks s u := by
  rcases h with ⟨none_open, history, next, isOpen⟩ | a | c
  · exact .inl ⟨none_open, history, next, isOpen⟩
  · exact .inr (.inl a)
  · exact .inr (.inr c)

theorem State.takeTrackerTick_ticks (s : State) : Ticks s s.takeTrackerTick.tracker := by
  unfold State.takeTrackerTick
  split
  · exact .refl s
  · exact (State.trackerSecond_ticks _ _).of_setHandOffs

theorem State.settleTracker_ticks (s : State) : Ticks s s.settleTracker.tracker := by
  unfold State.settleTracker
  split
  · exact .refl s
  · exact s.takeTrackerTick_ticks

theorem State.settleTracker_evaluations (s : State) :
    s.settleTracker.handOffs.evaluations = s.handOffs.evaluations := by
  unfold State.settleTracker
  split <;> simp

/-- The activity test reads neither the tracker nor what is on its way. -/
theorem State.trackerSecond_activity (stamp : Stamp) (s : State) :
    (s.trackerSecond stamp).activitySecond = s.activitySecond := by
  simp [State.activitySecond]

/-- Two clock seconds at one time: the activity is the same, so that one of the two at least lets all go on. -/
theorem kept_trackerSecond_twice (a b : Stamp) (s : State) :
    TrackerKept s.tracker ((s.trackerSecond a).trackerSecond b).tracker := by
  have second := (s.trackerSecond a).trackerSecond_ticks b
  cases h : s.activitySecond with
  | true =>
    have again := (s.trackerSecond_activity a).trans h
    rcases s.trackerSecond_active a h with o | ⟨-, first⟩
    · rcases (s.trackerSecond a).trackerSecond_active b again with o' | ⟨-, later⟩
      · obtain ⟨stamp, hu⟩ := o.isOpen
        exact absurd o'.none_open (by simp [hu])
      · exact o.kept.beforeAdvance later
    · exact second.kept.afterAdvance first
  | false =>
    rcases s.trackerSecond_calm a h with first | c
    · exact second.kept.afterAdvance first
    · have none_open : (s.trackerSecond a).tracker.openEpisode = none := by
        generalize (s.trackerSecond a).tracker = u at c
        cases c
        rfl
      rw [State.trackerSecond_of_none b none_open ((s.trackerSecond_activity a).trans h)]
      exact c.kept

theorem State.trackerClock_kept (stamp : Stamp) (s : State) :
    TrackerKept s.tracker (s.trackerClock stamp).tracker := by
  simp only [State.trackerClock]
  split
  · exact s.takeTrackerTick_ticks.kept
  · unfold State.takeTrackerTick
    split
    · exact (s.trackerSecond_ticks stamp).kept
    · exact kept_trackerSecond_twice _ stamp (s.setHandOffs { s.handOffs with trackerTick := none })

theorem EpisodeLaw.takeTrackerTick {s : State} (h : EpisodeLaw s) : EpisodeLaw s.takeTrackerTick :=
  h.ticks s.takeTrackerTick_ticks (by simp) (by simp)

theorem EpisodeLaw.trackerClock {s : State} (h : EpisodeLaw s) (stamp : Stamp) : EpisodeLaw (s.trackerClock stamp) := by
  have taken := h.takeTrackerTick
  simp only [State.trackerClock]
  split
  · exact taken.ticks (.refl _) rfl rfl
  · exact taken.ticks (State.trackerSecond_ticks _ _) (by simp) (by simp)

theorem EpisodeLaw.startUp (cause : ResetCause) (rateHigh : Bool) (s : State) : EpisodeLaw (s.startUp cause rateHigh) :=
  episodeLaw_iff.mpr ⟨.initial, by simp [State.startUp, initialTracker]⟩

theorem startUp_kept (cause : ResetCause) (rateHigh : Bool) (s : State) :
    TrackerKept s.tracker (s.startUp cause rateHigh).tracker :=
  ⟨⟨s.tracker.history.length, [], by simp [State.startUp, initialTracker], by simp, by simp⟩,
    by simp [State.startUp, initialTracker]⟩

/-! ### An evaluation reaches the tracker -/

theorem EpisodeTracker.updateEntry_of_none {t : EpisodeTracker} (h : t.openEpisode = none) (i : Fin 16)
    (f : EpisodeEntry → EpisodeEntry) : t.updateEntry i f = t := by
  obtain ⟨o, q, l, n⟩ := t
  subst h
  rfl

/-- The open record with one entry changed. -/
def Episode.withEntry (i : Fin 16) (f : EpisodeEntry → EpisodeEntry) (e : Episode) : Episode :=
  { e with entries := e.entries.set i (f e.entries[i]) }

theorem EpisodeTracker.updateEntry_of_some {t : EpisodeTracker} {e : Episode} (h : t.openEpisode = some e) (i : Fin 16)
    (f : EpisodeEntry → EpisodeEntry) : (t.updateEntry i f).openEpisode = some (e.withEntry i f) := by
  simp [EpisodeTracker.updateEntry, h, Episode.withEntry]

/-- What an evaluation does to an entry: charge, max T and highest level only grow, the charge not past its largest. -/
theorem EpisodeEntry.withEvaluation_grows (h : EvaluationHandOff) {e : EpisodeEntry} (hc : e.charge ≤ 4294967295) :
    e.charge ≤ (e.withEvaluation h).charge ∧ e.maxT ≤ (e.withEvaluation h).maxT
      ∧ e.highest.rank ≤ (e.withEvaluation h).highest.rank := by
  refine ⟨?_, Nat.le_max_left _ _, ?_⟩
  · simp only [EpisodeEntry.withEvaluation, maxCharge]
    split
    · exact le_rfl
    · exact Nat.le_min.mpr ⟨hc, Nat.le_add_right _ _⟩
  · simp only [EpisodeEntry.withEvaluation]
    split
    · rename_i higher
      exact higher.le
    · exact le_rfl

theorem EpisodeEntry.withEvaluation_charge (h : EvaluationHandOff) {e : EpisodeEntry} (hc : e.charge ≤ 4294967295) :
    (e.withEvaluation h).charge ≤ 4294967295 := by
  simp only [EpisodeEntry.withEvaluation, maxCharge]
  split
  · exact hc
  · exact Nat.min_le_left _ _

/-- The open record continues where an evaluation reaches it (R133). -/
theorem continues_withEvaluation {e : Episode} (hc : ∀ i : Fin 16, e.entries[i].charge ≤ 4294967295)
    (h : EvaluationHandOff) : Continues e (e.withEntry h.transformer (EpisodeEntry.withEvaluation h)) := by
  refine ⟨⟨rfl, rfl⟩, fun i => ?_⟩
  simp only [Episode.withEntry, get_set]
  split
  · subst i; exact EpisodeEntry.withEvaluation_grows h (hc _)
  · exact ⟨le_rfl, le_rfl, le_rfl⟩

theorem charge_withEvaluation {e : Episode} (hc : ∀ i : Fin 16, e.entries[i].charge ≤ 4294967295)
    (h : EvaluationHandOff) (i : Fin 16) :
    (e.withEntry h.transformer (EpisodeEntry.withEvaluation h)).entries[i].charge ≤ 4294967295 := by
  simp only [Episode.withEntry, get_set]
  split
  · exact EpisodeEntry.withEvaluation_charge h (hc _)
  · exact hc i

section
variable {s : State} {i : Fin 16} {h : EvaluationHandOff} {rest : List EvaluationHandOff}

/-- The open record says what the hand-off said, once it is taken (R133). -/
theorem noted_handOff (taken : takeFirst (fun g => g.transformer == i) s.handOffs.evaluations = some (h, rest))
    {e : Episode} (noted : Noted s e) {t : State} (hl : t.live = s.live) (he : t.handOffs.evaluations = rest) :
    Noted t (e.withEntry h.transformer (EpisodeEntry.withEvaluation h)) := by
  obtain ⟨before, after, hall, hrest, -, -⟩ := takeFirst_eq_some.mp taken
  have left {g : EvaluationHandOff} (hg : g ∈ s.handOffs.evaluations) : g = h ∨ g ∈ rest := by
    rw [hall, List.mem_append, List.mem_cons] at hg
    rw [hrest, List.mem_append]
    tauto
  have grown : ∀ j : Fin 16,
      e.entries[j].maxT ≤ (e.withEntry h.transformer (EpisodeEntry.withEvaluation h)).entries[j].maxT := fun j => by
    simp only [Episode.withEntry, get_set]
    split
    · subst j; exact Nat.le_max_left _ _
    · exact le_rfl
  intro j
  rw [hl, he]
  rcases noted j with cool | ⟨g, hg, rfl, warm⟩
  · exact .inl (cool.trans (grown j))
  · rcases left hg with rfl | hg
    · refine .inl (warm.trans ?_)
      simp only [Episode.withEntry, get_set_same]
      exact Nat.le_max_right _ _
    · exact .inr ⟨g, hg, rfl, warm⟩

/-- The hand-off taken by an ACTIVE tracker (R133). -/
theorem handOff_active (law : EpisodeLaw s)
    (taken : takeFirst (fun g => g.transformer == i) s.handOffs.evaluations = some (h, rest)) {e : Episode}
    (he : s.tracker.openEpisode = some e) :
    let t := (s.setHandOffs { s.handOffs with evaluations := rest }).takeHandOff h
    EpisodeLaw t ∧ TrackerKept s.tracker t.tracker := by
  obtain ⟨tlaw, noted⟩ := episodeLaw_iff.mp law
  have charge := tlaw.charge e (by simp [he])
  have hu := EpisodeTracker.updateEntry_of_some he h.transformer (EpisodeEntry.withEvaluation h)
  dsimp only
  rw [State.takeHandOff_of_open (s := s.setHandOffs { s.handOffs with evaluations := rest }) h he]
  refine ⟨episodeLaw_iff.mpr ⟨tlaw.reopen he hu rfl rfl rfl rfl (charge_withEvaluation charge h), fun f hf => ?_⟩,
    .of_history rfl fun f hf => .inl ⟨e, he, ?_⟩⟩
  · obtain rfl := Option.some.inj (hu.symm.trans hf)
    exact noted_handOff taken (noted e he) rfl rfl
  · obtain rfl := Option.some.inj (hu.symm.trans hf)
    exact continues_withEvaluation charge h

/-- The hand-off taken by a QUIET tracker, which may open an episode then (R133, R134). -/
theorem handOff_quiet (law : EpisodeLaw s) (he : s.tracker.openEpisode = none) :
    let t := (s.setHandOffs { s.handOffs with evaluations := rest }).takeHandOff h
    EpisodeLaw t ∧ TrackerKept s.tracker t.tracker := by
  obtain ⟨tlaw, -⟩ := episodeLaw_iff.mp law
  have same : (s.setHandOffs { s.handOffs with evaluations := rest }).trackEvaluation h =
      s.setHandOffs { s.handOffs with evaluations := rest } := by
    rw [State.trackEvaluation, State.setHandOffs_tracker, EpisodeTracker.updateEntry_of_none he]
    rfl
  have waiting : EpisodeLaw (s.setHandOffs { s.handOffs with evaluations := rest }) :=
    episodeLaw_iff.mpr ⟨tlaw, fun e hf => by simp [he] at hf⟩
  have ticks := (s.setHandOffs { s.handOffs with evaluations := rest }).settleTracker_ticks
  have settled : (s.setHandOffs { s.handOffs with evaluations := rest }).takeHandOff h =
      (s.setHandOffs { s.handOffs with evaluations := rest }).settleTracker := by
    simp [State.takeHandOff, he, same]
  dsimp only
  rw [settled]
  exact ⟨waiting.ticks ticks (by simp) (State.settleTracker_evaluations _), ticks.of_setHandOffs.kept⟩

end

theorem TrackerMove.episodes {s t : State} (m : TrackerMove s t) (h : EpisodeLaw s) :
    EpisodeLaw t ∧ TrackerKept s.tracker t.tracker := by
  cases m with
  | startUp cause rateHigh => exact ⟨.startUp cause rateHigh s, startUp_kept cause rateHigh s⟩
  | clock stamp => exact ⟨h.trackerClock stamp, s.trackerClock_kept stamp⟩
  | tick => exact ⟨h.takeTrackerTick, s.takeTrackerTick_ticks.kept⟩
  | settle =>
    exact ⟨h.ticks s.settleTracker_ticks (by simp) s.settleTracker_evaluations, s.settleTracker_ticks.kept⟩
  | handOff taken =>
    cases he : s.tracker.openEpisode with
    | none => exact handOff_quiet h he
    | some e => exact handOff_active h taken he
  | @close _ e isOpen =>
    have closes := State.closeEpisodeRecord_closes isOpen e.maxE s.time.now .forced
    exact ⟨h.ticks (.inr (.inr closes)) (by simp) rfl, closes.kept⟩

/-! ### Moves of the table -/

/-- The tracker stands, the evaluations on their way still are, and no transformer is warmer than before but by one of
them. -/
structure Covered (s t : State) : Prop where
  tracker : t.tracker = s.tracker
  evaluations : ∀ h ∈ s.handOffs.evaluations, h ∈ t.handOffs.evaluations
  heat : ∀ i : Fin 16, t.live[i].heat ≤ s.live[i].heat ∨
    ∃ h ∈ t.handOffs.evaluations, h.transformer = i ∧ t.live[i].heat ≤ h.heat

theorem Covered.episodeLaw {s t : State} (c : Covered s t) (h : EpisodeLaw s) : EpisodeLaw t := by
  obtain ⟨law, noted⟩ := episodeLaw_iff.mp h
  refine episodeLaw_iff.mpr ⟨by rw [c.tracker]; exact law, fun e he i => ?_⟩
  rw [c.tracker] at he
  rcases c.heat i with cool | covered
  · rcases noted e he i with low | ⟨g, hg, hi, warm⟩
    · exact .inl (cool.trans low)
    · exact .inr ⟨g, c.evaluations g hg, hi, cool.trans warm⟩
  · exact .inr covered

/-- Nothing on its way to the tracker changes, and of one live part T does not rise. -/
theorem Covered.of_set {s t : State} {i : Fin 16} {l : Live} (hl : t.live = s.live.set i l) (ht : t.tracker = s.tracker)
    (he : t.handOffs.evaluations = s.handOffs.evaluations) (cool : l.heat ≤ s.live[i].heat) : Covered s t := by
  refine ⟨ht, fun g hg => by rw [he]; exact hg, fun j => .inl ?_⟩
  rw [hl, get_set]
  split
  · subst j; exact cool
  · exact le_rfl

theorem Covered.of_heat {s t : State} (hl : ∀ i : Fin 16, t.live[i].heat = s.live[i].heat) (ht : t.tracker = s.tracker)
    (he : t.handOffs.evaluations = s.handOffs.evaluations) : Covered s t :=
  ⟨ht, fun g hg => by rw [he]; exact hg, fun i => .inl (hl i).le⟩

theorem Covered.refl (s : State) : Covered s s := .of_heat (fun _ => rfl) rfl rfl

@[simp] theorem State.reportIf_evaluations (b : Bool) (r : ContactReport) (s : State) :
    (s.reportIf b r).handOffs.evaluations = s.handOffs.evaluations := by
  cases b <;> rfl

theorem State.evaluate_evaluations (i : Fin 16) (ev : Option SecondHandOff) (stamp : Stamp) (s : State) :
    let l := evaluated s.cfg.transformers[i] s.fieldView ev s.live[i]
    (s.evaluate i ev stamp).handOffs.evaluations = s.handOffs.evaluations ++ [⟨i, l.basis, l.level, l.heat, stamp⟩] := by
  simp only [State.evaluate]
  split <;> simp [State.handEvaluation, State.handTrigger, evaluated]

/-- An evaluation says its T to the tracker (R121), so that it covers whatever T rises to. -/
theorem covered_evaluate (i : Fin 16) (ev : Option SecondHandOff) (stamp : Stamp) {s u : State}
    (hu : ∃ l, u.live = s.live.set i l) (ht : u.tracker = s.tracker)
    (he : u.handOffs.evaluations = s.handOffs.evaluations) : Covered s (u.evaluate i ev stamp) := by
  obtain ⟨l, hl⟩ := hu
  refine ⟨by simp [ht], fun g hg => ?_, fun j => ?_⟩
  · rw [State.evaluate_evaluations, he]
    exact List.mem_append_left _ hg
  · rw [State.evaluate_live, State.evaluate_evaluations, get_set]
    split
    · subst j
      exact .inr ⟨_, List.mem_append_right _ (List.mem_singleton.mpr rfl), rfl, le_rfl⟩
    · rename_i other
      rw [hl, get_set_of_ne _ other]
      exact .inl le_rfl

theorem covered_offerLearning (h : SecondHandOff) (s : State) : Covered s (s.offerLearning h) := by
  refine .of_heat (fun i => ?_) (by simp) (by simp)
  rcases s.offerLearning_cases h with ⟨hl, -⟩ | ⟨-, -, _, -, -, o, f, hl, -⟩
  · rw [hl]
  · rw [hl, get_set]
    split
    · subst i; rfl
    · rfl

/-- Cooling does not make T rise (R92). -/
theorem coolingUpdate_le (cfg : Settings) (l : Live) : (coolingUpdate cfg l).heat ≤ l.heat := by
  have := (heatTowards_between cfg l.heat 0).2
  simp only [coolingUpdate]
  omega

/-- A cooling update of a transformer no warmer than the law lets it be does not touch the tracker (R17, R134). -/
theorem State.trackCooling_tracker {s : State} {i : Fin 16} {heat : Nat}
    (h : ∀ e, s.tracker.openEpisode = some e → heat ≤ e.entries[i].maxT ∨
      ∃ g ∈ s.handOffs.evaluations, g.transformer = i ∧ heat ≤ g.heat) : (s.trackCooling i heat).tracker = s.tracker := by
  unfold State.trackCooling
  split
  · rfl
  · rename_i none_ahead
    cases he : s.tracker.openEpisode with
    | none => simp [EpisodeTracker.updateEntry_of_none he]
    | some e =>
      have low : heat ≤ e.entries[i].maxT := by
        rcases h e he with low | ⟨g, hg, hi, warm⟩
        · exact low
        · refine absurd (List.any_eq_true.mpr ⟨g, hg, ?_⟩) none_ahead
          simp [hi, warm]
      have same : ({ e.entries[i] with maxT := max e.entries[i].maxT heat } : EpisodeEntry) = e.entries[i] := by
        rw [Nat.max_eq_left low]
      simp only [State.setTracker_tracker, EpisodeTracker.updateEntry, he, Option.map_some, same, set_get_same]
      rw [← he]

/-- Under the law of the episodes a clock second of a record does not touch the tracker (R17, R134). -/
theorem State.recordSecond_tracker {s : State} (h : EpisodeLaw s) (i : Fin 16) (stamp : Stamp) :
    (s.recordSecond i stamp).tracker = s.tracker := by
  obtain ⟨-, noted⟩ := episodeLaw_iff.mp h
  cases hs : s.live[i].service with
  | off => simp only [State.recordSecond, hs]
  | outOfService =>
    simp only [State.recordSecond, hs]
    have cool := coolingUpdate_le s.cfg.transformers[i] s.live[i]
    refine (State.trackCooling_tracker fun e he => ?_).trans (by simp)
    exact (noted e (by simpa using he) i).imp cool.trans fun ⟨g, hg, hi, warm⟩ => ⟨g, hg, hi, cool.trans warm⟩
  | inService =>
    simp only [State.recordSecond, hs]
    split <;> simp

theorem covered_recordSecond {s : State} (h : EpisodeLaw s) (i : Fin 16) (stamp : Stamp) :
    Covered s (s.recordSecond i stamp) := by
  have tracker := State.recordSecond_tracker h i stamp
  cases hs : s.live[i].service with
  | off =>
    simp only [State.recordSecond, hs]
    exact .refl s
  | outOfService =>
    refine .of_set (s.recordSecond_live i stamp) tracker ?_ ?_
    · simp [State.recordSecond, hs, -Fin.getElem_fin]
    · simp only [secondPassed, hs]
      exact coolingUpdate_le s.cfg.transformers[i] s.live[i]
  | inService =>
    simp only [State.recordSecond, hs]
    split
    · exact covered_evaluate i none stamp ⟨_, State.setLive_live i _ s⟩ rfl rfl
    · exact .of_set (State.setLive_live i _ s) rfl rfl le_rfl

theorem covered_takeSecond (h : SecondHandOff) (s : State) : Covered s (s.takeSecond h) := by
  cases hs : s.live[h.channel].service with
  | off =>
    simp only [State.takeSecond, hs]
    exact .refl s
  | outOfService =>
    simp only [State.takeSecond, hs]
    have learnt := covered_offerLearning h (s.setLive h.channel (s.live[h.channel].keeping h))
    have kept : Covered s (s.setLive h.channel (s.live[h.channel].keeping h)) :=
      .of_set (State.setLive_live _ _ s) rfl rfl le_rfl
    simp only [Live.keeping, hs] at learnt kept
    refine ⟨learnt.tracker.trans kept.tracker, fun g hg => learnt.evaluations g (kept.evaluations g hg), fun i => ?_⟩
    rcases learnt.heat i with cool | covered
    · rcases kept.heat i with cool' | ⟨g, hg, hi, warm⟩
      · exact .inl (cool.trans cool')
      · exact .inr ⟨g, learnt.evaluations g hg, hi, cool.trans warm⟩
    · exact .inr covered
  | inService =>
    simp only [State.takeSecond, hs]
    exact covered_evaluate _ _ _ ⟨_, State.setLive_live _ _ s⟩ rfl rfl

theorem Live.withSettings_heat (before after : Settings) (energised : Bool) (l : Live) :
    (l.withSettings before after energised).heat ≤ l.heat := by
  have offset : (l.withOffset before after).heat = l.heat := by
    unfold Live.withOffset
    split <;> rfl
  have enabled : ((l.withOffset before after).enabled energised).heat = l.heat := by
    cases energised <;> exact offset
  simp only [Live.withSettings]
  split
  · exact Nat.zero_le _
  · exact enabled.le
  · exact offset.le

/-- No service change reaches the evaluations on their way. -/
theorem State.energise_evaluations (i : Fin 16) (s : State) :
    (s.energise i).handOffs.evaluations = s.handOffs.evaluations := by
  unfold State.energise
  split <;> rfl

theorem State.deenergise_evaluations (i : Fin 16) (s : State) :
    (s.deenergise i).handOffs.evaluations = s.handOffs.evaluations := by
  unfold State.deenergise
  split <;> rfl

theorem State.enableTransformer_evaluations (i : Fin 16) (s : State) :
    (s.enableTransformer i).handOffs.evaluations = s.handOffs.evaluations := by
  simp only [State.enableTransformer]
  split <;> rfl

theorem State.offsetAndLearning_evaluations (i : Fin 16) (before after : Settings) (s : State) :
    (s.offsetAndLearning i before after).handOffs.evaluations = s.handOffs.evaluations := by
  simp only [State.offsetAndLearning, State.whenChanged]
  repeat' split
  all_goals rfl

theorem State.settingsEffects_evaluations (i : Fin 16) (before after : Settings) (s : State) :
    (s.settingsEffects i before after).handOffs.evaluations = s.handOffs.evaluations := by
  have first := s.offsetAndLearning_evaluations i before after
  rw [settingsEffects_eq]
  split
  · exact first
  · exact (State.enableTransformer_evaluations i _).trans first
  · exact first

theorem TableMove.covered {s t : State} (m : TableMove s t) (h : EpisodeLaw s) : Covered s t := by
  cases m with
  | quiet q => exact .of_heat (fun i => by rw [q.live]) q.tracker q.evaluations
  | second g => exact covered_takeSecond g s
  | clock i stamp => exact covered_recordSecond h i stamp
  | energise i =>
    rcases s.energise_table i with ⟨-, hl, -⟩ | ⟨-, same⟩
    · exact .of_set hl (by simp) (s.energise_evaluations i) le_rfl
    · rw [same]; exact .refl s
  | deenergise i =>
    rcases s.deenergise_table i with ⟨-, hl, -⟩ | ⟨-, same⟩
    · exact .of_set hl (by simp) (s.deenergise_evaluations i) le_rfl
    · rw [same]; exact .refl s
  | flags moved rest =>
    exact .of_heat (fun i => by rw [(moved i).rest]) rest.tracker rest.evaluations
  | settings i ok =>
    exact .of_set ((s.setSettings i _).settingsEffects_table i _ _).1 (by simp)
      (State.settingsEffects_evaluations _ _ _ _) (Live.withSettings_heat _ _ _ _)
  | configured same => exact .of_heat (fun i => by rw [same.live]) same.tracker same.evaluations

/-- A chain of moves of the table keeps the law and leaves the tracker alone. -/
theorem TableMoves.episodes {s t : State} (m : TableMoves s t) (h : EpisodeLaw s) :
    EpisodeLaw t ∧ t.tracker = s.tracker := by
  induction m with
  | refl => exact ⟨h, rfl⟩
  | tail _ m ih =>
    obtain ⟨law, tracker⟩ := ih
    have c := m.covered law
    exact ⟨c.episodeLaw law, c.tracker.trans tracker⟩

theorem CommandMoves.episodes {s t : State} (m : CommandMoves s t) (h : EpisodeLaw s) :
    EpisodeLaw t ∧ TrackerKept s.tracker t.tracker := by
  cases m with
  | table m =>
    obtain ⟨law, tracker⟩ := m.episodes h
    exact ⟨law, tracker ▸ .refl _⟩
  | tracker before move after =>
    obtain ⟨law, tracker⟩ := before.episodes h
    obtain ⟨law', kept⟩ := move.episodes law
    obtain ⟨law'', tracker'⟩ := after.episodes law'
    exact ⟨law'', tracker' ▸ tracker ▸ kept⟩

/-- Settles O12: a command is a chain of moves of the table, which leave the tracker alone under the law, with at most
one move of the tracker among them. -/
theorem stepKeepsEpisodeLaw : Obligations.StepKeepsEpisodeLaw := fun _ _ h hs => by
  obtain ⟨law, kept⟩ := (step_commandMoves hs).episodes h
  exact ⟨law, episodesKept_iff.mpr kept⟩

end Sys2Proof.Machine
end

section
/-! Inputs and service changes by input (R6, R7, R10, R11), and measured seconds out of service (R15, R49 to R52). -/

namespace Sys2Proof.Machine

/-! ### Debounced inputs -/

@[simp] theorem Inputs.get_put_same (p : Pin) (x : Input) (v : Inputs) : (v.put p x).get p = x := by
  cases p with
  | en i => simp [Inputs.get, Inputs.put]
  | panel => rfl
  | lock => rfl

theorem Inputs.get_put_of_ne {p q : Pin} (h : q ≠ p) (x : Input) (v : Inputs) : (v.put p x).get q = v.get q := by
  cases p with
  | en i =>
    cases q with
    | en j =>
      have other : j ≠ i := fun same => h (by rw [same])
      simp only [Inputs.get, Inputs.put]
      exact get_set_of_ne _ other _
    | panel => rfl
    | lock => rfl
  | panel =>
    cases q with
    | panel => exact absurd rfl h
    | en _ => rfl
    | lock => rfl
  | lock =>
    cases q with
    | lock => exact absurd rfl h
    | en _ => rfl
    | panel => rfl

theorem exec_inputLevelChange (p : Pin) (level : Bool) (now : Nat) (s : State) :
    exec (.inputLevelChange p level now) s =
      .next { s with inputs := s.inputs.put p ((s.inputs.get p).withRaw level now) } := rfl

theorem exec_debounceComplete (p : Pin) (s : State) : exec (.debounceComplete p) s = .next (s.completeHold p) := rfl

theorem State.completeHold_of_none {p : Pin} {s : State} (h : (s.inputs.get p).hold = none) : s.completeHold p = s := by
  simp only [State.completeHold, h]

/-- A hold that completes: the debounced state takes the raw level, and an EN or PANEL change is reported (R6). -/
theorem State.completeHold_of_some {p : Pin} {s : State} (h : (s.inputs.get p).hold ≠ none) :
    s.completeHold p =
      { s with
        inputs := s.inputs.put p ⟨(s.inputs.get p).raw, (s.inputs.get p).raw, none⟩
        handOffs :=
          match p with
          | .en i => { s.handOffs with enReports := s.handOffs.enReports ++ [⟨i, (s.inputs.get p).raw⟩] }
          | .panel => { s.handOffs with panelReports := s.handOffs.panelReports ++ [(s.inputs.get p).raw] }
          | .lock => s.handOffs } := by
  obtain ⟨start, hs⟩ := Option.ne_none_iff_exists'.mp h
  simp only [State.completeHold, hs]
  cases p <;> rfl

/-- Settles O40: each input's record goes by `Inputs.put`, which leaves the others alone. -/
theorem debouncedInputs : Obligations.DebouncedInputs := by
  intro p s
  refine ⟨fun level now => ⟨_, exec_inputLevelChange p level now s, ?_, fun q hq => Inputs.get_put_of_ne hq _ _⟩,
    fun idle => ?_, fun held => ⟨_, ?_, Inputs.get_put_same _ _ _, fun q hq => Inputs.get_put_of_ne hq _ _⟩⟩
  · rw [Inputs.get_put_same]
    rfl
  · rw [exec_debounceComplete, State.completeHold_of_none idle]
  · rw [exec_debounceComplete, State.completeHold_of_some held]
    cases p <;> rfl

/-! ### Hand-offs taken in their order -/

theorem takeFirst_split {α : Type} {p : α → Bool} {l before after : List α} {a : α} (hl : l = before ++ a :: after)
    (ha : p a = true) (hb : ∀ b ∈ before, p b = false) : takeFirst p l = some (a, before ++ after) :=
  takeFirst_eq_some.mpr ⟨before, after, hl, rfl, ha, hb⟩

/-- A transition of transformer `i` is the record of its live part. -/
theorem State.emitTransformer_eq {u : State} {i : Fin 16} {l : Live} (hl : u.live[i].heat = l.heat)
    (hs : u.live[i].suppressed = l.suppressed) (k : TransitionKind) (x d : Option Nat) (t : Stamp) :
    u.emitTransformer i k none x d t = { u with link := u.made [transformerRecord i k x d t l] } := by
  simp only [State.emitTransformer, hl, hs]
  rfl

/-- Neither accumulation nor de-energised time is left (R8, R11). -/
theorem State.clearLearning_clearDeenergisedTime (i : Fin 16) (s : State) :
    (s.clearLearning i).clearDeenergisedTime i = s.setChannel i s.channels[i].restarted := by
  simp [State.clearDeenergisedTime, State.clearLearning, Channel.restarted, State.setChannel, -Fin.getElem_fin]

section
variable {i : Fin 16} {s : State}

theorem State.energise_of_ne (h : s.live[i].service ≠ .outOfService) : s.energise i = s := by
  rcases s.energise_table i with ⟨hs, -⟩ | ⟨-, same⟩
  · exact absurd hs h
  · exact same

theorem State.deenergise_of_ne (h : s.live[i].service ≠ .inService) : s.deenergise i = s := by
  rcases s.deenergise_table i with ⟨hs, -⟩ | ⟨-, same⟩
  · exact absurd hs h
  · exact same

/-- An energising taken OUT_OF_SERVICE (R11). -/
theorem State.energise_outOfService (h : s.live[i].service = .outOfService) :
    s.energise i =
      { s with
        live := s.live.set i { s.live[i] with service := .inService, age := 0 }
        channels := s.channels.set i s.channels[i].restarted
        link := s.made [transformerRecord i .inService none none s.time.now s.live[i]]
        handOffs := { s.handOffs with reports := s.handOffs.reports ++ [.transformer i] } } := by
  simp only [State.energise, h]
  rw [State.clearLearning_clearDeenergisedTime, State.emitTransformer_eq (l := s.live[i]) (by simp) (by simp)]
  rfl

/-- A de-energising taken IN_SERVICE (R10). -/
theorem State.deenergise_inService (h : s.live[i].service = .inService) :
    s.deenergise i =
      { s with
        live := s.live.set i s.live[i].deenergised
        channels := s.channels.set i { s.channels[i] with deenergisedTime := 0 }
        link := s.made [transformerRecord i .outOfService s.live[i].basis none s.time.now s.live[i]]
        handOffs := { s.handOffs with reports := s.handOffs.reports ++ [.transformer i] } } := by
  simp only [State.deenergise, h]
  rw [State.emitTransformer_eq (l := s.live[i]) (by simp [Live.deenergised]) (by simp [Live.deenergised])]
  rfl

/-- The oldest report of an input is taken where it tells of energising (R11). -/
theorem exec_energised {before after : List EnReport} (hr : s.handOffs.enReports = before ++ ⟨i, true⟩ :: after)
    (hb : ∀ r ∈ before, r.transformer ≠ i) :
    exec (.energised i) s = .next ((s.setHandOffs { s.handOffs with enReports := before ++ after }).energise i) := by
  show execEnergised i s = _
  have taken := takeFirst_split (p := fun r : EnReport => r.transformer == i) hr (by simp) (by simpa using hb)
  simp only [execEnergised, taken, if_true]

/-- The oldest report of an input is taken where it tells of de-energising (R10). -/
theorem exec_deenergised {before after : List EnReport} (hr : s.handOffs.enReports = before ++ ⟨i, false⟩ :: after)
    (hb : ∀ r ∈ before, r.transformer ≠ i) :
    exec (.deenergised i) s = .next ((s.setHandOffs { s.handOffs with enReports := before ++ after }).deenergise i) := by
  show execDeenergised i s = _
  have taken := takeFirst_split (p := fun r : EnReport => r.transformer == i) hr (by simp) (by simpa using hb)
  simp only [execDeenergised, taken, if_false, Bool.false_eq_true]

end

/-- Settles O41: each report of either kind, by the service state that takes it. -/
theorem serviceChangesByInput : Obligations.ServiceChangesByInput := by
  intro i level before after s hr hb
  refine ⟨?_, ?_⟩
  · rintro rfl
    rw [exec_energised hr hb]
    exact ⟨fun hs => congrArg _ (State.energise_of_ne (by exact hs)),
      fun hs => congrArg _ (State.energise_outOfService (by exact hs))⟩
  · rintro rfl
    rw [exec_deenergised hr hb]
    exact ⟨fun hs => congrArg _ (State.deenergise_of_ne (by exact hs)),
      fun hs => congrArg _ (State.deenergise_inService (by exact hs))⟩

/-! ### Measured seconds out of service -/

/-- The oldest measured second of a transformer is taken (R15). -/
theorem exec_measuredSecond {h : SecondHandOff} {before after : List SecondHandOff} {s : State}
    (hr : s.handOffs.seconds = before ++ h :: after) (hb : ∀ g ∈ before, g.channel ≠ h.channel) :
    exec (.measuredSecond h.channel) s =
      .next ((s.setHandOffs { s.handOffs with seconds := before ++ after }).takeSecond h) := by
  show execMeasuredSecond h.channel s = _
  have taken := takeFirst_split (p := fun g : SecondHandOff => g.channel == h.channel) hr (by simp) (by simpa using hb)
  simp only [execMeasuredSecond, taken]

/-- The accumulation with one more GOOD second (R50). -/
def Learning.gathered (l : Learning) (h : SecondHandOff) : Learning := ⟨l.seconds + 1, l.sum + h.rawSum, l.codes + h.rawCount⟩

section
variable {h : SecondHandOff} {s : State}

theorem State.takeSecond_off (hs : s.live[h.channel].service = .off) : s.takeSecond h = s := by
  simp only [State.takeSecond, hs]

theorem State.takeSecond_outOfService (hs : s.live[h.channel].service = .outOfService) :
    s.takeSecond h = (s.setLive h.channel (s.live[h.channel].keeping h)).offerLearning h := by
  simp only [State.takeSecond, hs, Live.keeping]

theorem State.offerLearning_of_not
    (hl : s.cfg.transformers[h.channel].learning = false ∨ s.channels[h.channel].deenergisedTime < 60) :
    s.offerLearning h = s := by
  have barred : (s.cfg.transformers[h.channel].learning && decide (60 ≤ s.channels[h.channel].deenergisedTime)) = false := by
    rcases hl with hl | hl
    · simp [hl, -Fin.getElem_fin]
    · simp only [Bool.and_eq_false_iff, decide_eq_false_iff_not]
      omega
  simp only [State.offerLearning, barred, Bool.false_eq_true, if_false]

section
variable (hl : s.cfg.transformers[h.channel].learning = true) (ht : 60 ≤ s.channels[h.channel].deenergisedTime)
include hl ht

theorem State.offerLearning_of_not_good (hq : h.quality ≠ .good) : s.offerLearning h = s.clearLearning h.channel := by
  simp [State.offerLearning, hl, ht, hq, -Fin.getElem_fin]

theorem State.offerLearning_short (hq : h.quality = .good) (hn : s.channels[h.channel].learning.seconds + 1 < 30) :
    s.offerLearning h = s.setChannel h.channel
      { s.channels[h.channel] with learning := s.channels[h.channel].learning.gathered h } := by
  have short : ¬ 30 ≤ s.channels[h.channel].learning.seconds + 1 := by omega
  simp only [State.offerLearning, hl, ht, hq, short, decide_true, Bool.and_self, if_true, if_false, Learning.gathered]

theorem State.offerLearning_complete (hq : h.quality = .good) (hn : s.channels[h.channel].learning.seconds + 1 = 30) :
    s.offerLearning h = s.completeLearning h.channel (s.channels[h.channel].learning.gathered h) := by
  have full : 30 ≤ s.channels[h.channel].learning.seconds + 1 := by omega
  simp only [State.offerLearning, hl, ht, hq, full, decide_true, Bool.and_self, if_true, Learning.gathered]

end
end

section
variable {i : Fin 16} {x : Learning} {s : State}

/-- A learned offset within 256 codes of O_set is accepted (R51). -/
theorem State.completeLearning_accepted (h : (x.offset - s.cfg.transformers[i].offsetSet).natAbs ≤ 256) :
    s.completeLearning i x =
      { s with
        channels := s.channels.set i { s.channels[i] with learning := emptyLearning }
        live := s.live.set i { s.live[i] with offsetEff := x.offset, offsetFault := false }
        link := if s.live[i].offsetEff = x.offset ∧ s.live[i].offsetFault = false then s.link
          else s.made [transformerRecord i .offsetLearned none none s.time.now s.live[i]] } := by
  have changes : (s.live[i].offsetEff ≠ x.offset ∨ s.live[i].offsetFault = true) ↔
      ¬ (s.live[i].offsetEff = x.offset ∧ s.live[i].offsetFault = false) := by
    rw [not_and_or, Bool.not_eq_false]
  simp only [State.completeLearning, if_pos h]
  by_cases seen : s.live[i].offsetEff = x.offset ∧ s.live[i].offsetFault = false
  · rw [if_pos seen, if_neg (fun c => changes.mp c seen)]
    rfl
  · rw [if_neg seen, if_pos (changes.mpr seen), State.emitTransformer_eq (l := s.live[i]) (by simp) (by simp)]
    rfl

/-- A learned offset further from O_set is rejected (R52). -/
theorem State.completeLearning_rejected (h : 256 < (x.offset - s.cfg.transformers[i].offsetSet).natAbs) :
    s.completeLearning i x =
      { s with
        channels := s.channels.set i { s.channels[i] with learning := emptyLearning }
        live := s.live.set i { s.live[i] with offsetFault := true }
        link := if s.live[i].offsetFault then s.link
          else s.made [transformerRecord i .offsetFault none none s.time.now s.live[i]] } := by
  simp only [State.completeLearning, if_neg (Nat.not_le.mpr h)]
  split
  · rfl
  · rw [State.emitTransformer_eq (l := s.live[i]) (by simp) (by simp)]
    rfl

end

/-- Settles O26: a second taken, and what offset learning does with it. -/
theorem secondsOutOfService : Obligations.SecondsOutOfService := by
  refine ⟨fun h before after s hr hb => ?_, fun h before after s hr hb => ?_⟩
  · dsimp only
    rw [exec_measuredSecond hr hb]
    refine ⟨fun off => congrArg _ (State.takeSecond_off (by exact off)), fun out barred => congrArg _ ?_⟩
    rw [State.takeSecond_outOfService (by exact out), State.offerLearning_of_not (by exact barred)]
    rfl
  · intro i l c kept taken emptied learned setBy out learning stood
    let base := (s.setHandOffs { s.handOffs with seconds := before ++ after }).setLive i kept
    have offered : exec (.measuredSecond i) s = .next (base.offerLearning h) := by
      rw [exec_measuredSecond hr hb, State.takeSecond_outOfService (by exact out)]
      rfl
    have live : base.live[i] = kept := get_set_same s.live i kept
    have again (x : Live) : base.live.set i x = s.live.set i x := by simp [base]
    have offset : (c.learning.gathered h).offset = learned := rfl
    rw [offered]
    refine ⟨fun poor => ?_, fun good short => ?_, fun good full => ⟨fun near => ?_, fun far => ?_⟩⟩
    · rw [State.offerLearning_of_not_good (s := base) learning stood poor]
      rfl
    · rw [State.offerLearning_short (s := base) learning stood good short]
      rfl
    · rw [State.offerLearning_complete (s := base) learning stood good full]
      refine congrArg _ ((State.completeLearning_accepted (i := i) (x := c.learning.gathered h) (s := base) ?_).trans ?_)
      · rw [offset]; exact near
      · rw [live, again, offset]
        rfl
    · rw [State.offerLearning_complete (s := base) learning stood good full]
      refine congrArg _ ((State.completeLearning_rejected (i := i) (x := c.learning.gathered h) (s := base) ?_).trans ?_)
      · rw [offset]; exact far
      · rw [live, again]
        rfl

end Sys2Proof.Machine
end

section
/-! Evaluations (R15, R16, R119 to R121), and what a record does with a clock second (R15, R17, R48, R82, R134). -/

namespace Sys2Proof.Machine

/-! ### Transitions made one after another -/

theorem State.made_append (a b : List Transition) (u : State) :
    ({ u with link := u.made a } : State).made b = u.made (a ++ b) := (List.foldl_append).symm

/-- Transitions of one transformer made one after another, in which `kind` and `levels` alone differ. -/
theorem State.emitTransformer_foldl {α : Type} (kind : α → TransitionKind) (levels : α → Option (Level × Level))
    (i : Fin 16) (x : Option Nat) (t : Stamp) (events : List α) {u : State} {l : Live} (hl : u.live[i] = l) :
    events.foldl (fun v e => v.emitTransformer i (kind e) (levels e) x none t) u =
      { u with
        link := u.made (events.map fun e => ⟨t, some i, kind e, levels e, x, some l.heat, none, l.suppressed⟩) } := by
  subst hl
  induction events generalizing u with
  | nil => rfl
  | cons e rest ih =>
    rw [List.foldl_cons, ih]
    rfl

theorem State.emitStageOne_eq {u : State} {i : Fin 16} {l : Live} (hl : u.live[i] = l) (kinds : List TransitionKind)
    (x : Option Nat) (t : Stamp) :
    u.emitStageOne i kinds x t = { u with link := u.made (kinds.map fun k => transformerRecord i k x none t l) } :=
  State.emitTransformer_foldl id (fun _ => none) i x t kinds hl

theorem State.emitStageThree_eq {u : State} {i : Fin 16} {l : Live} (hl : u.live[i] = l)
    (events : List (TransitionKind × Option (Level × Level))) (x : Option Nat) (t : Stamp) :
    u.emitStageThree i events x t =
      { u with link := u.made (events.map fun e => ⟨t, some i, e.1, e.2, x, some l.heat, none, l.suppressed⟩) } :=
  State.emitTransformer_foldl Prod.fst Prod.snd i x t events hl

/-! ### One evaluation -/

theorem contactsChanged_eq_false {before after : Live} : contactsChanged before after = false ↔
    before.level = after.level ∧ before.unacknowledged = after.unacknowledged ∧ before.doubt = after.doubt
      ∧ before.lost = after.lost := by
  simp only [contactsChanged, Bool.or_eq_false_iff, bne_eq_false_iff_eq, and_assoc]

/-- What an evaluation puts on its way (R119 to R121), where the live part was `before` and stages 2 and 3 leave `l₂` and
`l₃`. -/
def HandOffs.evaluated (cfg : Settings) (i : Fin 16) (stamp : Stamp) (before l₂ l₃ : Live) (h : HandOffs) : HandOffs :=
  { h with
    triggers := if raiseTriggers cfg l₂ l₃ then h.triggers ++ [⟨i, stamp, cfg.capturePre, cfg.capturePost⟩] else h.triggers
    evaluations := h.evaluations ++ [⟨i, l₃.basis, l₃.level, l₃.heat, stamp⟩]
    reports := if before.level = l₃.level ∧ before.unacknowledged = l₃.unacknowledged ∧ before.doubt = l₃.doubt
        ∧ before.lost = l₃.lost then h.reports else h.reports ++ [.transformer i] }

/-- The state after an evaluation (R16) of a record whose live part is `l₀`, in the state `u` otherwise. -/
def State.afterEvaluation (i : Fin 16) (ev : Option SecondHandOff) (stamp : Stamp) (l₀ : Live) (u : State) : State :=
  let cfg := u.cfg.transformers[i]
  let l₁ := basisSelection cfg u.fieldView ev l₀
  let l₂ := heatingUpdate cfg l₁
  let l₃ := levelEvaluation cfg l₂
  { u with
    live := u.live.set i l₃
    link := u.made (evaluationRecords cfg i stamp ev l₀ l₁ l₂ l₃)
    handOffs := u.handOffs.evaluated cfg i stamp l₀ l₂ l₃ }

/-- What ends an evaluation: trigger, hand-off and report (R119 to R121). -/
theorem State.handOffs_evaluated (cfg : Settings) (i : Fin 16) (stamp : Stamp) (before l₂ l₃ : Live) (u : State) :
    ((if raiseTriggers cfg l₂ l₃ then u.handTrigger cfg i stamp else u).handEvaluation i l₃ stamp).reportIf
        (contactsChanged before l₃) (.transformer i) =
      u.setHandOffs (u.handOffs.evaluated cfg i stamp before l₂ l₃) := by
  simp only [HandOffs.evaluated, ← contactsChanged_eq_false]
  cases raiseTriggers cfg l₂ l₃ <;> cases contactsChanged before l₃ <;> rfl

theorem State.evaluate_setLive (i : Fin 16) (ev : Option SecondHandOff) (stamp : Stamp) (l₀ : Live) (u : State) :
    (u.setLive i l₀).evaluate i ev stamp = u.afterEvaluation i ev stamp l₀ := by
  have live : (u.setLive i l₀).live[i] = l₀ := get_set_same u.live i l₀
  have again (x y : Live) : (u.setLive i x).setLive i y = u.setLive i y := by simp [State.setLive]
  have view : (u.setLive i l₀).fieldView = u.fieldView := rfl
  simp only [State.evaluate, live, view, State.setLive_cfg, again]
  rw [State.emitStageOne_eq (get_set_same _ i _), State.emitStageThree_eq (get_set_same _ i _), State.handOffs_evaluated]
  simp only [State.afterEvaluation, evaluationRecords, ← State.made_append, State.setLive, Vector.set_set]
  rfl

/-! ### The clock second of a record -/

section
variable {i : Fin 16} {s : State}

theorem State.takeSecond_inService {h : SecondHandOff} (hs : s.live[h.channel].service = .inService) :
    s.takeSecond h = s.afterEvaluation h.channel (some h) s.time.now { s.live[h.channel].keeping h with age := 0 } := by
  simp only [State.takeSecond, hs, ← State.evaluate_setLive, Live.keeping]

theorem State.recordSecond_off (hs : s.live[i].service = .off) (stamp : Stamp) : s.recordSecond i stamp = s := by
  simp only [State.recordSecond, hs]

/-- A stand-in second (R82): the age has risen to 3 or more. -/
theorem State.recordSecond_standsIn (hs : s.live[i].service = .inService) (ha : 2 ≤ s.live[i].age) (stamp : Stamp) :
    s.recordSecond i stamp =
      s.afterEvaluation i none stamp { s.live[i] with age := min 65535 (s.live[i].age + 1) } := by
  have aged : 3 ≤ satSucc 65535 s.live[i].age := by
    simp only [satSucc]
    omega
  have standsIn : s.live[i].standsIn = true := by simp [Live.standsIn, hs, aged, -Fin.getElem_fin]
  simp only [State.recordSecond, hs, standsIn, if_true, ← State.evaluate_setLive, satSucc]

/-- No stand-in second is needed (R15): the age rises. -/
theorem State.recordSecond_young (hs : s.live[i].service = .inService) (ha : s.live[i].age < 2) (stamp : Stamp) :
    s.recordSecond i stamp = { s with live := s.live.set i { s.live[i] with age := s.live[i].age + 1 } } := by
  have age : satSucc 65535 s.live[i].age = s.live[i].age + 1 := by
    simp only [satSucc]
    omega
  have young : s.live[i].standsIn = false := by
    simp only [Live.standsIn, age, Bool.and_eq_false_iff, decide_eq_false_iff_not]
    omega
  simp only [State.recordSecond, hs, young, Bool.false_eq_true, if_false, age]
  rfl

/-- A cooling update comes to the tracker (R134), but where an evaluation on its way says no less. -/
theorem State.trackCooling_eq (i : Fin 16) (heat : Nat) (u : State) :
    u.trackCooling i heat =
      { u with
        tracker := if ∃ h ∈ u.handOffs.evaluations, h.transformer = i ∧ heat ≤ h.heat then u.tracker
          else { u.tracker with openEpisode := u.tracker.openEpisode.map fun e => { e with
            entries := e.entries.set i { e.entries[i] with maxT := max e.entries[i].maxT heat } } } } := by
  have ahead : (u.handOffs.evaluations.any fun h => h.transformer == i && decide (heat ≤ h.heat)) = true ↔
      ∃ h ∈ u.handOffs.evaluations, h.transformer = i ∧ heat ≤ h.heat := by
    simp [List.any_eq_true]
  unfold State.trackCooling
  by_cases said : ∃ h ∈ u.handOffs.evaluations, h.transformer = i ∧ heat ≤ h.heat
  · rw [if_pos (ahead.mpr said), if_pos said]
  · rw [if_neg (fun any => said (ahead.mp any)), if_neg said]
    rfl

/-- A clock second out of service (R17, R48, R134). -/
theorem State.recordSecond_outOfService (hs : s.live[i].service = .outOfService) (stamp : Stamp) :
    s.recordSecond i stamp =
      State.trackCooling i (heatTowards s.cfg.transformers[i] s.live[i].heat 0)
        { s with
          live := s.live.set i { s.live[i] with
            steady := 0, heat := heatTowards s.cfg.transformers[i] s.live[i].heat 0 }
          channels := s.channels.set i { s.channels[i] with
            deenergisedTime := min 65535 (s.channels[i].deenergisedTime + 1) } } := by
  simp only [State.recordSecond, hs, coolingUpdate, satSucc]
  rfl

/-- The clock second that waits for a record is taken at STAND_IN_SECOND, and then those that waited for it. -/
theorem exec_standInSecond {stamp : Stamp} (h : s.handOffs.recordTicks[i] = some stamp) :
    exec (.standInSecond i) s = .next (State.settleClock (State.recordSecond i stamp
      (s.setHandOffs { s.handOffs with recordTicks := s.handOffs.recordTicks.set i none }))) := by
  show execStandInSecond i s = _
  simp only [execStandInSecond, h, Option.isSome_some, if_true, State.takeRecordTick]

end

/-- Settles O27: an evaluation of a live part (`State.evaluate_setLive`), and a record's clock second by its service state. -/
theorem evaluationOfTransformer : Obligations.EvaluationOfTransformer := by
  refine ⟨fun i s hs => ⟨?_, fun stamp old => ⟨?_, fun waits => ?_⟩⟩, fun i stamp s => ⟨fun waits => ?_, ?_, ?_, ?_, ?_⟩⟩
  · rintro m before after rfl hr hb
    rw [exec_measuredSecond hr hb]
    exact congrArg _ (State.takeSecond_inService (by exact hs))
  · exact State.recordSecond_standsIn hs old stamp
  · have stoodIn := State.recordSecond_standsIn
      (s := s.setHandOffs { s.handOffs with recordTicks := s.handOffs.recordTicks.set i none }) (i := i) hs old stamp
    have taken := exec_standInSecond waits
    rw [stoodIn] at taken
    refine ⟨taken, fun noField noTracker => taken.trans (congrArg _ ?_)⟩
    exact State.settleClock_of_none (by exact noField) (by exact noTracker)
  · exact exec_standInSecond waits
  · exact fun hs young => State.recordSecond_young hs young stamp
  · intro hs
    rw [State.recordSecond_outOfService hs, State.trackCooling_eq]
  · exact fun law => State.recordSecond_tracker law i stamp
  · exact fun hs => State.recordSecond_off hs stamp

end Sys2Proof.Machine
end

section
/-! Reads (R12 to R14, R33, R69, R70, R135, R136, R151, R152, R167, R178, R179, R183), and numbers that name nothing. -/

namespace Sys2Proof.Machine

/-! ### Requests taken -/

section
variable {c : Instr} {k : Byte} {n : Nat} {f : Request → State → State} {r : Request} {s : State}

theorem lengthOk_of_takes (h : s.Takes k r) (hk : bodyLength k.toNat = some n) (hl : r.body.length = n) :
    lengthOk r = true := by
  obtain ⟨-, -, -, kind⟩ := h
  simp [lengthOk, kind, hk, hl]

/-- A request with the body its kind has is given to the kind's rule (R169, R170). -/
theorem exec_of_takes (row : exec c s = .next (s.serveRequest k f)) (h : s.Takes k r)
    (hk : bodyLength k.toNat = some n) (hl : r.body.length = n) :
    exec c s = .next (f r { s with link := { s.link with restart := .disarmed } }) := by
  rw [row, serveRequest_of_takes h (lengthOk_of_takes h hk hl), disarm_eq h.2.1]

/-- A request whose rule does no more than answer. -/
theorem exec_replies (row : exec c s = .next (s.serveRequest k f)) (h : s.Takes k r)
    (hk : bodyLength k.toNat = some n) (hl : r.body.length = n) {status : Status} {body : List Byte}
    (answers : f r { s with link := { s.link with restart := .disarmed } } =
      State.answer r status body { s with link := { s.link with restart := .disarmed } }) :
    exec c s = .next (s.replied r status body) := by
  rw [exec_of_takes row h hk hl, answers]
  rfl

end

/-! ### Numbers in bodies -/

theorem u8_cons_zero (b : Byte) (body : List Byte) : u8 (b :: body) 0 = b.toNat := rfl

theorem u8_ofNat {n : Nat} (h : n < 256) (body : List Byte) : u8 (BitVec.ofNat 8 n :: body) 0 = n := by
  rw [u8_cons_zero, BitVec.toNat_ofNat, Nat.mod_eq_of_lt h]

@[simp] theorem transformerOf_val (i : Fin 16) : transformerOf i.val = some i := by simp [transformerOf]

theorem transformerOf_eq_none {n : Nat} (h : 16 ≤ n) : transformerOf n = none := by
  simp [transformerOf, Nat.not_lt.mpr h]

theorem contactOf_succ (k : Fin 4) : contactOf (k.val + 1) = some k := by
  have : k.val + 1 ≤ 4 := k.isLt
  simp [contactOf, this]

theorem contactOf_eq_none {n : Nat} (h : n = 0 ∨ 4 < n) : contactOf n = none := by
  simp only [contactOf]
  rw [dif_neg (by omega)]

theorem converterNumber_eq_none {n : Nat} (h : 4 < n) : converterNumber n = none := by
  simp only [converterNumber]
  rw [dif_neg (by omega)]

/-- OK or CLAMPED, where a count can only have been brought down. -/
theorem okOr_count {n count : Nat} (h : n ≤ count) :
    okOr (n != count) = if n < count then Status.clamped else .ok := by
  rcases Nat.lt_or_eq_of_le h with less | rfl
  · simp [okOr, less, less.ne]
  · simp [okOr]

/-! ### What reads name -/

theorem State.identityBody_eq (s : State) :
    s.identityBody = [0x4D, 0x4B, 0x21, 0x60, 0x01, BitVec.ofNat 8 s.cause.code, BitVec.ofNat 8 s.source.code,
      if s.inputs.lock.debounced then 1 else 0] := by
  simp [State.identityBody, beBytes, flagByte, Config.vendorCode, Config.partCode, Config.revision]

/-- A selector of 0 names the open episode or else the newest closed one (R135). -/
theorem EpisodeTracker.named_zero {t : EpisodeTracker} {e : Episode}
    (h : t.openEpisode = some e ∨ t.openEpisode = none ∧ t.history.getLast? = some e) : t.named 0 = some e := by
  rcases h with h | ⟨none_open, newest⟩
  · simp [EpisodeTracker.named, h]
  · simp [EpisodeTracker.named, none_open, newest]

/-- Another selector names the episode of that number (R135). -/
theorem EpisodeTracker.named_number {t : EpisodeTracker} {n : Nat} (hn : n ≠ 0) {e : Episode} (he : e.number = n)
    {before after : List Episode} (hl : t.openEpisode.toList ++ t.history = before ++ e :: after)
    (hb : ∀ f ∈ before, f.number ≠ n) : t.named n = some e := by
  rw [EpisodeTracker.named, if_neg hn, hl]
  exact List.find?_eq_some_iff_append.mpr ⟨by simp [he], before, after, rfl, by simpa using hb⟩

/-- A selector that names no episode the part holds. -/
theorem EpisodeTracker.named_eq_none {t : EpisodeTracker} {n : Nat}
    (h : n = 0 ∧ t.openEpisode = none ∧ t.history = [] ∨
      n ≠ 0 ∧ ∀ e ∈ t.openEpisode.toList ++ t.history, e.number ≠ n) : t.named n = none := by
  rcases h with ⟨rfl, none_open, empty⟩ | ⟨hn, other⟩
  · simp [EpisodeTracker.named, none_open, empty]
  · rw [EpisodeTracker.named, if_neg hn]
    exact List.find?_eq_none.mpr (by simpa using other)

theorem CaptureUnit.recordOf_eq_none {u : CaptureUnit} {n : Nat} (h : ∀ q ∈ u.records, q.number ≠ n) :
    u.recordOf n = none := List.find?_eq_none.mpr (by simpa using h)

theorem CaptureUnit.recordOf_number {u : CaptureUnit} {c : CaptureRecord} {older newer : List CaptureRecord}
    (hl : u.records = older ++ c :: newer) (ho : ∀ q ∈ older, q.number ≠ c.number) : u.recordOf c.number = some c := by
  rw [CaptureUnit.recordOf, hl]
  exact List.find?_eq_some_iff_append.mpr ⟨by simp, older, newer, rfl, by simpa using ho⟩

section
variable {r : Request} {s : State}

theorem withTransformer_val {n : Nat} {i : Fin 16} (h : n = i.val) (f : Fin 16 → State → State) :
    s.withTransformer n r f = f i s := by
  subst h
  simp [State.withTransformer]

theorem withTransformer_none {n : Nat} (h : 16 ≤ n) (f : Fin 16 → State → State) :
    s.withTransformer n r f = s.answer r .notFound [] := by
  simp [State.withTransformer, transformerOf_eq_none h]

theorem handleReadSettings_val {i : Fin 16} (h : u8 r.body 0 = i.val) :
    handleReadSettings r s = s.answer r .ok s.cfg.transformers[i].bytes := withTransformer_val h _

theorem handleReadLive_val {i : Fin 16} (h : u8 r.body 0 = i.val) :
    handleReadLive r s = s.answer r .ok (s.time.now.bytes ++ s.live[i].bytes) := withTransformer_val h _

theorem handleReadSnapshot_of_some {p : Snapshot} (h : s.snapshots = some p) {i : Fin 16}
    (hi : u8 r.body 0 = i.val) : handleReadSnapshot r s = s.answer r .ok (p.stamp.bytes ++ p.copies[i].bytes) := by
  simp only [handleReadSnapshot, h]
  exact withTransformer_val hi _

theorem handleReadSnapshot_of_none (h : s.snapshots = none ∨ 16 ≤ u8 r.body 0) :
    handleReadSnapshot r s = s.answer r .notFound [] := by
  simp only [handleReadSnapshot]
  split
  · rfl
  · rename_i p held
    exact withTransformer_none (h.resolve_left (by simp [held])) _

theorem handleReadField_within (h : u8 r.body 0 ≤ 63) :
    handleReadField r s = s.answer r
      (if min (u8 r.body 1) (min 32 (64 - u8 r.body 0)) < u8 r.body 1 then .clamped else .ok)
      (s.fieldBody (u8 r.body 0) (min (u8 r.body 1) (min 32 (64 - u8 r.body 0)))) := by
  simp only [handleReadField, fieldCount]
  rw [if_neg (Nat.not_lt.mpr h), okOr_count (Nat.min_le_left _ _)]

theorem handleReadField_beyond (h : 63 < u8 r.body 0) : handleReadField r s = s.answer r .notFound [] := by
  simp only [handleReadField, h, if_true]

theorem handleReadMap_of_some {k : Fin 4} (h : contactOf (u8 r.body 0) = some k) :
    handleReadMap r s = s.answer r .ok (s.contactBody k) := by
  simp only [handleReadMap, h]

theorem handleReadMap_of_none (h : contactOf (u8 r.body 0) = none) : handleReadMap r s = s.answer r .notFound [] := by
  simp only [handleReadMap, h]

theorem handleReadEpisode_of_some {e : Episode} (h : s.tracker.named (u16 r.body 0) = some e) :
    handleReadEpisode r s = s.answer r .ok (s.episodeBody e) := by
  simp only [handleReadEpisode, h]

theorem handleReadEpisode_of_none (h : s.tracker.named (u16 r.body 0) = none) :
    handleReadEpisode r s = s.answer r .notFound [] := by
  simp only [handleReadEpisode, h]

theorem handleReadEntry_of_some {e : Episode} (h : s.tracker.named (u16 r.body 0) = some e) {i : Fin 16}
    (hi : u8 r.body 2 = i.val) : handleReadEntry r s = s.answer r .ok (e.entryBody i) := by
  simp only [handleReadEntry, h, hi, transformerOf_val]

theorem handleReadEntry_of_none (h : s.tracker.named (u16 r.body 0) = none ∨ 16 ≤ u8 r.body 2) :
    handleReadEntry r s = s.answer r .notFound [] := by
  simp only [handleReadEntry]
  split
  · rename_i e i named number
    rcases h with h | h
    · rw [h] at named; cases named
    · rw [transformerOf_eq_none h] at number; cases number
  · rfl

theorem handleListCaptures_zero (h : r.body = [0]) : handleListCaptures r s = s.answer r .ok s.capture.listBytes := by
  simp [handleListCaptures, h, u8]

theorem handleListCaptures_one (h : r.body = [1]) :
    handleListCaptures r s = s.answer r .ok s.capture.pendingBytes := by
  simp [handleListCaptures, h, u8]

theorem handleListCaptures_other (h : 1 < u8 r.body 0) : handleListCaptures r s = s.answer r .notFound [] := by
  simp only [handleListCaptures]
  rw [if_neg (by omega), if_neg (by omega)]

theorem handleReadSamples_named {c : CaptureRecord} (h : s.capture.recordOf (u8 r.body 0) = some c)
    (ho : u16 r.body 1 ≤ c.length) :
    handleReadSamples r s = s.answer r
      (if min (min (u8 r.body 3) 100) (c.length - u16 r.body 1) < u8 r.body 3 then .clamped else .ok)
      (s.capture.sampleBytes c (u16 r.body 1) (min (min (u8 r.body 3) 100) (c.length - u16 r.body 1))) := by
  have le : min (min (u8 r.body 3) 100) (c.length - u16 r.body 1) ≤ u8 r.body 3 := by omega
  simp only [handleReadSamples, h, Option.filter_some, ho, decide_true, if_true, sampleCount, okOr_count le]

end

/-- What a selector of R135 names. -/
theorem EpisodeTracker.named_of {t : EpisodeTracker} {n : Nat} {e : Episode}
    (h : (n = 0 ∧ (t.openEpisode = some e ∨ t.openEpisode = none ∧ t.history.getLast? = some e)) ∨
      (n ≠ 0 ∧ e.number = n ∧ ∃ before after : List Episode,
        t.openEpisode.toList ++ t.history = before ++ e :: after ∧ ∀ f ∈ before, f.number ≠ e.number)) :
    t.named n = some e := by
  rcases h with ⟨rfl, h⟩ | ⟨hn, rfl, before, after, hl, hb⟩
  · exact EpisodeTracker.named_zero h
  · exact EpisodeTracker.named_number hn rfl hl hb

/-- Settles O51: the rule of each read answers from the state as it stands. -/
theorem readsAnswerAndChangeNothing : Obligations.ReadsAnswerAndChangeNothing := by
  intro r s
  have number {n : Nat} (hn : n < 256) {body : List Byte} (hb : r.body = BitVec.ofNat 8 n :: body) : u8 r.body 0 = n := by
    rw [hb, u8_ofNat hn]
  refine ⟨fun h hb => ?_, fun h hb => ?_, fun h hb => ?_, fun i hb => ?_, fun h hb => ?_, fun h hl hf => ?_,
    fun k hb h => ?_, fun e he => ?_, fun h => ?_, fun c older newer hc ho h hl hn hoff => ?_, fun h hb => ?_⟩
  · refine exec_replies (f := handleIdentify) rfl h (n := 0) (by rfl) (by simp [hb]) ?_
    rw [← s.identityBody_eq]
    rfl
  · exact exec_replies (f := handleReadClock) rfl h (n := 0) (by rfl) (by simp [hb]) rfl
  · exact exec_replies (f := handleReadDevice) rfl h (n := 0) (by rfl) (by simp [hb]) rfl
  · have hi := number (by omega) hb
    have one : r.body.length = 1 := by simp [hb]
    refine ⟨fun h => ?_, fun h => ?_, fun p hp h => ?_⟩
    · exact exec_replies (f := handleReadSettings) rfl h (by rfl) one (handleReadSettings_val hi)
    · exact exec_replies (f := handleReadLive) rfl h (by rfl) one (handleReadLive_val hi)
    · exact exec_replies (f := handleReadSnapshot) rfl h (by rfl) one (handleReadSnapshot_of_some (by exact hp) hi)
  · exact exec_replies (f := handleReadResponse) rfl h (n := 0) (by rfl) (by simp [hb]) rfl
  · exact exec_replies (f := handleReadField) rfl h (by rfl) hl (handleReadField_within hf)
  · have hk : contactOf (u8 r.body 0) = some k := by rw [number (by omega) hb, contactOf_succ]
    exact exec_replies (f := handleReadMap) rfl h (n := 1) (by rfl) (by simp [hb]) (handleReadMap_of_some hk)
  · have named := EpisodeTracker.named_of he
    refine ⟨fun h hl => ?_, fun i h hl hi => ?_⟩
    · exact exec_replies (f := handleReadEpisode) rfl h (by rfl) hl (handleReadEpisode_of_some (by exact named))
    · exact exec_replies (f := handleReadEntry) rfl h (by rfl) hl (handleReadEntry_of_some (by exact named) hi)
  · refine ⟨fun hb => ?_, fun hb => ?_⟩
    · exact exec_replies (f := handleListCaptures) rfl h (n := 1) (by rfl) (by simp [hb]) (handleListCaptures_zero hb)
    · exact exec_replies (f := handleListCaptures) rfl h (n := 1) (by rfl) (by simp [hb]) (handleListCaptures_one hb)
  · have held : s.capture.recordOf (u8 r.body 0) = some c := by rw [hn, CaptureUnit.recordOf_number hc ho]
    exact exec_replies (f := handleReadSamples) rfl h (by rfl) hl (handleReadSamples_named (by exact held) hoff)
  · rw [exec_of_takes (f := handleReadIntake) rfl h (n := 0) (by rfl) (by simp [hb])]
    rfl

/-! ### Numbers that name nothing -/

section
variable {r : Request} {s : State}

theorem handleExtendCapture_of_none (h : s.capture.recordOf (u8 r.body 0) = none) :
    handleExtendCapture r s = s.answer r .notFound [] := by
  simp only [handleExtendCapture, h]

theorem handleRelease_of_none (h : s.capture.recordOf (u8 r.body 0) = none) :
    handleRelease r s = s.answer r .notFound [] := by
  simp only [handleRelease, h]

theorem handleClearFault_of_none (h : 4 < u8 r.body 0) : handleClearFault r s = s.answer r .notFound [] := by
  simp only [handleClearFault, converterNumber_eq_none h]

/-- A number of no capture, or codes from beyond the record's end (R152). -/
theorem handleReadSamples_of_none
    (h : ∀ q ∈ s.capture.records, q.number = u8 r.body 0 → q.length < u16 r.body 1) :
    handleReadSamples r s = s.answer r .notFound [] := by
  have beyond : ((s.capture.recordOf (u8 r.body 0)).filter fun a => decide (u16 r.body 1 ≤ a.length)) = none := by
    refine Option.filter_eq_none_iff.mpr fun a ha => ?_
    have held := List.mem_of_find?_eq_some ha
    have number := List.find?_some ha
    simp only [beq_iff_eq] at number
    simpa using h a held number
  simp only [handleReadSamples, beyond]

theorem State.settingsBar_of_free (hl : s.inputs.lock.debounced = false) (hs : s.store.save = none) :
    s.settingsBar = none := by
  simp [State.settingsBar, State.lockAsserted, State.saving, hl, hs]

theorem handleWriteSettings_of_free (hl : s.inputs.lock.debounced = false) (hs : s.store.save = none) :
    handleWriteSettings r s = s.withTransformer (u8 r.body 0) r fun i u => u.writeSettings i r := by
  simp only [handleWriteSettings, State.settingsBar_of_free hl hs]

end

/-- Settles O52: each rule looks its number up first. -/
theorem unknownNumbersNotFound : Obligations.UnknownNumbersNotFound := by
  intro r s n noEpisode notFound
  refine ⟨fun hl => ?_, fun hl => ?_, fun hl => ?_, fun hl hn hlock hsave h => ?_, fun hl hn h => ?_⟩
  · refine ⟨fun hn => ⟨fun h => ?_, fun h => ?_, fun h => ?_⟩, fun hn h => ?_, fun hn h => ?_, fun hn h => ?_,
      fun hn h => ?_, fun hn h => ?_⟩
    · exact exec_replies (f := handleReadSettings) rfl h (by rfl) hl (withTransformer_none hn _)
    · exact exec_replies (f := handleReadLive) rfl h (by rfl) hl (withTransformer_none hn _)
    · exact exec_replies (f := handleReadSnapshot) rfl h (by rfl) hl (handleReadSnapshot_of_none (.inr hn))
    · exact exec_replies (f := handleReadSnapshot) rfl h (by rfl) hl (handleReadSnapshot_of_none (.inl hn))
    · exact exec_replies (f := handleReadMap) rfl h (by rfl) hl (handleReadMap_of_none (contactOf_eq_none hn))
    · exact exec_replies (f := handleListCaptures) rfl h (by rfl) hl (handleListCaptures_other hn)
    · exact exec_replies (f := handleClearFault) rfl h (by rfl) hl (handleClearFault_of_none hn)
    · exact exec_replies (f := handleRelease) rfl h (by rfl) hl
        (handleRelease_of_none (CaptureUnit.recordOf_eq_none (by exact hn)))
  · refine ⟨fun hn h => ?_, fun hn h => ?_, fun hn h => ?_⟩
    · exact exec_replies (f := handleReadField) rfl h (by rfl) hl (handleReadField_beyond hn)
    · exact exec_replies (f := handleExtendCapture) rfl h (by rfl) hl
        (handleExtendCapture_of_none (CaptureUnit.recordOf_eq_none (by exact hn)))
    · exact exec_replies (f := handleReadEpisode) rfl h (by rfl) hl
        (handleReadEpisode_of_none (EpisodeTracker.named_eq_none (by exact hn)))
  · refine ⟨fun hn h => ?_, fun hn h => ?_⟩
    · exact exec_replies (f := handleCaptureNow) rfl h (by rfl) hl (withTransformer_none hn _)
    · exact exec_replies (f := handleReadEntry) rfl h (by rfl) hl
        (handleReadEntry_of_none (hn.imp_left fun none_named => EpisodeTracker.named_eq_none (by exact none_named)))
  · exact exec_replies (f := handleWriteSettings) rfl h (by rfl) hl
      ((handleWriteSettings_of_free (by exact hlock) (by exact hsave)).trans (withTransformer_none hn _))
  · exact exec_replies (f := handleReadSamples) rfl h (by rfl) hl (handleReadSamples_of_none (by exact hn))

end Sys2Proof.Machine
end

section
/-! Snapshot, Clear Converter Fault and Close Episode (R13, R30, R132). -/

namespace Sys2Proof.Machine

/-- `s` with the restart disarmed, as a request other than Restart leaves it (R182). -/
def State.unarmed (s : State) : State := { s with link := { s.link with restart := .disarmed } }

/-- Transitions are made alike whether a restart is armed or not. -/
theorem State.unarmed_made (ts : List Transition) (s : State) :
    s.unarmed.made ts = { s.made ts with restart := .disarmed } := by
  have foldl (m : CategorySet) (l : MessageLink) :
      ts.foldl (fun l t => l.withTransition m t) { l with restart := .disarmed } =
        { ts.foldl (fun l t => l.withTransition m t) l with restart := .disarmed } := by
    induction ts generalizing l with
    | nil => rfl
    | cons t rest ih => exact ih (l.withTransition m t)
  exact foldl s.cfg.device.noticeMask s.link

/-- A reply in a state with the restart disarmed. -/
theorem State.unarmed_answer (s : State) (r : Request) (status : Status) (body : List Byte) :
    s.unarmed.answer r status body = s.replied r status body := rfl

section
variable {r : Request} {s : State}

theorem converterNumber_val (c : Fin 5) : converterNumber c.val = some c := by simp [converterNumber]

theorem handleClearFault_faulted {c : Fin 5} (hc : u8 r.body 0 = c.val) {ref : Byte}
    (h : s.intake.converters[c].state = .faulted ref) :
    handleClearFault r s = ((s.setConverter c { s.intake.converters[c] with state := .locked ref }).report
      (.converter c)).answer r .ok [] := by
  have changes : (ConverterState.faulted ref).isFaulted != (ConverterState.locked ref).isFaulted := rfl
  simp only [handleClearFault, hc, converterNumber_val, State.setConverterState, State.converter, h, changes,
    State.reportIf, if_true]

theorem handleClearFault_wrongState {c : Fin 5} (hc : u8 r.body 0 = c.val)
    (h : ∀ ref, s.intake.converters[c].state ≠ .faulted ref) :
    handleClearFault r s = s.answer r .wrongState [] := by
  simp only [handleClearFault, hc, converterNumber_val, State.converter]

theorem handleCloseEpisode_of_none (h : s.tracker.openEpisode = none) :
    handleCloseEpisode r s = s.answer r .wrongState [] := by
  simp only [handleCloseEpisode, h]

theorem handleCloseEpisode_of_some {e : Episode} (h : s.tracker.openEpisode = some e) :
    handleCloseEpisode r s = (s.closeEpisodeRecord e s.time.now .forced).answer r .ok (beBytes 2 e.number) := by
  simp only [handleCloseEpisode, h]

end

/-- A full history drops its oldest record (R130). -/
theorem historyAfter_eq_held (l : List Episode) (e : Episode) :
    historyAfter l e = (l ++ [e]).drop ((l ++ [e]).length - 8) := by
  rw [historyAfter_eq, List.length_append, List.length_singleton, Nat.add_sub_add_right]

theorem State.closeEpisodeRecord_eq (e : Episode) (stamp : Stamp) (why : CloseCause) (s : State) :
    s.closeEpisodeRecord e stamp why =
      { s with
        tracker := { s.tracker with
          openEpisode := none, quietTimer := 0,
          history := historyAfter s.tracker.history { e with closed := some (stamp, why) } }
        link := s.made [deviceRecord .episodeClose (some e.number) stamp]
        handOffs := { s.handOffs with reports := s.handOffs.reports ++ [.tracker] } } := rfl

/-- Settles O58: the rule of each of the three requests, in the state with the restart disarmed. -/
theorem snapshotClearAndClose : Obligations.SnapshotClearAndClose := by
  intro r s
  refine ⟨fun h hb => ?_, fun c hb h => ?_, fun h hb => ⟨fun none_open => ?_, fun e he => ?_⟩⟩
  · exact exec_of_takes (f := handleSnapshot) rfl h (n := 0) (by rfl) (by simp [hb])
  · have hc : u8 r.body 0 = c.val := by rw [hb, u8_ofNat (by omega)]
    refine ⟨fun ref faulted => ?_, fun other => ?_⟩
    · rw [exec_of_takes (f := handleClearFault) rfl h (n := 1) (by rfl) (by simp [hb]),
        handleClearFault_faulted hc (by exact faulted)]
      rfl
    · exact exec_replies (f := handleClearFault) rfl h (n := 1) (by rfl) (by simp [hb])
        (handleClearFault_wrongState hc (by exact other))
  · exact exec_replies (f := handleCloseEpisode) rfl h (n := 0) (by rfl) (by simp [hb])
      (handleCloseEpisode_of_none (by exact none_open))
  · rw [exec_of_takes (f := handleCloseEpisode) rfl h (n := 0) (by rfl) (by simp [hb]),
      handleCloseEpisode_of_some (by exact he), State.closeEpisodeRecord_eq, historyAfter_eq_held]
    rfl

end Sys2Proof.Machine
end

section
/-! Write Transformer Settings (R2, R3, R7 to R9). -/

namespace Sys2Proof.Machine

/-! ### The record sent, and the orders it may break -/

theorem yesOf_eq (n : Nat) : yesOf n = decide (n ≠ 0) := by
  by_cases h : n = 0 <;> simp [yesOf, h]

theorem okOr_bne (a b : List Byte) : okOr (a != b) = if a = b then Status.ok else .clamped := by
  by_cases h : a = b <;> simp [okOr, h]

section
variable {c : Settings}

theorem Settings.thresholdsOk_iff : c.thresholdsOk = true ↔ c.iWatch < c.iWarn ∧ c.iWarn < c.iAlarm := by
  simp [Settings.thresholdsOk]

theorem Settings.thermalOk_iff : c.thermalOk = true ↔ c.tWarn < c.tAlarm := by
  simp [Settings.thermalOk]

theorem Settings.pointsOk_iff : pointsOk c.breakpoints.toList = true ↔
    ∀ k : Fin 7, c.breakpoints[k.val].x < c.breakpoints[k.val + 1].x ∧
      c.breakpoints[k.val].r ≤ c.breakpoints[k.val + 1].r := by
  rw [Machine.pointsOk_iff]
  simp only [Vector.getElem_toList, Vector.length_toList]
  exact ⟨fun h k => h k.val (by omega), fun h k hk => h ⟨k, by omega⟩⟩

theorem Settings.violation_thresholds (h : ¬ (c.iWatch < c.iWarn ∧ c.iWarn < c.iAlarm)) :
    c.violation = some .thresholds := by
  have broken : c.thresholdsOk = false := by rwa [← Bool.not_eq_true, Settings.thresholdsOk_iff]
  simp [Settings.violation, broken]

theorem Settings.violation_breakpoints (ht : c.iWatch < c.iWarn ∧ c.iWarn < c.iAlarm)
    (h : ¬ ∀ k : Fin 7, c.breakpoints[k.val].x < c.breakpoints[k.val + 1].x ∧
      c.breakpoints[k.val].r ≤ c.breakpoints[k.val + 1].r) : c.violation = some .breakpoints := by
  have broken : pointsOk c.breakpoints.toList = false := by rwa [← Bool.not_eq_true, Settings.pointsOk_iff]
  simp [Settings.violation, Settings.thresholdsOk_iff.mpr ht, broken]

section
variable (ht : c.iWatch < c.iWarn ∧ c.iWarn < c.iAlarm)
  (hp : ∀ k : Fin 7, c.breakpoints[k.val].x < c.breakpoints[k.val + 1].x ∧
    c.breakpoints[k.val].r ≤ c.breakpoints[k.val + 1].r)
include ht hp

theorem Settings.violation_thermal (h : c.tAlarm ≤ c.tWarn) : c.violation = some .thermal := by
  have broken : c.thermalOk = false := by
    rw [← Bool.not_eq_true, Settings.thermalOk_iff]
    omega
  simp [Settings.violation, Settings.thresholdsOk_iff.mpr ht, Settings.pointsOk_iff.mpr hp, broken]

theorem Settings.violation_none (h : c.tWarn < c.tAlarm) : c.violation = none :=
  violation_eq_none.mpr ⟨Settings.thresholdsOk_iff.mpr ht, Settings.pointsOk_iff.mpr hp, Settings.thermalOk_iff.mpr h⟩

end
end

/-! ### What a record taken does at once -/

section
variable (i : Fin 16) (before after : Settings) (s : State)

theorem State.setLive_self : s.setLive i s.live[i] = s := by simp [State.setLive]

theorem State.setChannel_self : s.setChannel i s.channels[i] = s := by simp [State.setChannel]

theorem State.whenChanged_offsetWritten :
    s.whenChanged (before.offsetSet != after.offsetSet) (State.offsetWritten i after) =
      s.setLive i (s.live[i].withOffset before after) := by
  by_cases same : before.offsetSet = after.offsetSet
  · simp [State.whenChanged, Live.withOffset, same, State.setLive_self, -Fin.getElem_fin]
  · simp [State.whenChanged, Live.withOffset, same, State.offsetWritten, -Fin.getElem_fin]

theorem State.whenChanged_clearLearning :
    s.whenChanged (before.learning && !after.learning) (State.clearLearning i) =
      s.setChannel i (s.channels[i].withLearning before after) := by
  cases hb : before.learning <;> cases ha : after.learning <;>
    simp [State.whenChanged, Channel.withLearning, hb, ha, State.setChannel_self, State.clearLearning, -Fin.getElem_fin]

theorem State.offsetAndLearning_eq :
    s.offsetAndLearning i before after =
      { s with
        live := s.live.set i (s.live[i].withOffset before after)
        channels := s.channels.set i (s.channels[i].withLearning before after) } := by
  rw [State.offsetAndLearning, State.whenChanged_offsetWritten, State.whenChanged_clearLearning]
  rfl

theorem State.disableTransformer_eq :
    s.disableTransformer i =
      { s with
        live := s.live.set i s.live[i].disabled
        channels := s.channels.set i s.channels[i].restarted
        handOffs := { s.handOffs with
          reports := s.handOffs.reports ++ [.transformer i], disables := s.handOffs.disables ++ [i] } } := by
  simp only [State.disableTransformer]
  rw [State.clearLearning_clearDeenergisedTime]
  rfl

theorem State.enableTransformer_eq :
    s.enableTransformer i =
      { s with
        live := s.live.set i (s.live[i].enabled (s.enTaken i))
        channels := s.channels.set i { s.channels[i] with deenergisedTime := 0 }
        link := s.made [transformerRecord i (if s.enTaken i then .inService else .outOfService) none none s.time.now
          s.live[i]]
        handOffs := { s.handOffs with reports := s.handOffs.reports ++ [.transformer i] } } := by
  cases h : s.enTaken i with
  | true =>
    simp only [State.enableTransformer, h, if_true]
    rw [State.emitTransformer_eq (l := s.live[i]) (by simp) (by simp)]
    rfl
  | false =>
    simp only [State.enableTransformer, h, Bool.false_eq_true, if_false]
    rw [State.emitTransformer_eq (l := s.live[i]) (by simp) (by simp)]
    rfl

end

section
variable {i : Fin 16} {before after : Settings} {s : State}

/-- A write that leaves enabled as it was (R3). -/
theorem State.settingsEffects_kept (h : after.enabled = before.enabled) :
    s.settingsEffects i before after =
      { s with
        live := s.live.set i (s.live[i].withOffset before after)
        channels := s.channels.set i (s.channels[i].withLearning before after) } := by
  rw [settingsEffects_eq, ← State.offsetAndLearning_eq, h]
  cases before.enabled <;> rfl

/-- A write that disables (R8). -/
theorem State.settingsEffects_disable (hb : before.enabled = true) (ha : after.enabled = false) :
    s.settingsEffects i before after =
      { s with
        live := s.live.set i (s.live[i].withOffset before after).disabled
        channels := s.channels.set i s.channels[i].restarted
        handOffs := { s.handOffs with
          reports := s.handOffs.reports ++ [.transformer i], disables := s.handOffs.disables ++ [i] } } := by
  simp only [settingsEffects_eq, hb, ha]
  rw [State.disableTransformer_eq, State.offsetAndLearning_eq]
  simp only [get_set_same, Vector.set_set, Channel.withLearning_restarted]

/-- A write that enables (R9). -/
theorem State.settingsEffects_enable (hb : before.enabled = false) (ha : after.enabled = true) :
    s.settingsEffects i before after =
      { s with
        live := s.live.set i ((s.live[i].withOffset before after).enabled (s.enTaken i))
        channels := s.channels.set i { s.channels[i].withLearning before after with deenergisedTime := 0 }
        link := s.made [transformerRecord i (if s.enTaken i then .inService else .outOfService) none none s.time.now
          (s.live[i].withOffset before after)]
        handOffs := { s.handOffs with reports := s.handOffs.reports ++ [.transformer i] } } := by
  have same : (s.offsetAndLearning i before after).enTaken i = s.enTaken i :=
    (s.offsetAndLearning_table i before after).2.2 i
  simp only [settingsEffects_eq, hb, ha]
  rw [State.enableTransformer_eq, same, State.offsetAndLearning_eq]
  simp only [get_set_same, Vector.set_set]
  rfl

/-- The input's state as the table has taken it: before the first change of it that still waits (R7). -/
theorem State.enTaken_eq_getD (i : Fin 16) (s : State) :
    s.enTaken i = ((s.handOffs.enReports.find? fun e => e.transformer = i).map fun e => !e.level).getD
      s.inputs.en[i].debounced := by
  have same : (fun e : EnReport => e.transformer == i) = fun e => decide (e.transformer = i) := rfl
  simp only [State.enTaken, same]
  cases s.handOffs.enReports.find? fun e => decide (e.transformer = i) <;> rfl

end

/-! ### The effects, whether a restart is armed or not -/

theorem State.offsetAndLearning_unarmed (i : Fin 16) (before after : Settings) (s : State) :
    s.unarmed.offsetAndLearning i before after = (s.offsetAndLearning i before after).unarmed := by
  rw [State.offsetAndLearning_eq, State.offsetAndLearning_eq]
  rfl

theorem State.enableTransformer_unarmed (i : Fin 16) (s : State) :
    s.unarmed.enableTransformer i = (s.enableTransformer i).unarmed := by
  rw [State.enableTransformer_eq, State.enableTransformer_eq, State.unarmed_made]
  rfl

theorem State.settingsEffects_unarmed (i : Fin 16) (before after : Settings) (s : State) :
    s.unarmed.settingsEffects i before after = (s.settingsEffects i before after).unarmed := by
  simp only [settingsEffects_eq, State.offsetAndLearning_unarmed]
  split
  · rfl
  · exact State.enableTransformer_unarmed i _
  · rfl

/-! ### The write -/

section
variable {i : Fin 16} {r : Request} {s : State} (h : s.Takes 0x07 r) (hl : r.body.length = 81) (hi : u8 r.body 0 = i.val)
  (hlock : s.inputs.lock.debounced = false) (hsave : s.store.save = none)
include h hl hi hlock hsave

theorem exec_writeTransformerSettings : exec .writeTransformerSettings s = .next (s.unarmed.writeSettings i r) := by
  rw [exec_of_takes (f := handleWriteSettings) rfl h (n := 81) (by rfl) hl,
    handleWriteSettings_of_free (by exact hlock) (by exact hsave), withTransformer_val hi]
  rfl

/-- A record that breaks an order is refused (R2). -/
theorem exec_writeTransformerSettings_refused {v : Violation} (hv : (settingsOf (r.body.drop 1)).violation = some v) :
    exec .writeTransformerSettings s =
      .next (s.replied r .refused (s.cfg.transformers[i].bytes ++ [BitVec.ofNat 8 v.code])) := by
  rw [exec_writeTransformerSettings h hl hi hlock hsave]
  simp only [State.writeSettings, hv]
  cases v <;> rfl

/-- A record in order is taken (R2). -/
theorem exec_writeTransformerSettings_taken (hv : (settingsOf (r.body.drop 1)).violation = none) :
    let c := settingsOf (r.body.drop 1)
    exec .writeTransformerSettings s =
      .next (((s.setSettings i c).settingsEffects i s.cfg.transformers[i] c).replied r
        (if c.bytes = r.body.drop 1 then .ok else .clamped) c.bytes) := by
  have settings : s.unarmed.cfg.transformers[i] = s.cfg.transformers[i] := rfl
  have stored (c : Settings) : s.unarmed.setSettings i c = (s.setSettings i c).unarmed := rfl
  rw [exec_writeTransformerSettings h hl hi hlock hsave]
  simp only [State.writeSettings, hv, okOr_bne, stored, settings, State.settingsEffects_unarmed, State.unarmed_answer]

end

/-- Settles O53: a record that breaks an order is refused, one in order is stored, and then `State.settingsEffects` goes by the
change of enabled. -/
theorem writeTransformerSettingsTaken : Obligations.WriteTransformerSettingsTaken := by
  refine ⟨fun sent => ?_, fun i r s h hl hi hlock hsave => ?_⟩
  · simp only [settingsOf, yesOf_eq]
    rfl
  · intro sent c old thresholds points
    have refused {v : Violation} := exec_writeTransformerSettings_refused h hl hi hlock hsave (v := v)
    refine ⟨fun ht => refused (v := .thresholds) (Settings.violation_thresholds ht),
      fun ht hp => refused (v := .breakpoints) (Settings.violation_breakpoints ht hp),
      fun ht hp hT => refused (v := .thermal) (Settings.violation_thermal ht hp hT), fun ht hp hT => ?_⟩
    intro status l ch stored told
    have offset : s.live[i].withOffset old c = l := by
      simp only [Live.withOffset, l, eq_comm]
    have learning : s.channels[i].withLearning old c = ch := by
      simp only [Channel.withLearning, ch, Bool.not_eq_true]
      rfl
    rw [exec_writeTransformerSettings_taken h hl hi hlock hsave (Settings.violation_none ht hp hT)]
    refine ⟨fun kept => ?_, fun was off => ?_, fun was on => ?_⟩
    · rw [State.settingsEffects_kept kept, ← offset, ← learning]
      rfl
    · rw [State.settingsEffects_disable was off, ← offset]
      rfl
    · intro waiting into
      have taken : (s.setSettings i c).enTaken i = into := s.enTaken_eq_getD i
      rw [State.settingsEffects_enable was on, taken, ← offset, ← learning]
      rfl

end Sys2Proof.Machine
end

section
/-! What a change of one of the device settings does at once (R46, R6, R147, R162, R165, R176). -/

namespace Sys2Proof.Machine

/-! ### Outputs driven and lamp judged -/

theorem driverFollows_driverOn (p : PanelState) (m : ContactMap) (c : Contact) :
    DriverFollows p m { c with driver := driverOn m.sense (outputInAlarm p m c.state) } where
  energise := fun h => by simp [driverOn, h, outputInAlarm]
  deenergise := fun h => by
    simp only [driverOn, h, outputInAlarm, Bool.not_eq_true', Bool.or_eq_false_iff, bne_eq_false_iff_eq,
      Bool.and_eq_false_iff, beq_eq_false_iff_ne, ne_eq]

/-- The transformers that light the lamp (R163). -/
theorem Live.lightsLamp_iff {l : Live} : l.lightsLamp = true ↔ l.service = .inService ∧ l.level.owed = true := by
  simp [Live.lightsLamp]

theorem State.lampState_test {s : State} : s.lampState = .test ↔ s.driver.panel = .test := by
  unfold State.lampState
  by_cases test : s.driver.panel = .test
  · simp [test]
  · cases allSixteen.any fun i => s.live[i].lightsLamp && s.live[i].unacknowledged <;>
      cases allSixteen.any fun i => s.live[i].lightsLamp <;> simp [test]

theorem State.lampState_flashing {s : State} : s.lampState = .flashing ↔ s.driver.panel ≠ .test ∧
    ∃ i : Fin 16, s.live[i].service = .inService ∧ s.live[i].level.owed = true ∧ s.live[i].unacknowledged = true := by
  have flashes : (allSixteen.any fun i => s.live[i].lightsLamp && s.live[i].unacknowledged) = true ↔
      ∃ i : Fin 16, s.live[i].service = .inService ∧ s.live[i].level.owed = true ∧ s.live[i].unacknowledged = true := by
    simp only [any_allSixteen, Bool.and_eq_true, Live.lightsLamp_iff, and_assoc]
  rw [← flashes]
  unfold State.lampState
  by_cases test : s.driver.panel = .test
  · simp [test]
  · cases allSixteen.any fun i => s.live[i].lightsLamp && s.live[i].unacknowledged <;>
      cases allSixteen.any fun i => s.live[i].lightsLamp <;> simp [test]

theorem State.lampState_steady {s : State} : s.lampState = .steady ↔ s.driver.panel ≠ .test ∧
    (∃ i : Fin 16, s.live[i].service = .inService ∧ s.live[i].level.owed = true) ∧
    ∀ i : Fin 16, s.live[i].service = .inService → s.live[i].level.owed = true →
      s.live[i].unacknowledged = false := by
  have lit : (allSixteen.any fun i => s.live[i].lightsLamp) = true ↔
      ∃ i : Fin 16, s.live[i].service = .inService ∧ s.live[i].level.owed = true := by
    simp only [any_allSixteen, Live.lightsLamp_iff]
  have flashless : (allSixteen.any fun i => s.live[i].lightsLamp && s.live[i].unacknowledged) = false ↔
      ∀ i : Fin 16, s.live[i].service = .inService → s.live[i].level.owed = true → s.live[i].unacknowledged = false := by
    rw [← Bool.not_eq_true]
    simp only [any_allSixteen, Bool.and_eq_true, Live.lightsLamp_iff, not_exists, not_and, Bool.not_eq_true, and_imp]
  rw [← lit, ← flashless]
  unfold State.lampState
  by_cases test : s.driver.panel = .test
  · simp [test]
  · cases allSixteen.any fun i => s.live[i].lightsLamp && s.live[i].unacknowledged <;>
      cases allSixteen.any fun i => s.live[i].lightsLamp <;> simp [test]

theorem driven_driveOutputs (s : State) : Driven s.driveOutputs where
  outputs := fun k => by
    have contact : s.driveOutputs.driver.contacts[k] = { s.driver.contacts[k] with
        driver := driverOn s.cfg.maps[k].sense
          (outputInAlarm s.driver.panel s.cfg.maps[k] s.driver.contacts[k].state) } := get_ofFn _ k
    rw [contact]
    exact driverFollows_driverOn s.driver.panel s.cfg.maps[k] s.driver.contacts[k]
  test := s.lampState_test
  flashing := s.lampState_flashing
  steady := s.lampState_steady

/-- The panel enters a state (R164, R165). -/
theorem panelMoved_setPanel (p : PanelState) (timer : Bool) (s : State) : PanelMoved p timer s (s.setPanel p timer) where
  panel := ⟨rfl, rfl⟩
  contacts := fun k => by simp [State.setPanel, State.driveOutputs]
  driven := driven_driveOutputs _
  rest := rfl

/-! ### An abandon notice for every channel -/

theorem State.serve_eq (s : State) : s.serve = s.setCapture s.serve.capture := by
  unfold State.serve
  split
  · rfl
  · split <;> rfl

/-- Serving reads the Capture Unit and the rings alone. -/
theorem State.serve_capture_congr {s t : State} (hc : t.capture = s.capture) (hch : t.channels = s.channels) :
    t.serve.capture = s.serve.capture := by
  simp only [State.serve, hc]
  split
  · exact hc
  · split
    · simp only [State.startCapture, State.setCapture_capture, State.setCapture_channels, hch]
    · exact hc

theorem State.abandonChannels_all (s : State) :
    s.abandonChannels (fun _ => true) = { s with channels := s.emptied fun _ => True } := by
  simp [State.abandonChannels, State.emptied, Channel.abandoned, emptyBlock, emptySecond]

/-- Of the records, the one that is active becomes another one; those that are DONE stay. -/
theorem CaptureUnit.updateActive_split {u : CaptureUnit} {older newer : List CaptureRecord} {a : CaptureRecord}
    (hr : u.records = older ++ a :: newer) (done : ∀ q ∈ older ++ newer, q.state = .done) (active : a.state ≠ .done)
    (f : CaptureRecord → CaptureRecord) : u.updateActive f = { u with records := older ++ f a :: newer } := by
  have still {l : List CaptureRecord} (hl : ∀ q ∈ l, q.state = .done) :
      l.map (fun q => if q.active then f q else q) = l := by
    have same : ∀ q ∈ l, (if q.active then f q else q) = id q := fun q hq => by simp [CaptureRecord.active, hl q hq]
    rw [List.map_congr_left same, List.map_id]
  have isActive : a.active = true := by simp [CaptureRecord.active, active]
  have older_still := still fun q hq => done q (List.mem_append_left _ hq)
  have newer_still := still fun q hq => done q (List.mem_append_right _ hq)
  simp only [CaptureUnit.updateActive, hr, List.map_append, List.map_cons, older_still, newer_still, isActive, if_true]

theorem CaptureUnit.activeRecord_split {u : CaptureUnit} {older newer : List CaptureRecord} {a : CaptureRecord}
    (hr : u.records = older ++ a :: newer) (done : ∀ q ∈ older ++ newer, q.state = .done) (active : a.state ≠ .done) :
    u.activeRecord = some a := by
  rw [CaptureUnit.activeRecord, hr]
  refine List.find?_eq_some_iff_append.mpr ⟨by simp [CaptureRecord.active, active], older, newer, rfl, fun q hq => ?_⟩
  simp [CaptureRecord.active, done q (List.mem_append_left _ hq)]

/-- What an abandon of every channel leaves (R46, R145, R147). -/
theorem State.abandon_all_of_none {s : State} (h : s.capture.activeRecord = none) :
    s.abandon (fun _ => true) = { s with channels := s.emptied fun _ => True } := by
  rw [State.abandon, State.abandonChannels_all]
  simp only [State.captureNotice, h]

/-- All partial work gone, and the active capture DONE and truncated (R46, R147). -/
def State.cutShort (s : State) : State :=
  { s with
    channels := s.emptied fun _ => True
    capture := s.capture.updateActive fun q => { q with state := .done, truncated := true } }

theorem State.abandon_all_of_some {s : State} {a : CaptureRecord} (h : s.capture.activeRecord = some a) :
    s.abandon (fun _ => true) =
      { s with
        channels := s.emptied fun _ => True
        capture := s.cutShort.serve.capture
        link := s.made [transformerRecord a.channel .captureDone none (some a.number) s.time.now s.live[a.channel]] } := by
  have ended : s.abandon (fun _ => true) =
      (s.cutShort.emitTransformer a.channel .captureDone none none (some a.number) s.time.now).serve := by
    rw [State.abandon, State.abandonChannels_all]
    simp only [State.captureNotice, h, if_true, State.endCapture]
    rfl
  let link := s.made [transformerRecord a.channel .captureDone none (some a.number) s.time.now s.live[a.channel]]
  have served : State.capture (State.serve { s.cutShort with link := link }) = s.cutShort.serve.capture :=
    State.serve_capture_congr rfl rfl
  rw [ended, State.emitTransformer_eq (u := s.cutShort) (l := s.live[a.channel]) rfl rfl, State.serve_eq]
  exact congrArg (fun u : CaptureUnit => { s.cutShort with capture := u, link := link }) served

/-- An abandon of every channel is the notice that the Capture Unit takes (R46, R147). -/
theorem State.abandon_all (s : State) : ∃ (u : CaptureUnit) (ts : List Transition), NoticeTaken (fun _ => True) s u ts ∧
    s.abandon (fun _ => true) =
      { s with capture := u, channels := s.emptied fun _ => True, link := s.made ts } := by
  cases h : s.capture.activeRecord with
  | none =>
    refine ⟨s.capture, [], ⟨fun _ => ⟨rfl, rfl⟩, fun older newer a hr done active _ => ?_⟩, s.abandon_all_of_none h⟩
    rw [CaptureUnit.activeRecord_split hr done active] at h
    cases h
  | some a =>
    refine ⟨_, _, ⟨fun spared => ?_, fun older newer b hr done active _ => ?_⟩, s.abandon_all_of_some h⟩
    · exact absurd trivial (spared a (List.mem_of_find?_eq_some h) (List.find?_some h))
    · rw [CaptureUnit.activeRecord_split hr done active] at h
      cases h
      rw [State.cutShort, CaptureUnit.updateActive_split hr done active]
      exact ⟨rfl, rfl⟩

/-! ### Holds that have lasted a new debounce time -/

/-- The hold of an input has lasted `debounce` at `now` (R6). -/
def Inputs.lasted (debounce now : Nat) (v : Inputs) (p : Pin) : Bool :=
  (v.get p).hold.any fun start => decide (debounce ≤ now - start)

/-- The inputs among `pins` whose hold has lasted are debounced at their raw level; the others stand. -/
def Inputs.debouncedAt (debounce now : Nat) (pins : List Pin) (v : Inputs) (p : Pin) : Input :=
  if p ∈ pins ∧ v.lasted debounce now p = true then ⟨(v.get p).raw, (v.get p).raw, none⟩ else v.get p

/-- The EN change that a completed hold of an input reports. -/
def Inputs.enReport (debounce now : Nat) (v : Inputs) : Pin → List EnReport
  | .en i => if v.lasted debounce now (.en i) then [⟨i, v.en[i].raw⟩] else []
  | _ => []

/-- The PANEL change that a completed hold of an input reports. -/
def Inputs.panelReport (debounce now : Nat) (v : Inputs) : Pin → List Bool
  | .panel => if v.lasted debounce now .panel then [v.panel.raw] else []
  | _ => []

/-- One input of a new debounce time (R6). -/
def State.debounceOne (now : Nat) (u : State) (p : Pin) : State :=
  match (u.inputs.get p).hold with
  | some start => if u.cfg.device.debounce ≤ now - start then u.completeHold p else u
  | none => u

theorem State.debounceWritten_eq_foldl (now : Nat) (s : State) :
    s.debounceWritten now = allPins.foldl (State.debounceOne now) s := rfl

theorem State.debounceOne_eq (now : Nat) (u : State) (p : Pin) :
    u.debounceOne now p =
      { u with
        inputs := if u.inputs.lasted u.cfg.device.debounce now p then
          u.inputs.put p ⟨(u.inputs.get p).raw, (u.inputs.get p).raw, none⟩ else u.inputs
        handOffs := { u.handOffs with
          enReports := u.handOffs.enReports ++ u.inputs.enReport u.cfg.device.debounce now p
          panelReports := u.handOffs.panelReports ++ u.inputs.panelReport u.cfg.device.debounce now p } } := by
  cases h : (u.inputs.get p).hold with
  | none =>
    have still : u.inputs.lasted u.cfg.device.debounce now p = false := by simp [Inputs.lasted, h]
    cases p <;> simp [State.debounceOne, h, still, Inputs.enReport, Inputs.panelReport]
  | some start =>
    by_cases long : u.cfg.device.debounce ≤ now - start
    · have done : u.inputs.lasted u.cfg.device.debounce now p = true := by simp [Inputs.lasted, h, long]
      simp only [State.debounceOne, h, long, if_true, done]
      rw [State.completeHold_of_some (by simp [h])]
      cases p <;> simp [Inputs.enReport, Inputs.panelReport, done, Inputs.get]
    · have still : u.inputs.lasted u.cfg.device.debounce now p = false := by simp [Inputs.lasted, h, long]
      cases p <;> simp [State.debounceOne, h, long, still, Inputs.enReport, Inputs.panelReport]

section
variable {debounce now : Nat} {v w : Inputs} {p : Pin}

theorem Inputs.lasted_congr (h : v.get p = w.get p) : v.lasted debounce now p = w.lasted debounce now p := by
  rw [Inputs.lasted, h]
  rfl

theorem Inputs.enReport_congr (h : v.get p = w.get p) : v.enReport debounce now p = w.enReport debounce now p := by
  cases p with
  | en i =>
    have input : v.en[i] = w.en[i] := h
    simp only [Inputs.enReport, Inputs.lasted_congr h, input]
  | panel => rfl
  | lock => rfl

theorem Inputs.panelReport_congr (h : v.get p = w.get p) :
    v.panelReport debounce now p = w.panelReport debounce now p := by
  cases p with
  | panel =>
    have input : v.panel = w.panel := h
    simp only [Inputs.panelReport, Inputs.lasted_congr h, input]
  | en i => rfl
  | lock => rfl

end

/-- The inputs after one of them has been given the new debounce time. -/
theorem State.debounceOne_get (now : Nat) (u : State) (p q : Pin) :
    (u.debounceOne now p).inputs.get q = u.inputs.debouncedAt u.cfg.device.debounce now [p] q := by
  rw [State.debounceOne_eq]
  simp only [Inputs.debouncedAt, List.mem_singleton]
  by_cases same : q = p
  · subst same
    cases h : u.inputs.lasted u.cfg.device.debounce now q <;> simp
  · cases h : u.inputs.lasted u.cfg.device.debounce now p <;> simp [same, Inputs.get_put_of_ne]

/-- The inputs one after another: each goes by its own hold as it stood before. -/
theorem State.foldl_debounceOne (now : Nat) {pins : List Pin} (distinct : pins.Nodup) (u : State) :
    ∃ v : Inputs, (∀ q, v.get q = u.inputs.debouncedAt u.cfg.device.debounce now pins q) ∧
      pins.foldl (State.debounceOne now) u =
        { u with
          inputs := v
          handOffs := { u.handOffs with
            enReports := u.handOffs.enReports ++ pins.flatMap (u.inputs.enReport u.cfg.device.debounce now)
            panelReports := u.handOffs.panelReports ++
              pins.flatMap (u.inputs.panelReport u.cfg.device.debounce now) } } := by
  induction pins generalizing u with
  | nil => exact ⟨u.inputs, fun q => by simp [Inputs.debouncedAt], by simp⟩
  | cons p rest ih =>
    obtain ⟨fresh, distinct⟩ := List.nodup_cons.mp distinct
    obtain ⟨v, hv, hu⟩ := ih distinct (u.debounceOne now p)
    have device : (u.debounceOne now p).cfg = u.cfg := by rw [State.debounceOne_eq]
    have others {q : Pin} (hq : q ≠ p) : (u.debounceOne now p).inputs.get q = u.inputs.get q := by
      rw [State.debounceOne_get]
      simp [Inputs.debouncedAt, hq]
    have apart {q : Pin} (hq : q ∈ rest) : q ≠ p := fun same => fresh (same ▸ hq)
    refine ⟨v, fun q => ?_, ?_⟩
    · rw [hv q, device]
      by_cases same : q = p
      · subst same
        simpa [Inputs.debouncedAt, fresh] using u.debounceOne_get now q q
      · simp [Inputs.debouncedAt, same, others same, Inputs.lasted_congr (others same)]
    · have en : rest.flatMap ((u.debounceOne now p).inputs.enReport u.cfg.device.debounce now) =
          rest.flatMap (u.inputs.enReport u.cfg.device.debounce now) :=
        List.flatMap_congr fun q hq => Inputs.enReport_congr (others (apart hq))
      have panel : rest.flatMap ((u.debounceOne now p).inputs.panelReport u.cfg.device.debounce now) =
          rest.flatMap (u.inputs.panelReport u.cfg.device.debounce now) :=
        List.flatMap_congr fun q hq => Inputs.panelReport_congr (others (apart hq))
      rw [List.foldl_cons, hu, device, en, panel, State.debounceOne_eq]
      simp [List.flatMap_cons]

theorem allSixteen_eq : allSixteen = List.finRange 16 := by decide

theorem allPins_nodup : allPins.Nodup := by decide

theorem mem_allPins (p : Pin) : p ∈ allPins := by
  cases p with
  | en i => exact List.mem_append_left _ (List.mem_map_of_mem (mem_allSixteen i))
  | panel => decide
  | lock => decide

/-- A list of the elements for which something holds, each in place of a list of none or one. -/
theorem flatMap_if {α β : Type} (q : α → Bool) (f : α → β) (l : List α) :
    l.flatMap (fun a => if q a then [f a] else []) = (l.filter q).map f := by
  induction l with
  | nil => rfl
  | cons a l ih => cases h : q a <;> simp [h, ih]

/-- A new debounce time (R6): the inputs whose hold has lasted it, and their reports, EN0 to EN15 in order. -/
theorem State.debounceWritten_eq (now : Nat) (s : State) :
    let lasted := s.inputs.lasted s.cfg.device.debounce now
    ∃ v : Inputs,
      (∀ p, v.get p =
        if lasted p then ⟨(s.inputs.get p).raw, (s.inputs.get p).raw, none⟩ else s.inputs.get p) ∧
      s.debounceWritten now =
        { s with
          inputs := v
          handOffs := { s.handOffs with
            enReports := s.handOffs.enReports ++
              ((List.finRange 16).filter fun i => lasted (.en i)).map fun i => ⟨i, s.inputs.en[i].raw⟩
            panelReports := s.handOffs.panelReports ++ if lasted .panel then [s.inputs.panel.raw] else [] } } := by
  intro lasted
  obtain ⟨v, hv, hs⟩ := s.foldl_debounceOne now allPins_nodup
  have en : allPins.flatMap (s.inputs.enReport s.cfg.device.debounce now) =
      ((List.finRange 16).filter fun i => lasted (.en i)).map fun i => ⟨i, s.inputs.en[i].raw⟩ := by
    rw [allPins, List.flatMap_append, List.flatMap_map, ← flatMap_if, allSixteen_eq]
    exact List.append_nil _
  have panel : allPins.flatMap (s.inputs.panelReport s.cfg.device.debounce now) =
      if lasted .panel then [s.inputs.panel.raw] else [] := by
    have none_en : (List.finRange 16).flatMap (fun i => s.inputs.panelReport s.cfg.device.debounce now (.en i)) = [] := by
      simp [Inputs.panelReport]
    rw [allPins, List.flatMap_append, List.flatMap_map, allSixteen_eq, none_en]
    exact List.append_nil _
  refine ⟨v, fun p => ?_, ?_⟩
  · rw [hv p]
    simp [Inputs.debouncedAt, mem_allPins, lasted]
  · rw [State.debounceWritten_eq_foldl, hs, en, panel]

end Sys2Proof.Machine
end

section
/-! Write Device Settings (R179). -/

namespace Sys2Proof.Machine

/-! ### The effects, whether a restart is armed or not -/

section
variable (s : State)

theorem State.serve_unarmed : s.unarmed.serve = s.serve.unarmed := by
  rw [State.serve_eq, State.serve_eq s, State.serve_capture_congr (s := s) (t := s.unarmed) rfl rfl]
  rfl

theorem State.endCapture_unarmed (truncated : Bool) (stamp : Stamp) :
    s.unarmed.endCapture truncated stamp = (s.endCapture truncated stamp).unarmed := by
  have capture : s.unarmed.capture = s.capture := rfl
  cases h : s.capture.activeRecord with
  | none => simp only [State.endCapture, capture, h]
  | some a =>
    simp only [State.endCapture, capture, h]
    exact State.serve_unarmed
      ((s.setCapture (s.capture.updateActive fun q => { q with state := .done, truncated := truncated })).emitTransformer
        a.channel .captureDone none none (some a.number) stamp)

theorem State.abandon_unarmed (named : Fin 16 → Bool) : s.unarmed.abandon named = (s.abandon named).unarmed := by
  have same : s.unarmed.abandonChannels named = (s.abandonChannels named).unarmed := rfl
  rw [State.abandon, State.abandon, same]
  generalize s.abandonChannels named = u
  have capture : u.unarmed.capture = u.capture := rfl
  have time : u.unarmed.time = u.time := rfl
  cases h : u.capture.activeRecord with
  | none => simp only [State.captureNotice, capture, h]
  | some a =>
    simp only [State.captureNotice, capture, h, time, State.endCapture_unarmed]
    split <;> rfl

theorem State.debounceOne_unarmed (now : Nat) (p : Pin) : s.unarmed.debounceOne now p = (s.debounceOne now p).unarmed := by
  rw [State.debounceOne_eq, State.debounceOne_eq]
  rfl

theorem State.debounceWritten_unarmed (now : Nat) : s.unarmed.debounceWritten now = (s.debounceWritten now).unarmed := by
  have foldl (pins : List Pin) : pins.foldl (State.debounceOne now) s.unarmed =
      (pins.foldl (State.debounceOne now) s).unarmed := by
    induction pins generalizing s with
    | nil => rfl
    | cons p rest ih => rw [List.foldl_cons, State.debounceOne_unarmed, ih, List.foldl_cons]
  exact foldl allPins

theorem State.linkSilenceWritten_unarmed : s.unarmed.linkSilenceWritten = s.linkSilenceWritten.unarmed := by
  have silent : s.unarmed.driver = s.driver := rfl
  simp only [State.linkSilenceWritten, silent, State.reportIf]
  split <;> rfl

theorem State.panelLocked_unarmed : s.unarmed.panelLocked = s.panelLocked.unarmed := by
  have panel : s.unarmed.driver = s.driver := rfl
  simp only [State.panelLocked, panel]
  split <;> rfl

theorem State.ppsUseWritten_unarmed (use : Bool) : s.unarmed.ppsUseWritten use = (s.ppsUseWritten use).unarmed := by
  have time : s.unarmed.time = s.time := rfl
  simp only [State.ppsUseWritten, time]
  split
  · rfl
  · split <;> rfl

theorem State.whenChanged_unarmed (b : Bool) {f : State → State} (hf : ∀ u : State, f u.unarmed = (f u).unarmed) :
    s.unarmed.whenChanged b f = (s.whenChanged b f).unarmed := by
  cases b
  · rfl
  · exact hf s

theorem State.deviceEffects_unarmed (before after : DeviceSettings) (now : Nat) :
    s.unarmed.deviceEffects before after now = (s.deviceEffects before after now).unarmed := by
  simp only [State.deviceEffects]
  rw [State.whenChanged_unarmed _ _ fun u => State.abandon_unarmed u _,
    State.whenChanged_unarmed _ _ fun u => State.debounceWritten_unarmed u now,
    State.whenChanged_unarmed _ _ State.linkSilenceWritten_unarmed, State.whenChanged_unarmed _ _ State.panelLocked_unarmed,
    State.whenChanged_unarmed _ _ fun u => State.ppsUseWritten_unarmed u _]

end

/-! ### The write -/

/-- A device record is taken where neither LOCK nor a save refuses it (R179). -/
theorem exec_writeDeviceSettings {r : Request} {s : State} (now : Nat) (h : s.Takes 0x05 r) (hl : r.body.length = 15)
    (hlock : s.inputs.lock.debounced = false) (hsave : s.store.save = none) :
    let d := deviceOf r.body s.cfg.device.noticeMask
    exec (.writeDeviceSettings now) s = .next (((s.setDevice d).deviceEffects s.cfg.device d now).replied r
      (if d.writtenBytes = r.body then .ok else .clamped) d.bytes) := by
  intro d
  have bar : s.unarmed.settingsBar = none := State.settingsBar_of_free (by exact hlock) (by exact hsave)
  have device : s.unarmed.cfg.device = s.cfg.device := rfl
  have stored : s.unarmed.setDevice d = (s.setDevice d).unarmed := rfl
  rw [exec_of_takes (f := handleWriteDevice now) rfl h (n := 15) (by rfl) hl]
  show Host.Outcome.next (handleWriteDevice now r s.unarmed) = _
  simp only [handleWriteDevice, bar, device, okOr_bne]
  rw [stored, State.deviceEffects_unarmed, State.unarmed_answer]

/-! ### Which effects a record has -/

section
variable {a b : DeviceSettings} {now : Nat} {s : State}

/-- Panel lock turned on (R165). -/
theorem panelLock_turned : (!a.panelLock && b.panelLock) = true ↔ a.panelLock = false ∧ b.panelLock = true := by
  simp

theorem panelLock_not_turned (h : ¬ (a.panelLock = false ∧ b.panelLock = true)) :
    (!a.panelLock && b.panelLock) = false := by
  rwa [← Bool.not_eq_true, panelLock_turned]

/-- Only a change of pps use. -/
theorem State.deviceEffects_ppsUse (hm : b.mains = a.mains) (hd : b.debounce = a.debounce)
    (hs : b.linkSilence = a.linkSilence) (hp : ¬ (a.panelLock = false ∧ b.panelLock = true)) :
    s.deviceEffects a b now = s.whenChanged (a.ppsUse != b.ppsUse) (State.ppsUseWritten b.ppsUse) := by
  simp only [State.deviceEffects, hm, hd, hs, panelLock_not_turned hp, bne_self_eq_false]
  rfl

/-- Only a change of mains. -/
theorem State.deviceEffects_mains (hm : b.mains ≠ a.mains) (hd : b.debounce = a.debounce)
    (hs : b.linkSilence = a.linkSilence) (hp : ¬ (a.panelLock = false ∧ b.panelLock = true)) (hu : b.ppsUse = a.ppsUse) :
    s.deviceEffects a b now = s.abandon fun _ => true := by
  have changed : (a.mains != b.mains) = true := bne_iff_ne.mpr hm.symm
  simp only [State.deviceEffects, changed, hd, hs, panelLock_not_turned hp, hu, bne_self_eq_false]
  rfl

/-- Only a change of link silence. -/
theorem State.deviceEffects_linkSilence (hm : b.mains = a.mains) (hd : b.debounce = a.debounce)
    (hs : b.linkSilence ≠ a.linkSilence) (hp : ¬ (a.panelLock = false ∧ b.panelLock = true)) (hu : b.ppsUse = a.ppsUse) :
    s.deviceEffects a b now = s.linkSilenceWritten := by
  have changed : (a.linkSilence != b.linkSilence) = true := bne_iff_ne.mpr hs.symm
  simp only [State.deviceEffects, hm, hd, changed, panelLock_not_turned hp, hu, bne_self_eq_false]
  rfl

/-- Only a change of debounce. -/
theorem State.deviceEffects_debounce (hm : b.mains = a.mains) (hd : b.debounce ≠ a.debounce)
    (hs : b.linkSilence = a.linkSilence) (hp : ¬ (a.panelLock = false ∧ b.panelLock = true)) (hu : b.ppsUse = a.ppsUse) :
    s.deviceEffects a b now = s.debounceWritten now := by
  have changed : (a.debounce != b.debounce) = true := bne_iff_ne.mpr hd.symm
  simp only [State.deviceEffects, hm, changed, hs, panelLock_not_turned hp, hu, bne_self_eq_false]
  rfl

/-- Only panel lock, turned on. -/
theorem State.deviceEffects_panelLock (hm : b.mains = a.mains) (hd : b.debounce = a.debounce)
    (hs : b.linkSilence = a.linkSilence) (hp : a.panelLock = false ∧ b.panelLock = true) (hu : b.ppsUse = a.ppsUse) :
    s.deviceEffects a b now = s.panelLocked := by
  have locked : (!a.panelLock && b.panelLock) = true := panelLock_turned.mpr hp
  simp only [State.deviceEffects, hm, hd, hs, locked, hu, bne_self_eq_false]
  rfl

end

/-! ### What each effect does -/

section
variable {s : State}

theorem State.linkSilenceWritten_eq : s.linkSilenceWritten =
    { s with
      driver := { s.driver with
        linkTimer := if s.cfg.device.linkSilence = 0 then none else some s.cfg.device.linkSilence, linkSilent := false }
      handOffs := if s.driver.linkSilent then
        { s.handOffs with reports := s.handOffs.reports ++ [.linkSilence] } else s.handOffs } := by
  simp only [State.linkSilenceWritten, State.reportIf]
  split <;> rfl

theorem State.panelLocked_still (h : s.driver.panel = .idle ∨ s.driver.panel = .ignored) : s.panelLocked = s := by
  rcases h with h | h <;> simp only [State.panelLocked, h]

theorem State.panelLocked_moved (h : s.driver.panel = .pressed ∨ s.driver.panel = .test ∨ s.driver.panel = .testEnded) :
    s.panelLocked = s.setPanel .ignored false := by
  rcases h with h | h | h <;> simp only [State.panelLocked, h]

theorem State.ppsUseWritten_off_none (h : s.time.pendingSet = none) :
    s.ppsUseWritten false = { s with time := { s.time with pps := .unused } } := by
  simp only [State.ppsUseWritten, h, Bool.false_eq_true, if_false]
  rfl

theorem State.ppsUseWritten_off_some {day sec : Nat} (h : s.time.pendingSet = some (day, sec)) :
    s.ppsUseWritten false =
      { s with
        time := ⟨⟨day, sec, s.time.now.tenth⟩, none, .unused, s.time.lastEdge⟩
        link := s.made [deviceRecord .clockSet none ⟨day, sec, s.time.now.tenth⟩] } := by
  simp only [State.ppsUseWritten, h, Bool.false_eq_true, if_false]
  rfl

end

/-- What an abandon notice does at the Capture Unit does not go by the device settings. -/
theorem NoticeTaken.of_setDevice {p : Fin 16 → Prop} [DecidablePred p] {s : State} {d : DeviceSettings} {u : CaptureUnit}
    {ts : List Transition} (h : NoticeTaken p (s.setDevice d) u ts) : NoticeTaken p s u ts where
  spared := h.spared
  ended := fun older newer a hr done active named => by
    obtain ⟨left, made⟩ := h.ended older newer a hr done active named
    exact ⟨left.trans (State.serve_capture_congr rfl rfl), made⟩

/-- Settles O54: the write is its effects (`exec_writeDeviceSettings`), and a record that changes one thing that acts at once has
the effect of that one. -/
theorem writeDeviceSettingsTaken : Obligations.WriteDeviceSettingsTaken := by
  refine ⟨fun sent mask => ?_, fun now r s h hl hlock hsave => ?_⟩
  · simp only [deviceOf, yesOf_eq]
    rfl
  intro old d stored answer lockOn
  have answers {t : State} (ht : stored.deviceEffects old d now = t) : answer t := by
    rw [← ht]
    exact exec_writeDeviceSettings now h hl hlock hsave
  refine ⟨fun hm hd hs hp => ?_, fun hu => ⟨fun hm hd hs hp => ?_, fun hm hd hs hp => ?_, fun hm hd hs hp => ?_,
    fun hm hd hs hp => ?_⟩⟩
  · have effects := State.deviceEffects_ppsUse (s := stored) (now := now) hm hd hs hp
    refine ⟨fun same => ?_, fun off on => ?_, fun on off => ⟨fun unset => ?_, fun day sec set => ?_⟩⟩
    · exact answers (effects.trans (by rw [same, bne_self_eq_false]; rfl))
    · exact answers (effects.trans (by rw [off, on]; rfl))
    · exact answers (effects.trans (by rw [on, off]; exact State.ppsUseWritten_off_none (by exact unset)))
    · exact answers (effects.trans (by rw [on, off]; exact State.ppsUseWritten_off_some (by exact set)))
  · obtain ⟨u, ts, notice, left⟩ := stored.abandon_all
    exact ⟨u, ts, notice.of_setDevice, answers ((State.deviceEffects_mains hm hd hs hp hu).trans left)⟩
  · exact answers ((State.deviceEffects_linkSilence hm hd hs hp hu).trans State.linkSilenceWritten_eq)
  · obtain ⟨v, hv, left⟩ := stored.debounceWritten_eq now
    exact ⟨v, hv, answers ((State.deviceEffects_debounce hm hd hs hp hu).trans left)⟩
  · have effects := State.deviceEffects_panelLock (s := stored) (now := now) hm hd hs hp hu
    exact ⟨fun still => answers (effects.trans (State.panelLocked_still still)), fun moved =>
      ⟨_, answers (effects.trans (State.panelLocked_moved moved)), panelMoved_setPanel .ignored false stored⟩⟩

end Sys2Proof.Machine
end

section
/-! Check values (R21) and division to the nearest integer (00_scope.md, Rounding). -/

namespace Sys2Proof.Machine

/-! ### The CRC-8 -/

theorem crc8_append_singleton (bs : List Byte) (b : Byte) : crc8 (bs ++ [b]) = crcByte (crc8 bs) b := by
  simp [crc8]

/-- A byte that equals the register clears it (R21). -/
theorem crcByte_self (r : Byte) : crcByte r r = 0 := by
  have cleared : crcShift 0 = 0 := by decide
  simp only [crcByte, BitVec.xor_self]
  simp only [show (0#8 : Byte) = 0 from rfl, cleared]

/-! ### Rounding -/

/-- The rounded quotient times the divisor lies within half a divisor of the dividend, above it where it is half away. -/
theorem roundedQuotient_mul_bounds (m : Nat) {d : Nat} (hd : 0 < d) :
    2 * ((2 * m + d) / (2 * d) * d) ≤ 2 * m + d ∧ 2 * m < 2 * ((2 * m + d) / (2 * d) * d) + d := by
  have split := Nat.div_add_mod (2 * m + d) (2 * d)
  have rest := Nat.mod_lt (2 * m + d) (show 0 < 2 * d by omega)
  have regroup : 2 * d * ((2 * m + d) / (2 * d)) = 2 * ((2 * m + d) / (2 * d) * d) := by ring
  omega

/-- A negative quotient is rounded as its opposite. -/
theorem roundDiv_neg (n : Int) (d : Nat) : roundDiv (-n) d = -roundDiv n d := by
  simp [roundDiv]

/-- Where the dividend is not negative, both roundings agree. -/
theorem roundDiv_natCast (m : Nat) {d : Nat} (hd : 0 < d) : roundDiv m d = roundDivNat m d := by
  rcases Nat.eq_zero_or_pos m with rfl | hm
  · simp [roundDiv, roundDivNat, Nat.div_eq_of_lt (show d < 2 * d by omega)]
  · have sign : (m : Int).sign = 1 := Int.sign_eq_one_of_pos (by omega)
    simp [roundDiv, roundDivNat, sign]

/-- Rounding is to the nearest integer, halves away from zero. -/
theorem roundDiv_nearest (n : Int) {d : Nat} (hd : 0 < d) :
    2 * (roundDiv n d * d - n).natAbs ≤ d ∧
      (2 * (roundDiv n d * d - n).natAbs = d → n.natAbs < (roundDiv n d * d).natAbs) := by
  have nearest (m : Nat) : 2 * (roundDiv m d * d - m).natAbs ≤ d ∧
      (2 * (roundDiv m d * d - m).natAbs = d → m < (roundDiv m d * d).natAbs) := by
    obtain ⟨upper, lower⟩ := roundedQuotient_mul_bounds m hd
    rw [roundDiv_natCast m hd, roundDivNat]
    generalize (2 * m + d) / (2 * d) = q at upper lower
    rw [← Int.natCast_mul]
    omega
  have := nearest n.natAbs
  rcases Int.natAbs_eq n with hn | hn
  · rwa [← hn] at this
  · rw [show n = -((n.natAbs : Nat) : Int) from hn, roundDiv_neg]
    simp only [Int.natAbs_neg, Int.natAbs_natCast, Int.neg_mul]
    omega

/-- Settles O16: the register's equations, and the two bounds on a rounded quotient. -/
theorem checkValuesAndRounding : Obligations.CheckValuesAndRounding := by
  refine ⟨⟨rfl, crc8_append_singleton, fun bs => ?_⟩, fun n d hd => ?_⟩
  · rw [crc8_append_singleton, crcByte_self]
  · obtain ⟨near, half⟩ := roundDiv_nearest n hd
    refine ⟨near, half, fun hn => ?_⟩
    rw [← roundDiv_natCast _ hd, Int.toNat_of_nonneg hn]

end Sys2Proof.Machine
end

section
/-! The time (R175 to R177). -/

namespace Sys2Proof.Machine

/-! ### The tenth and the clock second -/

theorem Intake.afterTenth_eq (x : Intake) :
    x.afterTenth = { x with converters := x.converters.map Converter.tenthPassed } := by
  simp only [Intake.afterTenth, Intake.mk.injEq, true_and, and_true]
  ext c
  simp [Converter.tenthPassed]

/-- A tenth passes for the silence timers (R23). -/
theorem State.tenthPasses_eq (s : State) : s.tenthPasses = { s with intake := s.intake.afterTenth } := by
  rw [Intake.afterTenth_eq]
  rfl

theorem State.oscillatorSecond_eq (s : State) : s.oscillatorSecond = State.blocksClock s.time.now.nextSecond
    { s with time := { s.time with now := s.time.now.nextSecond }, intake := s.intake.afterTenth } := by
  rw [State.oscillatorSecond, State.tenthPasses_eq]
  rfl

section
variable {s : State}

/-- A supervised clock second with nothing staged is the oscillator's (R176). -/
theorem State.supervisedSecond_of_none (h : s.time.pendingSet = none) : s.supervisedSecond = s.oscillatorSecond := by
  simp only [State.supervisedSecond, h]

/-- A set that is staged applies at a supervised clock second, with CLOCK_SET (R177). -/
theorem State.supervisedSecond_of_some {day sec : Nat} (h : s.time.pendingSet = some (day, sec)) :
    s.supervisedSecond = State.blocksClock ⟨day, sec, 0⟩
      { s with
        time := { s.time with now := ⟨day, sec, 0⟩, pendingSet := none }
        intake := s.intake.afterTenth
        link := s.made [deviceRecord .clockSet none ⟨day, sec, 0⟩] } := by
  simp only [State.supervisedSecond, h]
  rw [State.tenthPasses_eq]
  rfl

theorem Stamp.nextSecond_of_lt {t : Stamp} (h : t.second < 86399) : t.nextSecond = ⟨t.day, t.second + 1, 0⟩ := if_pos h

theorem Stamp.nextSecond_midnight {t : Stamp} (h : t.second = 86399) :
    t.nextSecond = if t.day < 65535 then ⟨t.day + 1, 0, 0⟩ else ⟨0, 0, 0⟩ := if_neg (by omega)

/-- At tenth 9 and not TRACKING the row does not come about; while TRACKING it lets the silence timers alone run on. -/
theorem exec_tenthAdvance (s : State) : exec .tenthAdvance s = .next
    (if s.time.now.tenth < 9 then
      { s with
        time := { s.time with now := { s.time.now with tenth := s.time.now.tenth + 1 } }
        intake := s.intake.afterTenth }
    else if s.time.pps = .tracking then { s with intake := s.intake.afterTenth }
    else s) := by
  show Host.Outcome.next _ = _
  rw [State.tenthPasses_eq]
  rfl

/-! ### Edges and losses of the pulse -/

theorem TimeBase.tooSoon_of_near {t : TimeBase} {now e : Nat} (he : t.lastEdge = some e) (near : now < e + 500) :
    t.tooSoon now = true := by
  simp only [TimeBase.tooSoon, he, decide_eq_true_eq]
  omega

theorem TimeBase.not_tooSoon {t : TimeBase} {now : Nat} (far : ∀ e, t.lastEdge = some e → e + 500 ≤ now) :
    t.tooSoon now = false := by
  unfold TimeBase.tooSoon
  split
  · rfl
  · rename_i e he
    have := far e he
    simp only [decide_eq_false_iff_not]
    omega

/-- An edge too soon after the last one taken is passed over (R176). -/
theorem State.ppsEdgeAt_tooSoon {now : Nat} (h : s.time.tooSoon now = true) : s.ppsEdgeAt now = s := if_pos h

theorem State.ppsEdgeAt_unused {now : Nat} (h : s.time.pps = .unused) : s.ppsEdgeAt now = s := by
  simp only [State.ppsEdgeAt, h, ite_self]

theorem State.ppsEdgeAt_tracking {now : Nat} (hs : s.time.tooSoon now = false) (h : s.time.pps = .tracking) :
    s.ppsEdgeAt now = (s.setTime { s.time with lastEdge := some now }).supervisedSecond := by
  simp only [State.ppsEdgeAt, hs, h, Bool.false_eq_true, if_false]

theorem State.ppsEdgeAt_lost {now : Nat} (hs : s.time.tooSoon now = false) (h : s.time.pps = .lost) :
    s.ppsEdgeAt now = (s.setTime { s.time with lastEdge := some now, pps := .tracking }).oscillatorSecond := by
  simp only [State.ppsEdgeAt, hs, h, Bool.false_eq_true, if_false]

theorem State.ppsFails_of_ne (h : s.time.pps ≠ .tracking) : s.ppsFails = s := by
  unfold State.ppsFails
  split
  · rename_i tracking
    exact absurd tracking h
  · rfl

theorem State.ppsFails_tracking (h : s.time.pps = .tracking) :
    s.ppsFails = ((s.emitDevice .ppsLost none s.time.now).setTime { s.time with pps := .lost }).supervisedSecond := by
  simp only [State.ppsFails, h]

end

/-- The two rows of a clock second at an edge of the pulse while TRACKING, and the one after a loss (R176, R177). -/
theorem exec_ppsEdge_far {now : Nat} {s : State} (far : ∀ e, s.time.lastEdge = some e → e + 500 ≤ now) :
    let second := s.time.now.nextSecond
    (s.time.pps = .lost → exec (.ppsEdge now) s = .next (State.blocksClock second
      { s with time := ⟨second, s.time.pendingSet, .tracking, some now⟩, intake := s.intake.afterTenth })) ∧
    (s.time.pps = .tracking → s.time.pendingSet = none → exec (.ppsEdge now) s = .next (State.blocksClock second
      { s with time := ⟨second, none, .tracking, some now⟩, intake := s.intake.afterTenth })) ∧
    ∀ day sec, s.time.pps = .tracking → s.time.pendingSet = some (day, sec) →
      exec (.ppsEdge now) s = .next (State.blocksClock ⟨day, sec, 0⟩
        { s with
          time := ⟨⟨day, sec, 0⟩, none, .tracking, some now⟩
          intake := s.intake.afterTenth
          link := s.made [deviceRecord .clockSet none ⟨day, sec, 0⟩] }) := by
  have soon := TimeBase.not_tooSoon far
  refine ⟨fun lost => congrArg Host.Outcome.next ?_, fun tracking unset => congrArg Host.Outcome.next ?_,
    fun day sec tracking staged => congrArg Host.Outcome.next ?_⟩
  · rw [State.ppsEdgeAt_lost soon lost, State.oscillatorSecond_eq]
    rfl
  · rw [State.ppsEdgeAt_tracking soon tracking, State.supervisedSecond_of_none (by exact unset),
      State.oscillatorSecond_eq, ← unset, ← tracking]
    rfl
  · rw [State.ppsEdgeAt_tracking soon tracking, State.supervisedSecond_of_some (by exact staged), ← tracking]
    rfl

/-- Settles O35: each row of the time is its clock second, at once or with the staged set, or nothing. -/
theorem timeAdvancesAndPps : Obligations.TimeAdvancesAndPps := by
  refine ⟨⟨exec_tenthAdvance, fun t => ⟨Stamp.nextSecond_of_lt, fun last day => ?_, fun last day => ?_⟩⟩,
    fun now s => ⟨fun e he _ near => ?_, fun unused => ?_, exec_ppsEdge_far⟩,
    fun s => ⟨fun idle => ?_, fun tracking unset => ?_, fun day sec tracking staged => ?_⟩⟩
  · rw [Stamp.nextSecond_midnight last, if_pos day]
  · rw [Stamp.nextSecond_midnight last, if_neg (by omega)]
  · exact congrArg Host.Outcome.next (State.ppsEdgeAt_tooSoon (TimeBase.tooSoon_of_near he near))
  · exact congrArg Host.Outcome.next (State.ppsEdgeAt_unused unused)
  · exact congrArg Host.Outcome.next (State.ppsFails_of_ne idle)
  · refine congrArg Host.Outcome.next ?_
    rw [State.ppsFails_tracking tracking, State.supervisedSecond_of_none (by exact unset), State.oscillatorSecond_eq,
      ← unset]
    rfl
  · refine congrArg Host.Outcome.next ?_
    rw [State.ppsFails_tracking tracking, State.supervisedSecond_of_some (by exact staged)]
    rfl

end Sys2Proof.Machine
end

section
/-! Commands whose event is not waiting, and the head of the FIFO (R22, R25). -/

namespace Sys2Proof.Machine

/-! ### Events that are not waiting -/

section
variable {s : State} {t : Fin 16}

theorem exec_measuredSecond_idle (h : ∀ g ∈ s.handOffs.seconds, g.channel ≠ t) :
    exec (.measuredSecond t) s = .next s := by
  have : takeFirst (fun g => g.channel == t) s.handOffs.seconds = none := takeFirst_eq_none.mpr (by simpa using h)
  show execMeasuredSecond t s = _
  simp only [execMeasuredSecond, this]

theorem exec_episodeHandoff_idle (h : ∀ g ∈ s.handOffs.evaluations, g.transformer ≠ t) :
    exec (.episodeHandoff t) s = .next s := by
  have : takeFirst (fun g => g.transformer == t) s.handOffs.evaluations = none :=
    takeFirst_eq_none.mpr (by simpa using h)
  show execEpisodeHandoff t s = _
  simp only [execEpisodeHandoff, this]

theorem exec_levelTrigger_idle (h : ∀ g ∈ s.handOffs.triggers, g.channel ≠ t) :
    exec (.levelTrigger t) s = .next s := by
  have : takeFirst (fun g => g.channel == t) s.handOffs.triggers = none := takeFirst_eq_none.mpr (by simpa using h)
  show execLevelTrigger t s = _
  simp only [execLevelTrigger, this]

theorem exec_captureDisableReport_idle (h : t ∉ s.handOffs.disables) :
    exec (.captureDisableReport t) s = .next s := by
  have : takeFirst (fun c => c == t) s.handOffs.disables = none :=
    takeFirst_eq_none.mpr fun c hc => beq_false_of_ne fun same => h (same ▸ hc)
  show execCaptureDisableReport t s = _
  simp only [execCaptureDisableReport, this]

theorem exec_serviceChange_idle (h : ∀ e ∈ s.handOffs.enReports, e.transformer ≠ t) :
    exec (.energised t) s = .next s ∧ exec (.deenergised t) s = .next s := by
  have : takeFirst (fun e => e.transformer == t) s.handOffs.enReports = none :=
    takeFirst_eq_none.mpr (by simpa using h)
  constructor
  · show execEnergised t s = _
    simp only [execEnergised, this]
  · show execDeenergised t s = _
    simp only [execDeenergised, this]

theorem exec_captureMissed_idle (h : ∀ e ∈ s.capture.waiting, e.expiry = none) :
    exec (.captureMissed t) s = .next s := by
  have : (s.capture.entryOf t).bind PendingEntry.expiry = none := by
    cases entry : s.capture.entryOf t with
    | none => rfl
    | some e => exact h e (List.mem_of_find?_eq_some entry)
  show execCaptureMissed t s = _
  simp only [execCaptureMissed, this]

/-- The rows of a block's own clock second, with none waiting. -/
theorem exec_tick_idle :
    (s.handOffs.recordTicks[t] = none → exec (.standInSecond t) s = .next s) ∧
    (s.handOffs.fieldTick = none → exec .fieldNone s = .next s) ∧
    (s.handOffs.trackerTick = none → exec .episodeQuietClose s = .next s) ∧
    (s.handOffs.linkTick = none → exec .linkSilent s = .next s) := by
  refine ⟨fun h => ?_, fun h => ?_, fun h => ?_, fun h => ?_⟩
  · show execStandInSecond t s = _
    simp only [execStandInSecond, h, Option.isSome_none, Bool.false_eq_true, if_false]
  · show execFieldNone s = _
    simp only [execFieldNone, h, Option.isSome_none, Bool.false_eq_true, if_false]
  · show execEpisodeQuietClose s = _
    simp only [execEpisodeQuietClose, State.takeTrackerTick, h]
  · show execLinkSilent s = _
    simp only [execLinkSilent, State.takeLinkTick, h]

theorem exec_contactReport_idle (h : s.handOffs.reports = []) : exec .contactReport s = .next s := by
  show execContactReport s = _
  simp only [execContactReport, h]

theorem exec_panel_idle (h : s.handOffs.panelReports = []) :
    exec .panelPress s = .next s ∧ exec .panelRelease s = .next s := by
  constructor
  · show execPanelPress s = _
    simp only [execPanelPress, h]
  · show execPanelRelease s = _
    simp only [execPanelRelease, h]

end

/-! ### The head of the FIFO -/

section
variable {s : State} {f : Frame} {rest : List Frame}

theorem State.takeHead_of_empty (h : s.intake.fifo = []) (p : Frame → Bool) : s.takeHead p = s := by
  simp only [State.takeHead, h]

/-- A block takes no frame of the other kind (R22). -/
theorem State.takeHead_of_other (h : s.intake.fifo = f :: rest) {p : Frame → Bool} (hp : p f = false) :
    s.takeHead p = s := by
  simp only [State.takeHead, h, hp, Bool.false_eq_true, if_false]

/-- The state whose FIFO has lost its head. -/
def State.headTaken (rest : List Frame) (s : State) : State := { s with intake := { s.intake with fifo := rest } }

/-- A block takes the head of its kind, and judges it (R22, R24). -/
theorem State.takeHead_of_own (h : s.intake.fifo = f :: rest) {p : Frame → Bool} (hp : p f = true) :
    s.takeHead p = (s.headTaken rest).judge f := by
  simp only [State.takeHead, h, hp, if_true]
  rfl

/-- A duplicate is discarded with nothing else changed (R25). -/
theorem State.judge_duplicate
    (h : (s.converter f.converter).state = .locked f.seq ∨ (s.converter f.converter).state = .faulted f.seq) :
    s.judge f = s := by
  have ref : (s.converter f.converter).state.ref? = some f.seq := by
    rcases h with h | h <;> rw [h] <;> rfl
  simp [State.judge, ref, seqDiff]

theorem exec_take_of_own (h : s.intake.fifo = f :: rest) :
    (f.isCurrent = true → exec .takeCurrentFrame s = .next ((s.headTaken rest).judge f)) ∧
      (f.isCurrent = false → exec .takeFieldFrame s = .next ((s.headTaken rest).judge f)) :=
  ⟨fun own => congrArg Host.Outcome.next (State.takeHead_of_own h own),
    fun own => congrArg Host.Outcome.next (State.takeHead_of_own h (by simp [own]))⟩

end

/-- Settles O3: one lemma per row of what it does where its event is not waiting, and the duplicate of R25. -/
theorem eventsNotWaiting : Obligations.EventsNotWaiting := by
  refine ⟨fun t s => ?_, fun s empty => ?_, fun f rest s head => ?_, fun f rest s head known => ?_⟩
  · obtain ⟨standIn, fieldNone, quietClose, linkSilent⟩ := exec_tick_idle (s := s) (t := t)
    exact ⟨exec_measuredSecond_idle, exec_episodeHandoff_idle, exec_levelTrigger_idle, exec_captureDisableReport_idle,
      exec_serviceChange_idle, standIn, exec_captureMissed_idle, fieldNone, quietClose, linkSilent,
      exec_contactReport_idle, exec_panel_idle⟩
  · exact ⟨congrArg Host.Outcome.next (State.takeHead_of_empty empty _),
      congrArg Host.Outcome.next (State.takeHead_of_empty empty _)⟩
  · exact ⟨fun field => congrArg Host.Outcome.next (State.takeHead_of_other head field),
      fun current => congrArg Host.Outcome.next (State.takeHead_of_other head (by simp [current]))⟩
  · obtain ⟨current, field⟩ := exec_take_of_own head
    have duplicate : (s.headTaken rest).judge f = s.headTaken rest := State.judge_duplicate known
    rw [duplicate] at current field
    exact ⟨current, field⟩

end Sys2Proof.Machine
end

section
/-! The Current Extractor takes a sample (R38 to R43): it joins its cycle, or completes the cycle, the block, the second. -/

namespace Sys2Proof.Machine

/-! ### One sample -/

/-- The partial cycle of a channel that has taken one more sample (R38). -/
def State.nextCycle (ch : Fin 16) (code : Int) (tag : Tag) (s : State) : PartialCycle :=
  takenCycle s.cfg.transformers[ch].gain s.live[ch].offsetEff code (gradeOf tag code) s.channels[ch].cycle

section
variable {s : State} {ch : Fin 16} {code : Int} {tag : Tag}

theorem State.nextCycle_of_none (h : s.channels[ch].cycle = none) : s.nextCycle ch code tag =
    ⟨[code], gradeOf tag code, s.cfg.transformers[ch].gain, s.live[ch].offsetEff⟩ := by
  rw [State.nextCycle, h]
  rfl

theorem State.nextCycle_of_some {cyc : PartialCycle} (h : s.channels[ch].cycle = some cyc) : s.nextCycle ch code tag =
    { cyc with codes := cyc.codes ++ [code], grade := cyc.grade.worse (gradeOf tag code) } := by
  rw [State.nextCycle, h]
  rfl

/-- A sample that completes no cycle joins the partial cycle and the raw sum of the second (R38). -/
theorem State.takeSample_joins (h : (s.nextCycle ch code tag).codes.length < 32) :
    s.takeSample ch code tag = s.setChannel ch
      { s.channels[ch] with
        cycle := some (s.nextCycle ch code tag), second := s.channels[ch].second.withCode code } :=
  if_neg (Nat.not_le.mpr h)

/-- The 32nd sample of a cycle completes it (R39). -/
theorem State.takeSample_completes (h : 32 ≤ (s.nextCycle ch code tag).codes.length) :
    s.takeSample ch code tag =
      (s.setChannel ch { s.channels[ch] with second := s.channels[ch].second.withCode code }).completeCycle ch
        (s.nextCycle ch code tag) :=
  if_pos h

end

/-! ### One cycle -/

theorem ringWith_eq (ring : List (List Int)) (codes : List Int) :
    ringWith ring codes = (if ring.length < 4 then ring else ring.drop (ring.length + 1 - 4)) ++ [codes] := rfl

/-- The ring keeps the last four cycles (R43). -/
theorem ringWith_eq_drop (ring : List (List Int)) (codes : List Int) :
    ringWith ring codes = (ring ++ [codes]).drop ((ring ++ [codes]).length - 4) := by
  rw [ringWith_eq, List.length_append, List.length_singleton]
  by_cases room : ring.length < 4
  · rw [if_pos room, Nat.sub_eq_zero_of_le room, List.drop_zero]
  · rw [if_neg room, List.drop_append_of_le_length (by omega)]

/-- A channel whose partial cycle is complete and has gone to the ring (R39, R43). -/
def Channel.cycled (codes : List Int) (c : Channel) : Channel := { c with cycle := none, ring := ringWith c.ring codes }

/-- The complete cycle has gone to the ring and to the Capture Unit (R39). -/
def State.cycleOffered (ch : Fin 16) (codes : List Int) (s : State) : State :=
  (s.setChannel ch (s.channels[ch].cycled codes)).offerCycle ch codes

/-- The channel's block with the cycle in it (R39, step 4). -/
def Channel.blockWith (cyc : PartialCycle) (c : Channel) : Channel :=
  { c.cycled cyc.codes with block := c.block.withCycle cyc }

/-- The channel once the block that `cyc` completes has gone to the second (R40); `n` is the number of cycles in a block. -/
def Channel.secondWith (n : Nat) (cyc : PartialCycle) (c : Channel) : Channel :=
  { c.cycled cyc.codes with block := emptyBlock, second := c.second.withBlock n (c.block.withCycle cyc) }

section
variable {s : State} {ch : Fin 16} {cyc : PartialCycle}

theorem State.cycleOffered_channels (ch : Fin 16) (codes : List Int) (s : State) :
    (s.cycleOffered ch codes).channels = s.channels.set ch (s.channels[ch].cycled codes) := by
  simp [State.cycleOffered]

theorem State.completeCycle_eq (ch : Fin 16) (cyc : PartialCycle) (s : State) : s.completeCycle ch cyc =
    if s.cfg.device.mains.cycles ≤ s.channels[ch].block.count + 1 then
      ((s.cycleOffered ch cyc.codes).setChannel ch (s.channels[ch].blockWith cyc)).completeBlock ch cyc.gain
    else (s.cycleOffered ch cyc.codes).setChannel ch (s.channels[ch].blockWith cyc) := by
  have taken : (s.cycleOffered ch cyc.codes).channels[ch] = s.channels[ch].cycled cyc.codes := by
    rw [State.cycleOffered_channels, get_set_same]
  have unfolded : s.completeCycle ch cyc =
      let d := (s.cycleOffered ch cyc.codes).channels[ch]
      let next := (s.cycleOffered ch cyc.codes).setChannel ch { d with block := d.block.withCycle cyc }
      if s.cfg.device.mains.cycles ≤ (d.block.withCycle cyc).count then next.completeBlock ch cyc.gain else next := rfl
  rw [unfolded, taken]
  rfl

/-- The cycle joins a block that it does not fill (R39). -/
theorem State.completeCycle_within (h : s.channels[ch].block.count + 1 < s.cfg.device.mains.cycles) :
    s.completeCycle ch cyc = { s.cycleOffered ch cyc.codes with
      channels := s.channels.set ch (s.channels[ch].blockWith cyc) } := by
  rw [State.completeCycle_eq, if_neg (Nat.not_le.mpr h), State.setChannel, State.cycleOffered_channels, Vector.set_set]

theorem State.completeBlock_eq (ch : Fin 16) (gain : Nat) (s : State) : s.completeBlock ch gain =
    if 10 ≤ s.channels[ch].second.count + 1 then
      { s with
        channels := s.channels.set ch { s.channels[ch] with block := emptyBlock, second := emptySecond }
        handOffs := { s.handOffs with
          seconds := s.handOffs.seconds ++
            [completedSecond ch gain (s.channels[ch].second.withBlock s.cfg.device.mains.cycles s.channels[ch].block)] } }
    else s.setChannel ch
      { s.channels[ch] with
        block := emptyBlock
        second := s.channels[ch].second.withBlock s.cfg.device.mains.cycles s.channels[ch].block } := by
  unfold State.completeBlock State.completeSecond
  simp only [State.setHandOffs, State.setChannel, get_set_same, Vector.set_set]
  rfl

theorem State.completeCycle_full (h : s.cfg.device.mains.cycles ≤ s.channels[ch].block.count + 1) :
    s.completeCycle ch cyc =
      if 10 ≤ s.channels[ch].second.count + 1 then
        { s.cycleOffered ch cyc.codes with
          channels := s.channels.set ch
            { s.channels[ch].secondWith s.cfg.device.mains.cycles cyc with second := emptySecond }
          handOffs := { s.handOffs with
            seconds := s.handOffs.seconds ++
              [completedSecond ch cyc.gain (s.channels[ch].secondWith s.cfg.device.mains.cycles cyc).second] } }
      else
        { s.cycleOffered ch cyc.codes with
          channels := s.channels.set ch (s.channels[ch].secondWith s.cfg.device.mains.cycles cyc) } := by
  have handOffs : (s.cycleOffered ch cyc.codes).handOffs = s.handOffs := by simp [State.cycleOffered]
  have cfg : (s.cycleOffered ch cyc.codes).cfg = s.cfg := by simp [State.cycleOffered]
  rw [State.completeCycle_eq, if_pos h, State.completeBlock_eq]
  simp only [State.setChannel, State.cycleOffered_channels, get_set_same, Vector.set_set, handOffs, cfg]
  rfl

/-- The cycle fills the block, which joins a second that it does not complete (R40). -/
theorem State.completeCycle_block (h : s.cfg.device.mains.cycles ≤ s.channels[ch].block.count + 1)
    (short : s.channels[ch].second.count < 9) : s.completeCycle ch cyc = { s.cycleOffered ch cyc.codes with
      channels := s.channels.set ch (s.channels[ch].secondWith s.cfg.device.mains.cycles cyc) } := by
  rw [State.completeCycle_full h, if_neg (by omega)]

/-- The tenth block completes the second, which is handed on (R41). -/
theorem State.completeCycle_second (h : s.cfg.device.mains.cycles ≤ s.channels[ch].block.count + 1)
    (last : 9 ≤ s.channels[ch].second.count) : s.completeCycle ch cyc =
      { s.cycleOffered ch cyc.codes with
        channels := s.channels.set ch
          { s.channels[ch].secondWith s.cfg.device.mains.cycles cyc with second := emptySecond }
        handOffs := { s.handOffs with
          seconds := s.handOffs.seconds ++
            [completedSecond ch cyc.gain (s.channels[ch].secondWith s.cfg.device.mains.cycles cyc).second] } } := by
  rw [State.completeCycle_full h, if_pos (by omega)]

end

theorem Mains.cycles_eq (m : Mains) : m.cycles = if m = .hz50 then 5 else 6 := by cases m <;> rfl

theorem PartialCycle.sum_eq (c : PartialCycle) : c.sum = c.codes.sum := List.sum_eq_foldl.symm

/-- Settles O25: a sample joins its cycle or completes it, and a complete cycle does one of three things with its block. -/
theorem cyclesAndSecondsComplete : Obligations.CyclesAndSecondsComplete := by
  refine ⟨fun c q x s => ?_, fun ch code tag s => ⟨fun empty => ?_, fun cyc begun short => ?_⟩,
    fun ch code tag cyc s => ?_⟩
  · simp only [State.takeGroup, List.foldl_cons, List.foldl_nil]
    rfl
  · have next := State.nextCycle_of_none (code := code) (tag := tag) empty
    rw [State.takeSample_joins (by rw [next]; simp), next]
    rfl
  · have next := State.nextCycle_of_some (code := code) (tag := tag) begun
    rw [State.takeSample_joins (by rw [next]; simp; omega), next]
    rfl
  intro c n codes value blockSum b blockGrade grade rawSum rawCount ring cycled offered begun full
  have next := State.nextCycle_of_some (code := code) (tag := tag) begun
  let done : PartialCycle := { cyc with codes := codes, grade := cyc.grade.worse (gradeOf tag code) }
  let joined := s.setChannel ch { c with second := c.second.withCode code }
  have sample : s.takeSample ch code tag = joined.completeCycle ch done := by
    rw [State.takeSample_completes (by rw [next]; simp [full]), next]
  have cycles : joined.cfg.device.mains.cycles = n := Mains.cycles_eq _
  have channel : joined.channels[ch] = { c with second := c.second.withCode code } := get_set_same _ _ _
  have others (x : Channel) : joined.channels.set ch x = s.channels.set ch x := Vector.set_set ..
  have toRing : joined.channels[ch].cycled codes = cycled := by
    rw [channel, Channel.cycled, ringWith_eq_drop]
    rfl
  have offer : joined.cycleOffered ch codes = offered := by
    rw [State.cycleOffered, toRing, State.setChannel, others]
    rfl
  have formed : done.value = value := by
    rw [PartialCycle.value, PartialCycle.sum_eq]
    rfl
  have block : joined.channels[ch].blockWith done = { cycled with block := ⟨c.block.count + 1, blockSum, blockGrade⟩ } := by
    rw [Channel.blockWith, toRing, PartialBlock.withCycle, formed, channel]
  have second : joined.channels[ch].secondWith n done = { cycled with
      block := ⟨0, 0, .good⟩, second := ⟨c.second.count + 1, c.second.sum + b, grade, rawSum, rawCount⟩ } := by
    rw [Channel.secondWith, toRing, PartialBlock.withCycle, formed, channel]
    rfl
  have count : joined.channels[ch].block.count = c.block.count ∧ joined.channels[ch].second.count = c.second.count := by
    rw [channel]
    exact ⟨rfl, rfl⟩
  obtain ⟨blockCount, secondCount⟩ := count
  rw [sample]
  refine ⟨fun within => ?_, fun fills short => ?_, fun fills last => ?_⟩
  · rw [State.completeCycle_within (by rw [cycles, blockCount]; exact within), block, others, offer]
  · rw [State.completeCycle_block (by rw [cycles, blockCount, fills]) (by rw [secondCount]; exact short), cycles, second,
      others, offer]
  · rw [State.completeCycle_second (by rw [cycles, blockCount, fills]) (by rw [secondCount, last]), cycles, second,
      others, offer]
    rfl

end Sys2Proof.Machine
end

section
/-! The sample line (R18 to R23): what hunting and assembly make of a whole frame, of noise, of damage and of discards. -/

namespace Sys2Proof.Machine

/-! ### Headers and lengths -/

theorem FrameKind.bytes_pos (kind : FrameKind) : 2 < kind.bytes := by cases kind <;> simp [FrameKind.bytes]

theorem headerKind_current (c : Fin 4) : headerKind (BitVec.ofNat 8 (16 * c.val + 1)) = some (.current c) := by
  revert c; decide

theorem headerKind_field : headerKind 0x42 = some .field := by decide

/-! ### Hunting -/

section
variable {fuel : Nat}

/-- A byte other than the sync byte is passed over while hunting (R19). -/
theorem scanSample_skip {b : Byte} (hb : b ≠ 0x96) (rest : List Byte) :
    scanSample (fuel + 1) (b :: rest) = scanSample fuel rest := if_pos hb

/-- A sync byte at the end begins a frame. -/
theorem scanSample_sync : scanSample (fuel + 1) [0x96] = ([], [0x96]) := rfl

/-- A header that does not pass is hunted again from (R19). -/
theorem scanSample_badHeader {h : Byte} (hh : headerKind h = none) (rest : List Byte) :
    scanSample (fuel + 1) (0x96 :: h :: rest) = scanSample fuel (h :: rest) := by
  refine (if_neg (not_not.mpr rfl)).trans ?_
  simp only [hh]

/-- Bytes that end no frame stay in assembly (R19). -/
theorem scanSample_short {kind : FrameKind} {h : Byte} (hh : headerKind h = some kind) {more : List Byte}
    (short : more.length + 2 ≤ kind.bytes) : scanSample (fuel + 1) (0x96 :: h :: more) = ([], 0x96 :: h :: more) := by
  have left : (0x96 :: h :: more : List Byte).drop kind.bytes = [] :=
    List.drop_eq_nil_of_le (by simp only [List.length_cons]; omega)
  refine (if_neg (not_not.mpr rfl)).trans ?_
  simp only [hh, left]

/-- What stands behind a complete run of bytes. -/
theorem drop_complete {kind : FrameKind} {h : Byte} {more : List Byte} (complete : more.length + 2 = kind.bytes)
    (after : List Byte) : (0x96 :: h :: (more ++ after) : List Byte).drop kind.bytes = after := by
  rw [← complete]
  simp

/-- A byte other than the sync byte behind a complete frame discards it (R19). -/
theorem scanSample_discard {kind : FrameKind} {h : Byte} (hh : headerKind h = some kind) {more : List Byte}
    (complete : more.length + 2 = kind.bytes) {b : Byte} (hb : b ≠ 0x96) (after : List Byte) :
    scanSample (fuel + 1) (0x96 :: h :: (more ++ b :: after)) = scanSample fuel (b :: after) := by
  have left := drop_complete (h := h) complete (b :: after)
  refine (if_neg (not_not.mpr rfl)).trans ?_
  simp only [hh, left]
  exact if_pos hb

/-- A complete frame closed by a sync byte is valid where its CRC agrees, and else is hunted again from the byte after its own
sync byte (R20). -/
theorem scanSample_closed {kind : FrameKind} {h : Byte} (hh : headerKind h = some kind) {more : List Byte}
    (complete : more.length + 2 = kind.bytes) (after : List Byte) :
    scanSample (fuel + 1) (0x96 :: h :: (more ++ 0x96 :: after)) =
      if frameCrcOk kind (0x96 :: h :: (more ++ 0x96 :: after)) then
        (.valid (frameOf kind (0x96 :: h :: (more ++ 0x96 :: after))) :: (scanSample fuel (0x96 :: after)).1,
          (scanSample fuel (0x96 :: after)).2)
      else
        (.crcFailed :: (scanSample fuel (h :: (more ++ 0x96 :: after))).1,
          (scanSample fuel (h :: (more ++ 0x96 :: after))).2) := by
  have left := drop_complete (h := h) complete (0x96 :: after)
  refine (if_neg (not_not.mpr rfl)).trans ?_
  simp only [hh, left]
  exact if_neg (not_not.mpr rfl)

/-- Noise is passed over while hunting (R19). -/
theorem scanSample_noise {noise : List Byte} (quiet : (0x96 : Byte) ∉ noise) (fuel : Nat) (rest : List Byte) :
    scanSample (fuel + noise.length) (noise ++ rest) = scanSample fuel rest := by
  induction noise with
  | nil => rfl
  | cons b noise ih =>
    obtain ⟨hb, hn⟩ := not_or.mp (List.mem_cons.not.mp quiet)
    exact (scanSample_skip (Ne.symm hb) _).trans (ih hn)

end

/-! ### Whole frames -/

section
variable {kind : FrameKind} {covered : List Byte} {check : Byte}

/-- The check byte of a whole frame is held against the CRC-8 of what it covers (R20). -/
theorem frameCrcOk_whole (len : covered.length + 2 = kind.bytes) (after : List Byte) :
    frameCrcOk kind (0x96 :: (covered ++ check :: after)) = decide (crc8 covered = check) := by
  have last : kind.bytes - 1 = covered.length + 1 := by omega
  simp [frameCrcOk, last, beq_eq_decide]

/-- The frame of bytes that cover `covered`, which begins with a header that passes. -/
theorem exists_header (header : headerKind (covered.getD 0 0) = some kind) (len : covered.length + 2 = kind.bytes) :
    ∃ h more, covered = h :: more ∧ headerKind h = some kind ∧ more.length + 3 = kind.bytes := by
  cases covered with
  | nil => have := kind.bytes_pos; simp at len; omega
  | cons h more => exact ⟨h, more, rfl, header, by simpa [Nat.add_assoc] using len⟩

variable (header : headerKind (covered.getD 0 0) = some kind) (len : covered.length + 2 = kind.bytes)
include header len

/-- A whole frame closed by a sync byte: valid where its check byte agrees, and else hunted again (R20). -/
theorem scanSample_whole (fuel : Nat) :
    scanSample (fuel + 1) (0x96 :: (covered ++ [check, 0x96])) =
      if crc8 covered = check then
        (.valid (frameOf kind (0x96 :: (covered ++ [check, 0x96]))) :: (scanSample fuel [0x96]).1,
          (scanSample fuel [0x96]).2)
      else
        (.crcFailed :: (scanSample fuel (covered ++ [check, 0x96])).1, (scanSample fuel (covered ++ [check, 0x96])).2) := by
  have agrees := frameCrcOk_whole (check := check) len [0x96]
  obtain ⟨h, more, rfl, hh, hl⟩ := exists_header header len
  have closed := scanSample_closed (fuel := fuel) hh (more := more ++ [check]) (by simpa using hl) []
  simp only [List.append_assoc, List.cons_append, List.nil_append] at closed agrees ⊢
  rw [closed, agrees]
  simp only [decide_eq_true_eq]

/-- A whole frame not closed yet stays in assembly (R19). -/
theorem scanSample_open (fuel : Nat) :
    scanSample (fuel + 1) (0x96 :: (covered ++ [check])) = ([], 0x96 :: (covered ++ [check])) := by
  obtain ⟨h, more, rfl, hh, hl⟩ := exists_header header len
  exact scanSample_short hh (by simp; omega)

/-- An idle line closes a whole frame as a sync byte does (R19, R20). -/
theorem idleSample_whole (fuel : Nat) :
    idleSample (fuel + 1) (0x96 :: (covered ++ [check])) =
      if crc8 covered = check then [.valid (frameOf kind (0x96 :: (covered ++ [check])))]
      else
        .crcFailed :: ((scanSample (covered ++ [check]).length (covered ++ [check])).1 ++
          idleSample fuel (scanSample (covered ++ [check]).length (covered ++ [check])).2) := by
  have agrees := frameCrcOk_whole (check := check) len []
  have complete : ¬ (0x96 :: (covered ++ [check])).length < kind.bytes := by simp; omega
  obtain ⟨h, more, rfl, hh, hl⟩ := exists_header header len
  simp only [List.cons_append] at agrees complete ⊢
  rw [idleSample]
  simp only [hh, complete, if_false, agrees, decide_eq_true_eq]

end

/-- An idle line behind a short frame discards it (R19). -/
theorem idleSample_short {kind : FrameKind} {h : Byte} (hh : headerKind h = some kind) {more : List Byte}
    (short : more.length + 2 < kind.bytes) (fuel : Nat) : idleSample (fuel + 1) (0x96 :: h :: more) = [] := by
  have incomplete : (0x96 :: h :: more : List Byte).length < kind.bytes := by simpa using short
  rw [idleSample]
  simp only [hh, incomplete, if_true]

/-! ### What the intake does with what the line closed -/

/-- `s` with other bytes in assembly. -/
def State.withLine (l : List Byte) (s : State) : State := { s with intake := { s.intake with line := l } }

/-- `s` with CRC_SEEN set (R20). -/
def State.crcMarked (s : State) : State := { s with intake := { s.intake with crcSeen := true } }

section
variable {s : State}

theorem State.withLine_self {l : List Byte} (h : s.intake.line = l) : s.withLine l = s := by
  rw [← h]
  rfl

theorem State.lineEvents_append (es fs : List LineEvent) (s : State) :
    s.lineEvents (es ++ fs) = (s.lineEvents es).lineEvents fs := List.foldl_append

theorem State.lineEvents_crcFailed (es : List LineEvent) (s : State) :
    s.lineEvents (.crcFailed :: es) = s.crcMarked.lineEvents es := rfl

theorem State.lineEvents_valid (f : Frame) (s : State) : s.lineEvents [.valid f] = s.arrive f := rfl

/-- What the line closed is dealt with whatever is in assembly. -/
theorem State.lineEvent_withLine (e : LineEvent) (l : List Byte) (s : State) :
    (s.withLine l).lineEvent e = (s.lineEvent e).withLine l := by
  cases e with
  | crcFailed => rfl
  | valid f =>
    show (s.withLine l).arrive f = (s.arrive f).withLine l
    unfold State.arrive
    by_cases room : s.intake.fifo.length < Config.fifoDepth
    · rw [if_pos room, if_pos (by exact room)]
      rfl
    · rw [if_neg room, if_neg (by exact room)]
      rfl

theorem State.lineEvents_withLine (es : List LineEvent) (l : List Byte) (s : State) :
    (s.withLine l).lineEvents es = (s.lineEvents es).withLine l := by
  induction es generalizing s with
  | nil => rfl
  | cons e es ih =>
    have first : (s.withLine l).lineEvents (e :: es) = ((s.withLine l).lineEvent e).lineEvents es := rfl
    rw [first, State.lineEvent_withLine, ih]
    rfl

/-- Bytes received are looked over from the sync byte in assembly on; any number of looks that is enough will do. -/
theorem State.sampleBytes_of_scan {bytes all l : List Byte} {es : List LineEvent} (fuel : Nat)
    (received : s.intake.line ++ bytes = all) (enough : all.length ≤ fuel) (scanned : scanSample fuel all = (es, l)) :
    s.sampleBytes bytes = (s.lineEvents es).withLine l := by
  have : receiveSample s.intake.line bytes = (es, l) := by
    rw [receiveSample, received, ← scanned]
    exact scanSample_fuel _ _ _ (Nat.le_succ _) enough
  rw [← State.lineEvents_withLine, State.sampleBytes, this]
  rfl

/-- An idle line closes what is in assembly (R19). -/
theorem State.sampleIdle_of_idle {l : List Byte} {es : List LineEvent} (fuel : Nat) (enough : l.length ≤ fuel)
    (closed : idleSample fuel l = es) : (s.withLine l).sampleIdle = (s.lineEvents es).withLine [] := by
  have : idleSample (l.length + 1) l = es := (idleSample_fuel _ _ _ (Nat.le_succ _) enough).trans closed
  rw [← State.lineEvents_withLine, ← this]
  rfl

/-- A valid frame arrives: it joins the FIFO or sets OVERRUN, and reloads the silence timer (R22, R23). -/
theorem State.arrive_withLine (f : Frame) (l : List Byte) (s : State) :
    (s.arrive f).withLine l = s.frameJoined l f := by
  unfold State.arrive State.frameJoined
  by_cases room : s.intake.fifo.length < 8
  · have : ¬ 8 ≤ s.intake.fifo.length := by omega
    simp only [if_pos room, this, decide_false, Bool.or_false]
    exact (congrArg (State.withLine l) (if_pos room)).trans rfl
  · have : 8 ≤ s.intake.fifo.length := by omega
    simp only [if_neg room, this, decide_true, Bool.or_true]
    exact (congrArg (State.withLine l) (if_neg room)).trans rfl

end

/-! ### A whole frame on the line -/

theorem exec_sampleFrame (bytes : List Byte) (s : State) :
    exec (.sampleFrame bytes) s = .next (s.sampleBytes (bytes ++ [0x96])) := rfl

theorem exec_sampleLineIdle (bytes : List Byte) (s : State) :
    exec (.sampleLineIdle bytes) s = .next (s.sampleBytes bytes).sampleIdle := rfl

/-- Bytes and then an idle line, by what the bytes close and what the idle line closes behind them (R19). -/
theorem exec_sampleLineIdle_of_scan {s : State} {bytes all l : List Byte} {es fs : List LineEvent} (fuel : Nat)
    (received : s.intake.line ++ bytes = all) (enough : all.length ≤ fuel) (scanned : scanSample fuel all = (es, l))
    (closed : idleSample fuel l = fs) :
    exec (.sampleLineIdle bytes) s = .next ((s.lineEvents (es ++ fs)).withLine []) := by
  have left : l.length ≤ fuel := by
    have := scanSample_length fuel all
    rw [scanned] at this
    exact this.trans enough
  rw [exec_sampleLineIdle, State.sampleBytes_of_scan fuel received enough scanned,
    State.sampleIdle_of_idle fuel left closed, State.lineEvents_append]

section
variable {kind : FrameKind} {covered bytes : List Byte} {s : State}
  (header : headerKind (covered.getD 0 0) = some kind) (len : covered.length + 2 = kind.bytes)
  (received : s.intake.line ++ bytes = 0x96 :: (covered ++ [crc8 covered]))
include header len received

/-- A whole frame whose check byte agrees, closed by the next sync byte (R20, R22, R23). -/
theorem exec_sampleFrame_valid : exec (.sampleFrame bytes) s =
    .next (s.frameJoined [0x96] (frameOf kind (0x96 :: (covered ++ [crc8 covered, 0x96])))) := by
  have all : s.intake.line ++ (bytes ++ [0x96]) = 0x96 :: (covered ++ [crc8 covered, 0x96]) := by
    rw [← List.append_assoc, received]
    simp
  have scanned := scanSample_whole (check := crc8 covered) header len (covered.length + 3)
  rw [if_pos rfl, scanSample_sync] at scanned
  rw [exec_sampleFrame, State.sampleBytes_of_scan _ all (by simp) scanned, State.lineEvents_valid, State.arrive_withLine]

/-- A whole frame whose check byte agrees, closed by an idle line (R19, R22, R23). -/
theorem exec_sampleLineIdle_valid : exec (.sampleLineIdle bytes) s =
    .next (s.frameJoined [] (frameOf kind (0x96 :: (covered ++ [crc8 covered])))) := by
  have closed := idleSample_whole (check := crc8 covered) header len (covered.length + 1)
  rw [if_pos rfl] at closed
  rw [exec_sampleLineIdle_of_scan _ received (by simp) (scanSample_open header len (covered.length + 1)) closed,
    List.nil_append, State.lineEvents_valid, State.arrive_withLine]

end

theorem signed_eq (n : Nat) : signed 16 n = (if n < 32768 then (n : Int) else n - 65536) ∧
    signed 24 n = (if n < 8388608 then (n : Int) else n - 16777216) := ⟨rfl, rfl⟩

/-- Settles O17: hunted for or back to back, the same bytes stand on the line, and each kind's fields are read from them. -/
theorem validSampleFrameArrives : Obligations.ValidSampleFrameArrives := by
  refine ⟨signed_eq, fun covered bytes s start => ?_⟩
  have received : s.intake.line ++ bytes = 0x96 :: (covered ++ [crc8 covered]) := by
    rcases start with ⟨hunting, rfl⟩ | ⟨begun, rfl⟩
    · rw [hunting]; rfl
    · rw [begun]; rfl
  intro arrives
  have valid {kind : FrameKind} (header : headerKind (covered.getD 0 0) = some kind) (len : covered.length + 2 = kind.bytes) :=
    And.intro (exec_sampleFrame_valid header len received) (exec_sampleLineIdle_valid header len received)
  refine ⟨?_, ?_⟩
  · rintro c q st a b a' b' a'' b'' a''' b''' rfl
    exact valid (headerKind_current c) rfl
  · rintro q st a b c a' b' c' rfl
    exact valid headerKind_field rfl

/-! ### Damage and discards -/

section
variable {kind : FrameKind} {covered : List Byte} {check : Byte} {s : State}

section
variable (hunting : s.intake.line = []) (header : headerKind (covered.getD 0 0) = some kind)
  (len : covered.length + 2 = kind.bytes) (differs : crc8 covered ≠ check)
include hunting header len differs

/-- A frame that fails its CRC sets CRC_SEEN, and its bytes are hunted again from the one after its sync byte (R20). -/
theorem exec_sampleFrame_crcFailed : exec (.sampleFrame (0x96 :: (covered ++ [check]))) s =
    exec (.sampleFrame (covered ++ [check])) s.crcMarked := by
  have all : s.intake.line ++ (0x96 :: (covered ++ [check]) ++ [0x96]) = 0x96 :: (covered ++ [check, 0x96]) := by
    rw [hunting]
    simp
  have again : s.crcMarked.intake.line ++ (covered ++ [check] ++ [0x96]) = covered ++ [check, 0x96] := by
    rw [show s.crcMarked.intake.line = [] from hunting]
    simp
  have scanned := scanSample_whole (check := check) header len (covered.length + 2)
  rw [if_neg differs] at scanned
  rw [exec_sampleFrame, exec_sampleFrame, State.sampleBytes_of_scan _ all (by simp) scanned,
    State.sampleBytes_of_scan (covered.length + 2) again (by simp) rfl, State.lineEvents_crcFailed]

/-- So it does where an idle line closes it, with the line still idle behind what is hunted again (R20). -/
theorem exec_sampleLineIdle_crcFailed : exec (.sampleLineIdle (0x96 :: (covered ++ [check]))) s =
    exec (.sampleLineIdle (covered ++ [check])) s.crcMarked := by
  have all : s.intake.line ++ 0x96 :: (covered ++ [check]) = 0x96 :: (covered ++ [check]) := by rw [hunting]; rfl
  have again : s.crcMarked.intake.line ++ (covered ++ [check]) = covered ++ [check] := by
    exact congrArg (· ++ (covered ++ [check])) hunting
  have closed := idleSample_whole (check := check) header len (covered ++ [check]).length
  rw [if_neg differs] at closed
  rw [exec_sampleLineIdle_of_scan _ all (by simp) (scanSample_open header len _) closed,
    exec_sampleLineIdle_of_scan (covered ++ [check]).length again le_rfl rfl rfl, List.nil_append,
    State.lineEvents_crcFailed]

end

/-- Noise leaves the line hunting (R19). -/
theorem scanSample_noise_nil {noise : List Byte} (quiet : (0x96 : Byte) ∉ noise) :
    scanSample (1 + noise.length) noise = ([], []) := by
  have := scanSample_noise quiet 1 []
  rwa [List.append_nil] at this

section
variable {noise : List Byte} (hunting : s.intake.line = []) (quiet : (0x96 : Byte) ∉ noise)
include hunting quiet

theorem exec_sampleFrame_noise : exec (.sampleFrame noise) s = .next (s.withLine [0x96]) := by
  rw [exec_sampleFrame, State.sampleBytes_of_scan (1 + noise.length) (by rw [hunting]; rfl) (by simp)
    (scanSample_noise quiet 1 [0x96])]
  rfl

theorem State.sampleBytes_noise : s.sampleBytes noise = s := by
  rw [State.sampleBytes_of_scan (1 + noise.length) (by rw [hunting]; rfl) (by omega) (scanSample_noise_nil quiet)]
  exact State.withLine_self hunting

theorem exec_sampleLineIdle_noise : exec (.sampleLineIdle noise) s = .next s := by
  rw [exec_sampleLineIdle_of_scan (1 + noise.length) (by rw [hunting]; rfl) (by omega) (scanSample_noise_nil quiet)
    (fs := []) (by rw [Nat.add_comm]; rfl)]
  exact congrArg Host.Outcome.next (State.withLine_self hunting)

/-- A damaged byte is passed over while hunting (R18). -/
theorem exec_sampleDamagedByte_noise : exec (.sampleDamagedByte noise) s = .next s := by
  show Host.Outcome.next (s.sampleBytes noise).sampleDamaged = _
  rw [State.sampleBytes_noise hunting quiet, State.sampleDamaged, hunting]
  rfl

end

section
variable {h : Byte} {more : List Byte} (hunting : s.intake.line = []) (header : headerKind h = some kind)
include hunting header

/-- A damaged byte discards the frame in assembly and sets CRC_SEEN (R18). -/
theorem exec_sampleDamagedByte_assembling (within : more.length + 2 ≤ kind.bytes) :
    exec (.sampleDamagedByte (0x96 :: h :: more)) s = .next s.crcMarked := by
  show Host.Outcome.next (s.sampleBytes _).sampleDamaged = _
  rw [State.sampleBytes_of_scan (more.length + 1 + 1) (by rw [hunting]; rfl) (by simp) (scanSample_short header within)]
  exact congrArg (fun u : State => Host.Outcome.next u.crcMarked) (State.withLine_self hunting)

/-- An idle line behind a short frame discards it with no flag (R19). -/
theorem exec_sampleLineIdle_short (short : more.length + 2 < kind.bytes) :
    exec (.sampleLineIdle (0x96 :: h :: more)) s = .next s := by
  rw [exec_sampleLineIdle_of_scan (more.length + 1 + 1) (by rw [hunting]; rfl) (by simp)
    (scanSample_short header short.le) (idleSample_short header short _)]
  exact congrArg Host.Outcome.next (State.withLine_self hunting)

/-- A byte other than the sync byte behind a complete frame discards it with no flag (R19). -/
theorem exec_sampleFrameDiscard_long {b : Byte} (complete : more.length + 2 = kind.bytes) (hb : b ≠ 0x96) :
    exec (.sampleFrameDiscard (0x96 :: h :: (more ++ [b]))) s = .next s := by
  show Host.Outcome.next (s.sampleBytes _) = _
  have scanned := scanSample_discard (fuel := more.length + 2) header complete hb []
  rw [scanSample_skip hb] at scanned
  rw [State.sampleBytes_of_scan _ (by rw [hunting]; rfl) (by simp) scanned]
  exact congrArg Host.Outcome.next (State.withLine_self hunting)

end

/-- A header that does not pass discards the frame, and is hunted from itself (R19). -/
theorem exec_sampleFrameDiscard_header {h : Byte} (hunting : s.intake.line = []) (header : headerKind h = none) :
    exec (.sampleFrameDiscard [0x96, h]) s = .next (s.withLine (if h = 0x96 then [0x96] else [])) := by
  show Host.Outcome.next (s.sampleBytes _) = _
  have scanned : scanSample 3 [0x96, h] = ([], if h = 0x96 then [0x96] else []) := by
    rw [scanSample_badHeader header]
    by_cases sync : h = 0x96
    · rw [if_pos sync, sync, scanSample_sync]
    · rw [if_neg sync, scanSample_skip sync]
      rfl
  rw [State.sampleBytes_of_scan 3 (by rw [hunting]; rfl) (by simp) scanned]
  rfl

end

/-- Settles O18: the rewind for both ways of closing, noise behind it, and each discard. -/
theorem damagedSampleFrames : Obligations.DamagedSampleFrames := by
  refine ⟨fun kind covered check s hunting header len differs quiet other => ?_,
    fun kind covered check s hunting header len differs => ?_,
    fun kind h more s hunting header => ⟨?_, ?_, ?_⟩, fun noise s hunting quiet => ?_, fun h s hunting header => ?_⟩
  · have noise : (0x96 : Byte) ∉ covered ++ [check] := fun h =>
      (List.mem_append.mp h).elim quiet fun h => other (List.mem_singleton.mp h).symm
    rw [exec_sampleFrame_crcFailed hunting header len differs, exec_sampleLineIdle_crcFailed hunting header len differs]
    exact ⟨exec_sampleFrame_noise hunting noise, exec_sampleLineIdle_noise hunting noise⟩
  · exact ⟨exec_sampleFrame_crcFailed hunting header len differs, exec_sampleLineIdle_crcFailed hunting header len differs⟩
  · exact exec_sampleDamagedByte_assembling hunting header
  · exact exec_sampleLineIdle_short hunting header
  · exact fun b => exec_sampleFrameDiscard_long hunting header
  · exact ⟨exec_sampleDamagedByte_noise hunting quiet, exec_sampleLineIdle_noise hunting quiet⟩
  · exact exec_sampleFrameDiscard_header hunting header

end Sys2Proof.Machine
end

section
/-! What Sample Intake hands on for a frame of a converter that has a reference (R25 to R29), and what the channels hold then. -/

namespace Sys2Proof.Machine

/-! ### Groups handed on one after another -/

/-- The groups `G 0`, `G 1`, … taken one after another, `n` of them (R29). -/
def State.takeRun (G : Nat → SampleGroup) (n : Nat) (s : State) : State :=
  (List.range n).foldl (fun v k => v.takeGroup (G k)) s

section
variable {G : Nat → SampleGroup} {n : Nat} {s : State}

theorem State.takeRun_succ : s.takeRun G (n + 1) = (s.takeRun G n).takeGroup (G n) := by
  simp only [State.takeRun, List.range_succ, List.foldl_append, List.foldl_cons, List.foldl_nil]

theorem State.takeRun_succ_left : s.takeRun G (n + 1) = (s.takeGroup (G 0)).takeRun (fun k => G (k + 1)) n := by
  simp only [State.takeRun, List.range_succ_eq_map, List.foldl_cons, List.foldl_map]

/-- A run of groups keeps what one group keeps. -/
@[simp] theorem State.takeRun_frame : (s.takeRun G n).intake = s.intake ∧ (s.takeRun G n).cfg = s.cfg ∧
    (s.takeRun G n).live = s.live ∧ (s.takeRun G n).time = s.time := by
  induction n with
  | zero => exact ⟨rfl, rfl, rfl, rfl⟩
  | succ n ih => simpa [State.takeRun_succ] using ih

/-- A run of groups does not meet the intake. -/
theorem State.takeRun_withIntake (x : Intake) : (s.withIntake x).takeRun G n = (s.takeRun G n).withIntake x := by
  induction n with
  | zero => rfl
  | succ n ih => rw [State.takeRun_succ, State.takeRun_succ, ih, State.takeGroup_withIntake]

end

/-! ### Fills -/

/-- The group of a fill frame that stands for the sequence `seq` of `f`'s converter, under the tag `tag` (R26, R29). -/
def State.fillOf (f : Frame) (tag : Tag) (seq : Byte) (s : State) : SampleGroup :=
  match f with
  | .current c _ _ _ _ => groupOf c seq fun ch => (s.fillAt ch, tag)
  | .field _ _ _ _ _ => .field seq s.intake.heldNorth s.intake.heldEast tag

theorem State.fillGroup_eq (f : Frame) (seq : Byte) (s : State) :
    s.fillGroup f seq = s.fillOf f (fillTag (s.converter f.converter).state) seq := by
  cases f with
  | current c q selftest low codes => exact State.fillGroup_current c q selftest low codes seq s
  | field q selftest low north east => rfl

/-- Fills read the settings, the live parts and the held values. -/
theorem State.fillOf_congr {s u : State} (hc : u.cfg = s.cfg) (hl : u.live = s.live) (hh : u.intake.held = s.intake.held)
    (hn : u.intake.heldNorth = s.intake.heldNorth) (he : u.intake.heldEast = s.intake.heldEast) (f : Frame) (tag : Tag)
    (seq : Byte) : u.fillOf f tag seq = s.fillOf f tag seq := by
  cases f <;> simp only [State.fillOf, State.fillAt, hc, hl, hh, hn, he]

theorem State.fillOf_takeGroup (g : SampleGroup) (f : Frame) (tag : Tag) (seq : Byte) (s : State) :
    (s.takeGroup g).fillOf f tag seq = s.fillOf f tag seq :=
  State.fillOf_congr (by simp) (by simp) (by simp) (by simp) (by simp) f tag seq

/-- The fills for the sequences from `seq` on, as they are formed at `s` (R26). -/
def State.fills (f : Frame) (tag : Tag) (seq : Byte) (s : State) (k : Nat) : SampleGroup :=
  s.fillOf f tag (seq + BitVec.ofNat 8 k)

/-- Fill frames are handed on one after another: what is taken of one does not change the next (R26, R29). -/
theorem State.handFills_eq (f : Frame) (n : Nat) (seq : Byte) (s : State) :
    s.handFills f seq n = s.takeRun (s.fills f (fillTag (s.converter f.converter).state) seq) n := by
  induction n generalizing seq s with
  | zero => rfl
  | succ n ih =>
    have step (k : Nat) : seq + 1 + BitVec.ofNat 8 k = seq + BitVec.ofNat 8 (k + 1) := by
      rw [BitVec.add_assoc, BitVec.add_comm 1, BitVec.ofNat_add]
      rfl
    have first : s.handFill f seq = s.takeGroup (s.fills f (fillTag (s.converter f.converter).state) seq 0) := by
      rw [State.handFill, State.fillGroup_eq, State.fills, BitVec.add_zero]
    rw [State.handFills, first, ih, State.takeRun_succ_left]
    refine congrArg (fun G => State.takeRun G n _) (funext fun k => ?_)
    rw [State.fills, State.fillOf_takeGroup, step]
    simp only [State.converter, State.takeGroup_frame]
    rfl

/-- The fill behind the last missing frame stands for the frame itself (R25). -/
theorem fills_own {q r : Byte} (d : 1 ≤ (q - r).toNat) : r + 1 + BitVec.ofNat 8 ((q - r).toNat - 1) = q := by
  bv_omega

/-! ### A converter's state -/

/-- The intake with converter `c` in state `v`. -/
def Intake.moved (c : Fin 5) (v : ConverterState) (x : Intake) : Intake :=
  { x with converters := x.converters.set c { x.converters[c] with state := v } }

/-- A converter has become FAULTED: CONVERTER_FAULT is made and the contacts are told (R28, R31, R157). -/
def State.faultFound (c : Fin 5) (now : Stamp) (s : State) : State :=
  { s with
    link := s.made [deviceRecord .converterFault (some c.val) now]
    handOffs := { s.handOffs with reports := s.handOffs.reports ++ [.converter c] } }

section
variable {c : Fin 5} {now : Stamp} {s : State} {v w : ConverterState} {f : Frame} {q r : Byte}

@[simp] theorem State.withIntake_intake (x : Intake) : (s.withIntake x).intake = x := rfl
@[simp] theorem State.withIntake_withIntake (x y : Intake) : (s.withIntake x).withIntake y = s.withIntake y := rfl
@[simp] theorem State.faultFound_channels (k : Fin 5) (now : Stamp) : (s.faultFound k now).channels = s.channels := by
  dsimp only [State.faultFound]
@[simp] theorem State.faultFound_cfg : (s.faultFound c now).cfg = s.cfg := rfl
@[simp] theorem State.faultFound_live : (s.faultFound c now).live = s.live := rfl

@[simp] theorem Intake.moved_moved (x : Intake) : (x.moved c v).moved c w = x.moved c w := by
  simp only [Intake.moved, get_set_same, Vector.set_set]

@[simp] theorem State.converter_moved_state (x : Intake) : ((s.withIntake (x.moved c v)).converter c).state = v := by
  simp [State.converter, State.withIntake, Intake.moved]

/-- A change within LOCKED or FAULTED is not told to the contacts (R157). -/
theorem State.setConverterState_quiet (same : (s.converter c).state.isFaulted = v.isFaulted) :
    s.setConverterState c v = s.withIntake (s.intake.moved c v) := by
  rw [State.setConverterState, same, bne_self_eq_false]
  rfl

/-- A change into or out of FAULTED is (R157). -/
theorem State.setConverterState_reports (differs : (s.converter c).state.isFaulted ≠ v.isFaulted) :
    s.setConverterState c v = (s.withIntake (s.intake.moved c v)).report (.converter c) := by
  rw [State.setConverterState, bne_iff_ne.mpr differs]
  rfl

theorem State.followRef_of_locked (state : (s.converter f.converter).state = .locked r) :
    s.followRef f = s.withIntake (s.intake.moved f.converter (.locked f.seq)) := by
  rw [State.followRef, state]
  exact State.setConverterState_quiet (by rw [state]; rfl)

theorem State.followRef_of_faulted (state : (s.converter f.converter).state = .faulted r) :
    s.followRef f = s.withIntake (s.intake.moved f.converter (.faulted f.seq)) := by
  rw [State.followRef, state]
  exact State.setConverterState_quiet (by rw [state]; rfl)

/-- SELFTEST_FAIL makes a LOCKED converter FAULTED (R28). -/
theorem State.handleStatus_failed (state : (s.converter f.converter).state = .locked r) (fails : f.selftestFail = true) :
    s.handleStatus f = (s.faultFound f.converter s.time.now).withIntake (s.intake.moved f.converter (.faulted r)) := by
  simp only [State.handleStatus, state, fails, if_true]
  rw [State.setConverterState_reports (by rw [state]; exact Bool.false_ne_true)]
  rfl

theorem State.handleStatus_sound (fails : f.selftestFail = false) : s.handleStatus f = s := by
  unfold State.handleStatus
  split
  · rw [fails]
    rfl
  · rfl

theorem State.handleStatus_of_faulted (state : (s.converter f.converter).state = .faulted r) : s.handleStatus f = s := by
  simp only [State.handleStatus, state]

theorem State.handOwn_of_locked (state : (s.converter f.converter).state = .locked r) :
    s.handOwn f = State.takeGroup f.group (s.withIntake (s.intake.holding f)) := by
  rw [State.handOwn, state]
  rfl

theorem State.handOwn_of_faulted (state : (s.converter f.converter).state = .faulted r) :
    s.handOwn f = s.takeGroup (s.fillOf f .fault f.seq) := by
  rw [State.handOwn, state, State.handFill, State.fillGroup_eq, state]
  rfl

/-- A fill does not go by the converters' states but for its tag (R26). -/
theorem State.fillOf_moved {u : State} {x : Intake} {tag : Tag} (hc : u.cfg = s.cfg) (hl : u.live = s.live)
    (hx : x = s.intake) : (u.withIntake (x.moved c v)).fillOf f tag q = s.fillOf f tag q := by
  subst hx
  exact State.fillOf_congr (u := u.withIntake (s.intake.moved c v)) hc hl rfl rfl rfl f tag q

/-! ### A frame in step or behind a gap -/

theorem State.judge_of_ref (ref : (s.converter f.converter).state.ref? = some r) (behind : 1 ≤ (f.seq - r).toNat) :
    s.judge f = if (f.seq - r).toNat ≤ 9 then
        (((s.handFills f (r + 1) ((f.seq - r).toNat - 1)).handleStatus f).followRef f).handOwn f
      else s.resync f := by
  have new : (f.seq - r).toNat ≠ 0 := Nat.one_le_iff_ne_zero.mp behind
  have cases : s.judge f = if (f.seq - r).toNat = 0 then s
      else if (f.seq - r).toNat ≤ 9 then
        (((s.handFills f (r + 1) ((f.seq - r).toNat - 1)).handleStatus f).followRef f).handOwn f
      else s.resync f := by
    simp only [State.judge, ref]
    rfl
  rw [cases, if_neg new]

section
variable (behind : 1 ≤ (f.seq - r).toNat) (near : (f.seq - r).toNat ≤ 9)
include behind near

/-- LOCKED: the fills, and then the frame's own samples, which become the held values (R26, R29). -/
theorem State.judge_near_locked (state : (s.converter f.converter).state = .locked r) (fails : f.selftestFail = false) :
    s.judge f = State.takeGroup f.group
      ((s.takeRun (s.fills f .filled (r + 1)) ((f.seq - r).toNat - 1)).withIntake
        ((s.intake.moved f.converter (.locked f.seq)).holding f)) := by
  have still (G : Nat → SampleGroup) (n : Nat) : ((s.takeRun G n).converter f.converter).state = .locked r := by
    rw [State.converter, State.takeRun_frame.1]
    exact state
  rw [State.judge_of_ref (by rw [state]; rfl) behind, if_pos near, State.handFills_eq, state, State.handleStatus_sound fails,
    State.followRef_of_locked (still _ _), State.takeRun_frame.1, State.handOwn_of_locked (State.converter_moved_state _)]
  rfl

/-- LOCKED, with SELFTEST_FAIL: the fills, the fault, and a fill in place of the frame's own samples (R28, R29). -/
theorem State.judge_near_failed (state : (s.converter f.converter).state = .locked r) (fails : f.selftestFail = true) :
    s.judge f = State.takeGroup (s.fillOf f .fault f.seq)
      (((s.takeRun (s.fills f .filled (r + 1)) ((f.seq - r).toNat - 1)).faultFound f.converter s.time.now).withIntake
        (s.intake.moved f.converter (.faulted f.seq))) := by
  have still (G : Nat → SampleGroup) (n : Nat) : ((s.takeRun G n).converter f.converter).state = .locked r := by
    rw [State.converter, State.takeRun_frame.1]
    exact state
  rw [State.judge_of_ref (by rw [state]; rfl) behind, if_pos near, State.handFills_eq, state,
    State.handleStatus_failed (still _ _) fails, State.followRef_of_faulted (State.converter_moved_state _),
    State.handOwn_of_faulted (State.converter_moved_state _), State.takeRun_frame.1, State.takeRun_frame.2.2.2,
    State.withIntake_withIntake,
    State.withIntake_intake, Intake.moved_moved]
  exact congrArg (fun g => State.takeGroup g _) (State.fillOf_moved (by simp) (by simp) rfl)

/-- FAULTED: every group is a fill tagged FAULT (R26, R29). -/
theorem State.judge_near_faulted (state : (s.converter f.converter).state = .faulted r) :
    s.judge f = State.takeRun (s.fills f .fault (r + 1)) (f.seq - r).toNat
      (s.withIntake (s.intake.moved f.converter (.faulted f.seq))) := by
  have still (G : Nat → SampleGroup) (n : Nat) : ((s.takeRun G n).converter f.converter).state = .faulted r := by
    rw [State.converter, State.takeRun_frame.1]
    exact state
  obtain ⟨m, hm⟩ : ∃ m, (f.seq - r).toNat = m + 1 := ⟨(f.seq - r).toNat - 1, by omega⟩
  have own : s.fills f .fault (r + 1) m = s.fillOf f .fault f.seq := by
    have := fills_own behind
    rw [hm, Nat.add_sub_cancel] at this
    rw [State.fills, this]
  rw [State.judge_of_ref (by rw [state]; rfl) behind, if_pos near, State.handFills_eq, state,
    State.handleStatus_of_faulted (still _ _), State.followRef_of_faulted (still _ _), State.takeRun_frame.1,
    State.handOwn_of_faulted (State.converter_moved_state _), hm, Nat.add_sub_cancel, State.takeRun_withIntake,
    State.takeRun_succ, ← State.takeGroup_withIntake, own]
  exact congrArg (fun g => State.takeGroup g _) (State.fillOf_moved (by simp) (by simp) rfl)

end
end

end Sys2Proof.Machine
end

section
/-! Short cycles: what the channels of a current converter hold once they have taken samples that complete no cycle (R38). -/

namespace Sys2Proof.Machine

/-- A channel after one more sample that completes no cycle (R38). -/
def Channel.sampled (gain : Nat) (offset : Int) (x : Int × Tag) (k : Channel) : Channel :=
  { k with
    cycle := some (takenCycle gain offset x.1 (gradeOf x.2 x.1) k.cycle)
    second := k.second.withCode x.1 }

/-- `s` after each of converter `c`'s channels has taken its samples. -/
def State.sampled (c : Fin 4) (samples : Fin 16 → List (Int × Tag)) (s : State) : State :=
  { s with channels := s.takenSamples c samples }

section
variable {c : Fin 4} {s : State} {xs ys : Fin 16 → List (Int × Tag)}

theorem State.takenSamples_get (ch : Fin 16) : (s.takenSamples c xs)[ch] =
    if converterOf ch = c then
      (xs ch).foldl (fun k x => k.sampled s.cfg.transformers[ch].gain s.live[ch].offsetEff x) s.channels[ch]
    else s.channels[ch] := by
  simp only [State.takenSamples, Fin.getElem_fin, Vector.getElem_ofFn]
  by_cases own : converterOf ch = c
  · rw [if_pos own, if_pos own]
    refine congrArg (fun g => List.foldl g s.channels[ch] (xs ch)) (funext₂ fun k x => ?_)
    cases h : k.cycle <;> simp only [Channel.sampled, h, takenCycle, PartialSecond.withCode]
  · rw [if_neg own, if_neg own]

theorem State.takenSamples_append :
    (s.sampled c xs).takenSamples c ys = s.takenSamples c fun ch => xs ch ++ ys ch := by
  ext ch h
  show ((s.sampled c xs).takenSamples c ys)[(⟨ch, h⟩ : Fin 16)] =
    (s.takenSamples c fun ch => xs ch ++ ys ch)[(⟨ch, h⟩ : Fin 16)]
  rw [State.takenSamples_get, State.takenSamples_get]
  by_cases own : converterOf ⟨ch, h⟩ = c
  · rw [if_pos own, if_pos own, List.foldl_append, State.sampled, State.takenSamples_get, if_pos own]
  · rw [if_neg own, if_neg own, State.sampled, State.takenSamples_get, if_neg own]

theorem State.takenSamples_nil : s.takenSamples c (fun _ => []) = s.channels := by
  ext ch h
  show (s.takenSamples c fun _ => [])[(⟨ch, h⟩ : Fin 16)] = s.channels[(⟨ch, h⟩ : Fin 16)]
  rw [State.takenSamples_get, List.foldl_nil, ite_self]

end

/-- The codes that the partial cycle of a channel holds (R38). -/
def Channel.cycleCodes (k : Channel) : List Int := (k.cycle.map PartialCycle.codes).getD []

theorem Channel.cycleCodes_sampled (gain : Nat) (offset : Int) (x : Int × Tag) (k : Channel) :
    (k.sampled gain offset x).cycleCodes = k.cycleCodes ++ [x.1] := by
  cases h : k.cycle <;> simp [Channel.sampled, Channel.cycleCodes, h, takenCycle]

section
variable {c : Fin 4} {s : State} {xs : Fin 16 → List (Int × Tag)} {x : Fin 16 → Int × Tag} {n m : Nat}

theorem State.shortCycles_iff (hn : n < 32) :
    s.ShortCycles c n ↔ ∀ p, (s.channels[channelOf c p]).cycleCodes.length + n < 32 := by
  have each (k : Channel) : (∀ cyc, k.cycle = some cyc → cyc.codes.length + n < 32) ↔ k.cycleCodes.length + n < 32 := by
    cases h : k.cycle <;> simp [Channel.cycleCodes, h, hn]
  exact forall_congr' fun p => each _

/-- A sample that completes no cycle changes its channel alone (R38). -/
theorem State.takeSample_short {ch : Fin 16} (h : (s.channels[ch]).cycleCodes.length + 1 < 32) (y : Int × Tag) :
    s.takeSample ch y.1 y.2 =
      s.setChannel ch (s.channels[ch].sampled s.cfg.transformers[ch].gain s.live[ch].offsetEff y) := by
  have codes := Channel.cycleCodes_sampled s.cfg.transformers[ch].gain s.live[ch].offsetEff y s.channels[ch]
  have joins : (s.nextCycle ch y.1 y.2).codes = s.channels[ch].cycleCodes ++ [y.1] := codes
  exact State.takeSample_joins (by rw [joins, List.length_append]; exact h)

/-- Samples of different channels that complete no cycle (R38). -/
theorem State.takeSamples_short (l : List (Fin 16)) (s : State) (distinct : l.Nodup)
    (short : ∀ ch ∈ l, (s.channels[ch]).cycleCodes.length + 1 < 32) :
    l.foldl (fun u ch => u.takeSample ch (x ch).1 (x ch).2) s =
      { s with
        channels := Vector.ofFn fun ch =>
          if ch ∈ l then s.channels[ch].sampled s.cfg.transformers[ch].gain s.live[ch].offsetEff (x ch)
          else s.channels[ch] } := by
  induction l generalizing s with
  | nil => simp
  | cons a l ih =>
    obtain ⟨fresh, distinct⟩ := List.nodup_cons.mp distinct
    have others (ch : Fin 16) (h : ch ≠ a) (k : Channel) : (s.setChannel a k).channels[ch] = s.channels[ch] :=
      get_set_of_ne _ h k
    rw [List.foldl_cons, State.takeSample_short (short a List.mem_cons_self), ih _ distinct fun ch hch => by
      rw [others ch (fun h => fresh (h ▸ hch))]
      exact short ch (List.mem_cons_of_mem _ hch)]
    refine congrArg (fun v : Vector Channel 16 => { s with channels := v }) (congrArg Vector.ofFn (funext fun ch => ?_))
    by_cases own : ch = a
    · subst own
      rw [if_neg fresh, if_pos List.mem_cons_self]
      exact get_set_same _ _ _
    · rw [others ch own]
      simp [own]

theorem mem_channels_iff (c : Fin 4) (ch : Fin 16) :
    ch ∈ [channelOf c 0, channelOf c 1, channelOf c 2, channelOf c 3] ↔ converterOf ch = c := by
  decide +revert

theorem channels_nodup (c : Fin 4) : [channelOf c 0, channelOf c 1, channelOf c 2, channelOf c 3].Nodup := by
  decide +revert

/-- A group that completes no cycle (R38). -/
theorem State.takeGroup_short (short : s.ShortCycles c 1) (seq : Byte) :
    s.takeGroup (groupOf c seq x) = s.sampled c fun ch => [x ch] := by
  have each : ∀ ch ∈ [channelOf c 0, channelOf c 1, channelOf c 2, channelOf c 3],
      (s.channels[ch]).cycleCodes.length + 1 < 32 := by
    simpa [Fin.forall_fin_succ] using (State.shortCycles_iff (by decide)).mp short
  have unrolled : s.takeGroup (groupOf c seq x) =
      [channelOf c 0, channelOf c 1, channelOf c 2, channelOf c 3].foldl
        (fun u ch => u.takeSample ch (x ch).1 (x ch).2) s := by
    simp only [List.foldl_cons, List.foldl_nil]
    rfl
  rw [unrolled, State.takeSamples_short _ s (channels_nodup c) each]
  refine congrArg (fun v : Vector Channel 16 => { s with channels := v }) ?_
  ext ch h
  simp only [Vector.getElem_ofFn, mem_channels_iff]
  exact (State.takenSamples_get (xs := fun ch => [x ch]) ⟨ch, h⟩).symm

/-- Each channel's cycle is `n` codes longer after `n` samples. -/
theorem State.ShortCycles.sampled (short : s.ShortCycles c (n + m)) (hn : n + m < 32) (len : ∀ ch, (xs ch).length = n) :
    (s.sampled c xs).ShortCycles c m := by
  have grown (gain : Nat) (offset : Int) (l : List (Int × Tag)) (k : Channel) :
      (l.foldl (fun k x => k.sampled gain offset x) k).cycleCodes.length = k.cycleCodes.length + l.length := by
    induction l generalizing k with
    | nil => rfl
    | cons y l ih =>
      rw [List.foldl_cons, ih, Channel.cycleCodes_sampled, List.length_append, List.length_singleton, List.length_cons]
      omega
  refine (State.shortCycles_iff (by omega)).mpr fun p => ?_
  have before := (State.shortCycles_iff hn).mp short p
  rw [State.sampled, State.takenSamples_get, if_pos (converterOf_channelOf c p), grown, len]
  omega

/-- `n` groups that complete no cycle (R38). -/
theorem State.takeRun_short (short : s.ShortCycles c n) (hn : n < 32) (seq : Nat → Byte) :
    s.takeRun (fun k => groupOf c (seq k) x) n = s.sampled c fun ch => List.replicate n (x ch) := by
  induction n with
  | zero => exact congrArg (fun v : Vector Channel 16 => { s with channels := v }) State.takenSamples_nil.symm
  | succ n ih =>
    have fewer : s.ShortCycles c n := fun p cyc h => by have := short p cyc h; omega
    have last : (s.sampled c fun ch => List.replicate n (x ch)).ShortCycles c 1 :=
      short.sampled hn fun ch => List.length_replicate
    rw [State.takeRun_succ, ih fewer (by omega), State.takeGroup_short last, State.sampled, State.takenSamples_append]
    simp only [← List.replicate_succ']
    rfl

end

end Sys2Proof.Machine
end

section
/-! A current frame in step or behind a gap (R25, R26, R28, R29, R38). -/

namespace Sys2Proof.Machine

theorem exec_takeCurrentFrame_of_head {c : Fin 4} {q : Byte} {selftest low : Bool} {codes : Vector Int 4}
    {rest : List Frame} {s : State} (head : s.intake.fifo = .current c q selftest low codes :: rest) :
    exec .takeCurrentFrame s = .next ((s.headTaken rest).judge (.current c q selftest low codes)) :=
  (exec_take_of_own head).1 rfl

theorem exec_takeFieldFrame_of_head {q : Byte} {selftest low : Bool} {north east : Int} {rest : List Frame} {s : State}
    (head : s.intake.fifo = .field q selftest low north east :: rest) :
    exec .takeFieldFrame s = .next ((s.headTaken rest).judge (.field q selftest low north east)) :=
  (exec_take_of_own head).2 rfl

/-! ### Current frames near their reference -/

section
variable {c : Fin 4} {q r : Byte} {selftest low : Bool} {codes : Vector Int 4} {s : State} {n : Nat}
  {xs ys : Fin 16 → List (Int × Tag)}

/-- The fills of converter `c` for the sequences from `seq` on (R26, R29). -/
def State.currentFills (c : Fin 4) (tag : Tag) (seq : Byte) (s : State) (k : Nat) : SampleGroup :=
  groupOf c (seq + BitVec.ofNat 8 k) fun ch => (s.fillAt ch, tag)

theorem State.takeFills_short (short : s.ShortCycles c n) (hn : n < 32) (tag : Tag) (seq : Byte) :
    s.takeRun (s.currentFills c tag seq) n = s.sampled c fun ch => List.replicate n (s.fillAt ch, tag) :=
  State.takeRun_short short hn fun k => seq + BitVec.ofNat 8 k

theorem State.sampled_sampled : (s.sampled c xs).sampled c ys = s.sampled c fun ch => xs ch ++ ys ch := by
  rw [State.sampled, State.takenSamples_append]
  rfl

theorem State.faultFound_sampled (k : Fin 5) (now : Stamp) :
    (s.faultFound k now).sampled c xs = (s.sampled c xs).faultFound k now := rfl

theorem State.shortCycles_faultFound (k : Fin 5) (now : Stamp) :
    (s.faultFound k now).ShortCycles c n ↔ s.ShortCycles c n := by
  simp only [State.ShortCycles, State.faultFound_channels]

theorem State.fills_current (tag : Tag) (seq : Byte) :
    s.fills (.current c q selftest low codes) tag seq = s.currentFills c tag seq := rfl

section
variable (behind : 1 ≤ (q - r).toNat) (near : (q - r).toNat ≤ 9)
include behind near

theorem State.judge_current_locked (state : (s.converter (currentConverter c)).state = .locked r) :
    s.judge (.current c q false low codes) =
      State.takeGroup (groupOf c q fun ch => (codeAt codes ch, if low then .suspect else .good))
        ((s.takeRun (s.currentFills c .filled (r + 1)) ((q - r).toNat - 1)).withIntake
          { s.intake.moved (currentConverter c) (.locked q) with held := s.heldWith c codes }) := by
  rw [State.judge_near_locked (f := .current c q false low codes) behind near state rfl, Frame.group_current,
    State.fills_current]
  rfl

theorem State.judge_current_failed (state : (s.converter (currentConverter c)).state = .locked r) :
    s.judge (.current c q true low codes) =
      State.takeGroup (groupOf c q fun ch => (s.fillAt ch, .fault))
        (((s.takeRun (s.currentFills c .filled (r + 1)) ((q - r).toNat - 1)).faultFound (currentConverter c)
          s.time.now).withIntake
          (s.intake.moved (currentConverter c) (.faulted q))) := by
  rw [State.judge_near_failed (f := .current c q true low codes) behind near state rfl, State.fills_current]
  rfl

theorem State.judge_current_faulted (state : (s.converter (currentConverter c)).state = .faulted r) :
    s.judge (.current c q selftest low codes) =
      (s.withIntake (s.intake.moved (currentConverter c) (.faulted q))).takeRun (s.currentFills c .fault (r + 1))
        (q - r).toNat := by
  rw [State.judge_near_faulted (f := .current c q selftest low codes) behind near state, State.fills_current]
  rfl

section
variable (short : s.ShortCycles c (q - r).toNat)
include short

/-- What the channels hold where no cycle completes. -/
theorem State.judge_current_locked_short (state : (s.converter (currentConverter c)).state = .locked r) :
    s.judge (.current c q false low codes) =
      (s.sampled c fun ch => List.replicate ((q - r).toNat - 1) (s.fillAt ch, .filled) ++
        [(codeAt codes ch, if low then .suspect else .good)]).withIntake
          { s.intake.moved (currentConverter c) (.locked q) with held := s.heldWith c codes } := by
  obtain ⟨n, hn⟩ := Nat.exists_eq_add_of_le' behind
  have fewer : s.ShortCycles c n := fun p cyc h => by have := short p cyc h; omega
  rw [State.judge_current_locked behind near state]
  rw [hn] at short near ⊢
  have last : (s.sampled c fun ch => List.replicate n (s.fillAt ch, Tag.filled)).ShortCycles c 1 :=
    short.sampled (by omega) fun _ => List.length_replicate
  rw [Nat.add_sub_cancel, State.takeFills_short fewer (by omega)]
  rw [State.takeGroup_withIntake, State.takeGroup_short last, State.sampled_sampled]

theorem State.judge_current_failed_short (state : (s.converter (currentConverter c)).state = .locked r) :
    s.judge (.current c q true low codes) =
      ((s.sampled c fun ch => List.replicate ((q - r).toNat - 1) (s.fillAt ch, .filled) ++
        [(s.fillAt ch, .fault)]).faultFound (currentConverter c) s.time.now).withIntake
          (s.intake.moved (currentConverter c) (.faulted q)) := by
  obtain ⟨n, hn⟩ := Nat.exists_eq_add_of_le' behind
  have fewer : s.ShortCycles c n := fun p cyc h => by have := short p cyc h; omega
  rw [State.judge_current_failed behind near state]
  rw [hn] at short near ⊢
  have last : (s.sampled c fun ch => List.replicate n (s.fillAt ch, Tag.filled)).ShortCycles c 1 :=
    short.sampled (by omega) fun _ => List.length_replicate
  rw [Nat.add_sub_cancel, State.takeFills_short fewer (by omega)]
  rw [State.takeGroup_withIntake, State.takeGroup_short ((State.shortCycles_faultFound _ _).mpr last),
    State.faultFound_sampled, State.sampled_sampled]

theorem State.judge_current_faulted_short (state : (s.converter (currentConverter c)).state = .faulted r) :
    s.judge (.current c q selftest low codes) =
      (s.sampled c fun ch => List.replicate (q - r).toNat (s.fillAt ch, .fault)).withIntake
        (s.intake.moved (currentConverter c) (.faulted q)) := by
  rw [State.judge_current_faulted behind near state, State.takeRun_withIntake, State.takeFills_short short (by omega)]

end
end
end

/-- Settles O19: the three cases of a frame judged near its reference, and what short cycles hold after each. -/
theorem inStepCurrentFrame : Obligations.InStepCurrentFrame := by
  intro c q r selftest low codes rest s d conv own fill fills taken head behind near
  rw [exec_takeCurrentFrame_of_head head]
  refine ⟨⟨?_, ?_, fun state => ?_⟩, fun short => ⟨?_, ?_, fun state => ?_⟩⟩
  · rintro state rfl
    rw [State.judge_current_locked (s := s.headTaken rest) behind near state]
    rfl
  · rintro state rfl
    rw [State.judge_current_failed (s := s.headTaken rest) behind near state]
    rfl
  · rw [State.judge_current_faulted (s := s.headTaken rest) behind near state]
    rfl
  · rintro state rfl
    rw [State.judge_current_locked_short (s := s.headTaken rest) behind near short state]
    rfl
  · rintro state rfl
    rw [State.judge_current_failed_short (s := s.headTaken rest) behind near short state]
    rfl
  · rw [State.judge_current_faulted_short (s := s.headTaken rest) behind near short state]
    rfl

end Sys2Proof.Machine
end

section
/-! A field frame in step or behind a gap (R25, R26, R28, R29, R57). -/

namespace Sys2Proof.Machine

section
variable {q r : Byte} {selftest low : Bool} {north east : Int} {s : State} {n : Nat} {tag : Tag}

/-! ### Field groups that complete no second -/

/-- `s` with another partial field second. -/
def State.withPartial (p : PartialField) (s : State) : State := { s with field := { s.field with partialField := p } }

/-- A partial field second with `n` groups of the same values in it (R57). -/
def PartialField.plus (n : Nat) (north east : Int) (sound : Bool) (p : PartialField) : PartialField :=
  ⟨p.count + n, p.north + n * north, p.east + n * east, sound && p.sound⟩

/-- A group that does not complete the field second joins it (R57). -/
theorem State.takeGroup_field_joins (room : s.field.partialField.count + 1 < 10) (seq : Byte) :
    s.takeGroup (.field seq north east tag) = s.withPartial (s.field.partialField.plus 1 north east (tag != .fault)) := by
  have one : s.field.partialField.plus 1 north east (tag != .fault) =
      ⟨s.field.partialField.count + 1, s.field.partialField.north + north, s.field.partialField.east + east,
        s.field.partialField.sound && tag != .fault⟩ := by simp [PartialField.plus, Bool.and_comm]
  rw [one]
  exact if_neg (Nat.not_le.mpr room)

/-- `n` equal groups, none of which completes the field second (R57). -/
theorem State.takeRun_field_joins (room : s.field.partialField.count + n < 10) (seq : Nat → Byte) :
    s.takeRun (fun k => .field (seq k) north east tag) n =
      s.withPartial (s.field.partialField.plus n north east (n == 0 || tag != .fault)) := by
  induction n with
  | zero => simp [State.takeRun, PartialField.plus, State.withPartial]
  | succ n ih =>
    have before := ih (by omega)
    have last : (s.withPartial (s.field.partialField.plus n north east (n == 0 || tag != .fault))).field.partialField.count
        + 1 < 10 := room
    rw [State.takeRun_succ, before, State.takeGroup_field_joins last]
    refine congrArg (fun p : PartialField => s.withPartial p) ?_
    simp only [State.withPartial, PartialField.plus, PartialField.mk.injEq]
    refine ⟨rfl, ?_, ?_, ?_⟩
    · push_cast; ring
    · push_cast; ring
    · cases s.field.partialField.sound <;> cases n <;> simp

/-! ### Field frames near their reference -/

/-- The fills of the field converter for the sequences from `seq` on (R26, R29). -/
def State.fieldFills (tag : Tag) (seq : Byte) (s : State) (k : Nat) : SampleGroup :=
  .field (seq + BitVec.ofNat 8 k) s.intake.heldNorth s.intake.heldEast tag

theorem State.takeFieldFills_short (room : s.field.partialField.count + n < 10) (seq : Byte) :
    s.takeRun (s.fieldFills tag seq) n =
      s.withPartial (s.field.partialField.plus n s.intake.heldNorth s.intake.heldEast (n == 0 || tag != .fault)) :=
  State.takeRun_field_joins room fun k => seq + BitVec.ofNat 8 k

/-- Field groups are no business of the link and of the other blocks. -/
theorem State.takeRun_field_frame (u : State) (seq : Byte) :
    (s.takeRun (u.fieldFills tag seq) n).link = s.link ∧
      (s.takeRun (u.fieldFills tag seq) n).handOffs = s.handOffs := by
  induction n with
  | zero => exact ⟨rfl, rfl⟩
  | succ n ih => simpa [State.takeRun_succ, State.takeGroup, State.fieldFills] using ih

section
variable (behind : 1 ≤ (q - r).toNat) (near : (q - r).toNat ≤ 9)
include behind near

theorem State.judge_field_locked (state : (s.converter 4).state = .locked r) :
    s.judge (.field q false low north east) =
      State.takeGroup (.field q north east .good)
        ((s.takeRun (s.fieldFills .filled (r + 1)) ((q - r).toNat - 1)).withIntake
          { s.intake.moved 4 (.locked q) with heldNorth := north, heldEast := east }) :=
  State.judge_near_locked (f := .field q false low north east) behind near state rfl

theorem State.judge_field_failed (state : (s.converter 4).state = .locked r) :
    s.judge (.field q true low north east) =
      State.takeGroup (.field q s.intake.heldNorth s.intake.heldEast .fault)
        { s.takeRun (s.fieldFills .filled (r + 1)) ((q - r).toNat - 1) with
          intake := s.intake.moved 4 (.faulted q)
          link := s.made [deviceRecord .converterFault (some 4) s.time.now]
          handOffs := { s.handOffs with reports := s.handOffs.reports ++ [.converter 4] } } := by
  have judged := State.judge_near_failed (f := .field q true low north east) behind near state rfl
  have fault : (s.takeRun (s.fieldFills .filled (r + 1)) ((q - r).toNat - 1)).faultFound 4 s.time.now =
      { s.takeRun (s.fieldFills .filled (r + 1)) ((q - r).toNat - 1) with
        link := s.made [deviceRecord .converterFault (some 4) s.time.now]
        handOffs := { s.handOffs with reports := s.handOffs.reports ++ [.converter 4] } } := by
    simp only [State.faultFound, State.made, State.takeRun_frame, State.takeRun_field_frame]
    rfl
  rw [judged]
  exact congrArg (fun u => State.takeGroup _ (State.withIntake (s.intake.moved 4 (.faulted q)) u)) fault

theorem State.judge_field_faulted (state : (s.converter 4).state = .faulted r) :
    s.judge (.field q selftest low north east) =
      (s.withIntake (s.intake.moved 4 (.faulted q))).takeRun (s.fieldFills .fault (r + 1)) (q - r).toNat :=
  State.judge_near_faulted (f := .field q selftest low north east) behind near state

section
variable (room : s.field.partialField.count + (q - r).toNat < 10)
include room

/-- What the field second holds where no group completes it. -/
theorem State.judge_field_locked_short (state : (s.converter 4).state = .locked r) :
    s.judge (.field q false low north east) =
      (s.withPartial ⟨s.field.partialField.count + (q - r).toNat,
        s.field.partialField.north + ((q - r).toNat - 1 : Nat) * s.intake.heldNorth + north,
        s.field.partialField.east + ((q - r).toNat - 1 : Nat) * s.intake.heldEast + east,
        s.field.partialField.sound⟩).withIntake
          { s.intake.moved 4 (.locked q) with heldNorth := north, heldEast := east } := by
  rw [State.judge_field_locked behind near state]
  obtain ⟨n, hn⟩ := Nat.exists_eq_add_of_le' behind
  rw [hn] at room ⊢
  rw [Nat.add_sub_cancel, State.takeFieldFills_short (by omega), State.takeGroup_withIntake,
    State.takeGroup_field_joins (by exact room)]
  refine congrArg (fun p : PartialField => State.withIntake _ (s.withPartial p)) ?_
  have sound (b : Bool) : (Tag.good != .fault && ((n == 0 || Tag.filled != .fault) && b)) = b := by
    simp only [show (Tag.good != .fault) = true from rfl, show (Tag.filled != .fault) = true from rfl, Bool.or_true,
      Bool.true_and]
  simp [State.withPartial, PartialField.plus, Nat.add_assoc, sound]

theorem State.judge_field_failed_short (state : (s.converter 4).state = .locked r) :
    s.judge (.field q true low north east) =
      { s with
        intake := s.intake.moved 4 (.faulted q)
        field := { s.field with
          partialField := s.field.partialField.plus (q - r).toNat s.intake.heldNorth s.intake.heldEast false }
        link := s.made [deviceRecord .converterFault (some 4) s.time.now]
        handOffs := { s.handOffs with reports := s.handOffs.reports ++ [.converter 4] } } := by
  rw [State.judge_field_failed behind near state]
  obtain ⟨n, hn⟩ := Nat.exists_eq_add_of_le' behind
  rw [hn] at room ⊢
  rw [Nat.add_sub_cancel, State.takeFieldFills_short (by omega), State.takeGroup_field_joins (by exact room)]
  have last (b : Bool) : ((s.field.partialField.plus n s.intake.heldNorth s.intake.heldEast b).plus 1 s.intake.heldNorth
      s.intake.heldEast false) = s.field.partialField.plus (n + 1) s.intake.heldNorth s.intake.heldEast false := by
    simp only [PartialField.plus, PartialField.mk.injEq, Bool.false_and, and_true]
    exact ⟨rfl, by push_cast; ring, by push_cast; ring⟩
  rw [← last]
  rfl

theorem State.judge_field_faulted_short (state : (s.converter 4).state = .faulted r) :
    s.judge (.field q selftest low north east) =
      (s.withPartial (s.field.partialField.plus (q - r).toNat s.intake.heldNorth s.intake.heldEast false)).withIntake
        (s.intake.moved 4 (.faulted q)) := by
  have some_fill : ((q - r).toNat == 0) = false := beq_false_of_ne (by omega)
  rw [State.judge_field_faulted behind near state, State.takeRun_withIntake, State.takeFieldFills_short room, some_fill]
  rfl

end
end
end

/-- Settles O20: the three cases of a field frame judged near its reference, and what the field second holds after each. -/
theorem fieldGapIsFilled : Obligations.FieldGapIsFilled := by
  intro q r selftest low north east rest s d p conv taken fill filled head behind near
  rw [exec_takeFieldFrame_of_head head]
  refine ⟨⟨?_, ?_, fun state => ?_⟩, fun room => ⟨?_, ?_, fun state => ?_⟩⟩
  · rintro state rfl
    rw [State.judge_field_locked (s := s.headTaken rest) behind near state]
    rfl
  · rintro state rfl
    rw [State.judge_field_failed (s := s.headTaken rest) behind near state]
    rfl
  · rw [State.judge_field_faulted (s := s.headTaken rest) behind near state]
    rfl
  · rintro state rfl
    rw [State.judge_field_locked_short (s := s.headTaken rest) behind near room state]
    rfl
  · rintro state rfl
    rw [State.judge_field_failed_short (s := s.headTaken rest) behind near room state]
    rfl
  · rw [State.judge_field_faulted_short (s := s.headTaken rest) behind near room state]
    rfl

end Sys2Proof.Machine
end

section
/-! Abandon notices, resyncs, and converters that come and go (R23, R24, R27, R28, R45, R66, R145, R147). -/

namespace Sys2Proof.Machine

/-! ### An abandon notice for some of the channels -/

section
variable {s : State} {named : Fin 16 → Bool} {p : Fin 16 → Prop} [DecidablePred p] (names : ∀ ch, named ch = true ↔ p ch)

/-- The partial work of the channels that `p` names gone, and the active capture DONE and truncated (R45, R147). -/
def State.cutShortOf (p : Fin 16 → Prop) [DecidablePred p] (s : State) : State :=
  { s with
    channels := s.emptied p
    capture := s.capture.updateActive fun q => { q with state := .done, truncated := true } }

include names

theorem State.abandonChannels_eq : s.abandonChannels named = { s with channels := s.emptied p } := by
  simp only [State.abandonChannels, State.emptied, names]
  rfl

/-- Where no capture of a named channel is active the Capture Unit has nothing to do (R147). -/
theorem State.abandon_spared (h : ∀ a, s.capture.activeRecord = some a → ¬ p a.channel) :
    s.abandon named = { s with channels := s.emptied p } := by
  rw [State.abandon, State.abandonChannels_eq names]
  unfold State.captureNotice
  split
  · rfl
  · rename_i a active
    exact if_neg fun named_a => h a active ((names _).mp named_a)

/-- An active capture of a named channel ends truncated (R147). -/
theorem State.abandon_ends {a : CaptureRecord} (h : s.capture.activeRecord = some a) (ha : p a.channel) :
    s.abandon named =
      { s with
        channels := s.emptied p
        capture := (s.cutShortOf p).serve.capture
        link := s.made [transformerRecord a.channel .captureDone none (some a.number) s.time.now s.live[a.channel]] } := by
  have ended : s.abandon named =
      ((s.cutShortOf p).emitTransformer a.channel .captureDone none none (some a.number) s.time.now).serve := by
    rw [State.abandon, State.abandonChannels_eq names]
    simp only [State.captureNotice, h, (names _).mpr ha, if_true, State.endCapture]
    rfl
  let link := s.made [transformerRecord a.channel .captureDone none (some a.number) s.time.now s.live[a.channel]]
  have served : State.capture (State.serve { s.cutShortOf p with link := link }) = (s.cutShortOf p).serve.capture :=
    State.serve_capture_congr rfl rfl
  have live : (s.cutShortOf p).live[a.channel] = s.live[a.channel] := by dsimp only [State.cutShortOf]
  rw [ended, State.emitTransformer_eq (congrArg Live.heat live) (congrArg Live.suppressed live), State.serve_eq]
  exact congrArg (fun u : CaptureUnit => { s.cutShortOf p with capture := u, link := link }) served

/-- An abandon is the notice that the Capture Unit takes, behind the extractor (R45, R147). -/
theorem State.abandon_notice (s : State) : ∃ (u : CaptureUnit) (ts : List Transition), NoticeTaken p s u ts ∧
    s.abandon named = { s with capture := u, channels := s.emptied p, link := s.made ts } := by
  by_cases ending : ∃ a, s.capture.activeRecord = some a ∧ p a.channel
  · obtain ⟨a, active, ha⟩ := ending
    refine ⟨_, _, ⟨fun spared => ?_, fun older newer b hr done hb _ => ?_⟩, State.abandon_ends names active ha⟩
    · exact absurd ha (spared a (List.mem_of_find?_eq_some active) (List.find?_some active))
    · rw [CaptureUnit.activeRecord_split hr done hb] at active
      cases active
      rw [State.cutShortOf, CaptureUnit.updateActive_split hr done hb]
      exact ⟨rfl, rfl⟩
  · refine ⟨s.capture, [], ⟨fun _ => ⟨rfl, rfl⟩, fun older newer a hr done ha named_a => ?_⟩,
      State.abandon_spared names fun a active ha => ending ⟨a, active, ha⟩⟩
    exact absurd ⟨a, CaptureUnit.activeRecord_split hr done ha, named_a⟩ ending

omit names in
/-- What an abandon notice does at the Capture Unit goes by the captures, the channels, the live parts and the time. -/
theorem NoticeTaken.congr {t : State} {u : CaptureUnit} {ts : List Transition} (h : NoticeTaken p t u ts)
    (hcapture : t.capture = s.capture) (hchannels : t.channels = s.channels) (hlive : t.live = s.live)
    (htime : t.time = s.time) : NoticeTaken p s u ts where
  spared := fun none => by
    rw [← hcapture]
    exact h.spared (by rw [State.NoActive, hcapture]; exact none)
  ended := fun older newer a hr done active ha => by
    obtain ⟨left, made⟩ := h.ended older newer a (by rw [hcapture]; exact hr) done active ha
    have emptied : t.emptied p = s.emptied p := by simp only [State.emptied, hchannels]
    refine ⟨left.trans (State.serve_capture_congr ?_ ?_), by rw [made, hlive, htime]⟩
    · simp only [hcapture]
    · exact emptied

end

/-! ### Resyncs -/

/-- The intake with converter `c` in state `v` behind a resync (R27). -/
def Intake.resynced (c : Fin 5) (v : ConverterState) (x : Intake) : Intake :=
  { x with converters := x.converters.set c { x.converters[c] with state := v, resyncSeen := true } }

/-- A resync once the abandon notice has been taken: CONVERTER_RESYNC is made (R27). -/
def State.resyncTold (c : Fin 5) (s : State) : State :=
  (s.abandonConverter c).emitDevice .converterResync (some c.val) s.time.now

section
variable {f : Frame} {r : Byte} {s : State}

@[simp] theorem State.resyncTold_frame (c : Fin 5) (s : State) : (s.resyncTold c).intake = s.intake ∧
    (s.resyncTold c).cfg = s.cfg ∧ (s.resyncTold c).live = s.live ∧ (s.resyncTold c).time = s.time := by
  simp [State.resyncTold]

/-- A resync: notices, RESYNC_SEEN and the new reference, and then the frame's own status and samples (R27, R28, R29). -/
theorem State.resync_eq (v : ConverterState) (state : (s.converter f.converter).state.withRef f.seq = v)
    (same : (s.converter f.converter).state.isFaulted = v.isFaulted) : s.resync f =
      ((((s.resyncTold f.converter).withIntake (s.intake.resynced f.converter v)).handleStatus f).handOwn f) := by
  have seen : (s.resyncTold f.converter).setConverter f.converter
      { (s.resyncTold f.converter).converter f.converter with resyncSeen := true } =
      (s.resyncTold f.converter).withIntake { s.intake with
        converters := s.intake.converters.set f.converter { s.converter f.converter with resyncSeen := true } } := by
    rw [State.setConverter, State.converter, (State.resyncTold_frame f.converter s).1]
    rfl
  have before (u : State) : ((u.withIntake { s.intake with
      converters := s.intake.converters.set f.converter
        { s.converter f.converter with resyncSeen := true } }).converter f.converter) =
      { s.converter f.converter with resyncSeen := true } := by simp [State.converter, State.withIntake]
  have followed : (s.resyncTold f.converter |>.withIntake { s.intake with
        converters := s.intake.converters.set f.converter { s.converter f.converter with resyncSeen := true } }).followRef f =
      (s.resyncTold f.converter).withIntake (s.intake.resynced f.converter v) := by
    rw [State.followRef, before, state, State.setConverterState_quiet (by rw [before]; exact same)]
    simp only [Intake.moved, Intake.resynced, State.withIntake_withIntake, State.withIntake_intake, get_set_same,
      Vector.set_set]
    rfl
  rw [← followed, ← seen]
  rfl

@[simp] theorem State.converter_resynced_state (c : Fin 5) (v : ConverterState) (x : Intake) :
    ((s.withIntake (x.resynced c v)).converter c).state = v := by
  simp [State.converter, State.withIntake, Intake.resynced]

theorem Intake.resynced_moved (c : Fin 5) (v w : ConverterState) (x : Intake) :
    (x.resynced c v).moved c w = x.resynced c w := by
  simp only [Intake.moved, Intake.resynced, get_set_same, Vector.set_set]

theorem State.resync_locked (state : (s.converter f.converter).state = .locked r) (fails : f.selftestFail = false) :
    s.resync f = State.takeGroup f.group
      ((s.resyncTold f.converter).withIntake ((s.intake.resynced f.converter (.locked f.seq)).holding f)) := by
  rw [State.resync_eq (.locked f.seq) (by rw [state]; rfl) (by rw [state]; rfl), State.handleStatus_sound fails,
    State.handOwn_of_locked (State.converter_resynced_state _ _ _)]
  rfl

/-- The fill that stands for the frame at a resync of a FAULTED converter (R26). -/
theorem State.fillOf_resynced {u : State} {c : Fin 5} {v : ConverterState} {tag : Tag} {q : Byte} (hc : u.cfg = s.cfg)
    (hl : u.live = s.live) : (u.withIntake (s.intake.resynced c v)).fillOf f tag q = s.fillOf f tag q :=
  State.fillOf_congr (u := u.withIntake (s.intake.resynced c v)) hc hl rfl rfl rfl f tag q

theorem State.resync_failed (state : (s.converter f.converter).state = .locked r) (fails : f.selftestFail = true) :
    s.resync f = State.takeGroup (s.fillOf f .fault f.seq)
      (((s.resyncTold f.converter).faultFound f.converter s.time.now).withIntake
        (s.intake.resynced f.converter (.faulted f.seq))) := by
  rw [State.resync_eq (.locked f.seq) (by rw [state]; rfl) (by rw [state]; rfl),
    State.handleStatus_failed (State.converter_resynced_state _ _ _) fails, State.withIntake_intake,
    Intake.resynced_moved, State.handOwn_of_faulted (State.converter_resynced_state _ _ _),
    State.fillOf_resynced (by simp [State.withIntake]) (by simp [State.withIntake])]
  have now : (State.withIntake (s.intake.resynced f.converter (.locked f.seq)) (s.resyncTold f.converter)).time = s.time :=
    State.resyncTold_frame f.converter s |>.2.2.2
  rw [now]
  rfl

theorem State.resync_faulted (state : (s.converter f.converter).state = .faulted r) :
    s.resync f = State.takeGroup (s.fillOf f .fault f.seq)
      ((s.resyncTold f.converter).withIntake (s.intake.resynced f.converter (.faulted f.seq))) := by
  rw [State.resync_eq (.faulted f.seq) (by rw [state]; rfl) (by rw [state]; rfl),
    State.handleStatus_of_faulted (State.converter_resynced_state _ _ _),
    State.handOwn_of_faulted (State.converter_resynced_state _ _ _), State.fillOf_resynced (by simp) (by simp)]

theorem State.judge_far (ref : (s.converter f.converter).state.ref? = some r) (far : 10 ≤ (f.seq - r).toNat) :
    s.judge f = s.resync f := by
  rw [State.judge_of_ref ref (by omega), if_neg (by omega)]

end

end Sys2Proof.Machine
end

section
/-! Resyncs of a current and of the field converter, and converters that come and go (R23, R24, R27, R28). -/

namespace Sys2Proof.Machine

/-! ### What is left for the frame's own samples -/

/-- The channels that converter `c` feeds once their partial work is gone and each has taken one sample (R38, R45). -/
def State.begun (c : Fin 4) (y : Fin 16 → Int × Tag) (s : State) : Vector Channel 16 :=
  Vector.ofFn fun ch =>
    if converterOf ch = c then
      { s.channels[ch] with
        cycle := some ⟨[(y ch).1], gradeOf (y ch).2 (y ch).1, s.cfg.transformers[ch].gain, s.live[ch].offsetEff⟩
        block := ⟨0, 0, .good⟩
        second := ⟨0, 0, .good, (y ch).1, 1⟩
        ring := [] }
    else s.channels[ch]

section
variable {c : Fin 4} {s : State} {y : Fin 16 → Int × Tag}

/-- A group taken on emptied channels begins their partial work afresh (R38, R45). -/
theorem State.takeGroup_emptied {u : State} (hchannels : u.channels = s.emptied fun ch => converterOf ch = c)
    (hcfg : u.cfg = s.cfg) (hlive : u.live = s.live) (q : Byte) :
    u.takeGroup (groupOf c q y) = { u with channels := s.begun c y } := by
  have emptied (ch : Fin 16) : (s.emptied fun ch => converterOf ch = c)[ch] =
      if converterOf ch = c then
        { s.channels[ch] with cycle := none, block := ⟨0, 0, .good⟩, second := ⟨0, 0, .good, 0, 0⟩, ring := [] }
      else s.channels[ch] := by
    simp only [State.emptied, Fin.getElem_fin, Vector.getElem_ofFn]
  have short : u.ShortCycles c 1 := fun p cyc some_cycle => by
    rw [hchannels, emptied, if_pos (converterOf_channelOf c p)] at some_cycle
    cases some_cycle
  rw [State.takeGroup_short short, State.sampled]
  refine congrArg (fun v : Vector Channel 16 => { u with channels := v }) ?_
  ext j h
  have left := State.takenSamples_get (s := u) (c := c) (xs := fun ch => [y ch]) ⟨j, h⟩
  refine left.trans ?_
  rw [hchannels, hcfg, hlive, emptied]
  simp only [State.begun, Vector.getElem_ofFn]
  by_cases own : converterOf ⟨j, h⟩ = c
  · simp [own, Channel.sampled, takenCycle, PartialSecond.withCode]
  · simp [own]

theorem ofConverter_iff (c : Fin 4) (ch : Fin 16) : ofConverter (currentConverter c) ch = true ↔ converterOf ch = c := by
  simp only [ofConverter, beq_iff_eq, currentConverter, Fin.ext_iff]

theorem abandonConverter_current (s : State) (c : Fin 4) :
    s.abandonConverter (currentConverter c) = s.abandon (ofConverter (currentConverter c)) :=
  if_neg (by simp [currentConverter, fieldConverter, Fin.ext_iff]; omega)

end

/-! ### Resyncs -/

/-- `s` once an abandon notice for converter `c` has left the unit `u` and the link `l` (R45, R147). -/
def State.noticed (c : Fin 4) (u : CaptureUnit) (l : MessageLink) (s : State) : State :=
  { s with capture := u, channels := s.emptied fun ch => converterOf ch = c, link := l }

section
variable {c : Fin 4} {u : CaptureUnit} {l : MessageLink} {s : State}

@[simp] theorem State.noticed_channels : (s.noticed c u l).channels = s.emptied fun ch => converterOf ch = c := by
  dsimp only [State.noticed]
@[simp] theorem State.noticed_cfg : (s.noticed c u l).cfg = s.cfg := by dsimp only [State.noticed]
@[simp] theorem State.noticed_live : (s.noticed c u l).live = s.live := by dsimp only [State.noticed]

end

/-- The resync of a current frame once the notice of its converter has been taken. -/
theorem resyncTold_current (c : Fin 4) (s : State) : ∃ (u : CaptureUnit) (ts : List Transition),
    NoticeTaken (fun ch => converterOf ch = c) s u ts ∧
      s.resyncTold (currentConverter c) =
        s.noticed c u (s.made (ts ++ [deviceRecord .converterResync (some c.val) s.time.now])) := by
  obtain ⟨u, ts, notice, left⟩ := State.abandon_notice (s := s) (ofConverter_iff c)
  refine ⟨u, ts, notice, ?_⟩
  rw [State.resyncTold, abandonConverter_current, left, ← State.made_append]
  rfl

section
variable {c : Fin 4} {q r : Byte} {selftest low : Bool} {codes : Vector Int 4} {s : State} {u : CaptureUnit}
  {l : MessageLink} (far : 10 ≤ (q - r).toNat)
  (told : s.resyncTold (currentConverter c) = s.noticed c u l)
include far told

theorem State.judge_current_far_locked (state : (s.converter (currentConverter c)).state = .locked r) :
    s.judge (.current c q false low codes) =
      State.withIntake { s.intake.resynced (currentConverter c) (.locked q) with held := s.heldWith c codes }
        { s.noticed c u l with
          channels := s.begun c fun ch => (codeAt codes ch, if low then .suspect else .good) } := by
  have ref : ((s.converter (Frame.current c q false low codes).converter).state).ref? = some r :=
    congrArg ConverterState.ref? state
  have resynced := State.resync_locked (f := .current c q false low codes) state rfl
  rw [State.judge_far ref far, resynced, State.takeGroup_withIntake, Frame.group_current, Frame.converter, told,
    State.takeGroup_emptied State.noticed_channels State.noticed_cfg State.noticed_live]
  rfl

theorem State.judge_current_far_failed (state : (s.converter (currentConverter c)).state = .locked r) :
    s.judge (.current c q true low codes) =
      State.withIntake (s.intake.resynced (currentConverter c) (.faulted q))
        { (s.noticed c u l).faultFound (currentConverter c) s.time.now with
          channels := s.begun c fun ch => (s.fillAt ch, .fault) } := by
  have ref : ((s.converter (Frame.current c q true low codes).converter).state).ref? = some r :=
    congrArg ConverterState.ref? state
  have resynced := State.resync_failed (f := .current c q true low codes) state rfl
  rw [State.judge_far ref far, resynced, State.takeGroup_withIntake, State.fillOf, Frame.converter, told,
    State.takeGroup_emptied ((State.faultFound_channels _ _).trans State.noticed_channels)
      (State.faultFound_cfg.trans State.noticed_cfg) (State.faultFound_live.trans State.noticed_live)]
  rfl

theorem State.judge_current_far_faulted (state : (s.converter (currentConverter c)).state = .faulted r) :
    s.judge (.current c q selftest low codes) =
      State.withIntake (s.intake.resynced (currentConverter c) (.faulted q))
        { s.noticed c u l with channels := s.begun c fun ch => (s.fillAt ch, .fault) } := by
  have ref : ((s.converter (Frame.current c q selftest low codes).converter).state).ref? = some r :=
    congrArg ConverterState.ref? state
  have resynced := State.resync_faulted (f := .current c q selftest low codes) state
  rw [State.judge_far ref far, resynced, State.takeGroup_withIntake, State.fillOf, Frame.converter, told,
    State.takeGroup_emptied State.noticed_channels State.noticed_cfg State.noticed_live]
  rfl

end

/-- A field resync breaks the link of the field seconds and empties the partial one (R66). -/
theorem State.resyncTold_field (s : State) : s.resyncTold 4 =
    { s with
      field := { s.field with partialField := ⟨0, 0, 0, true⟩, linked := false }
      link := s.made [deviceRecord .converterResync (some 4) s.time.now] } := rfl

/-- A group taken on an empty field second begins it (R57). -/
theorem State.takeGroup_field_begins {s : State} (h : s.field.partialField = ⟨0, 0, 0, true⟩) (seq : Byte)
    (north east : Int) (tag : Tag) : s.takeGroup (.field seq north east tag) =
      s.withPartial ⟨1, north, east, tag != .fault⟩ := by
  rw [State.takeGroup_field_joins (by rw [h]; decide), h]
  simp [PartialField.plus]

section
variable {q r : Byte} {selftest low : Bool} {north east : Int} {s : State} (far : 10 ≤ (q - r).toNat)
include far

theorem State.judge_field_far_locked (state : (s.converter 4).state = .locked r) :
    s.judge (.field q false low north east) =
      State.withIntake { s.intake.resynced 4 (.locked q) with heldNorth := north, heldEast := east }
        ((s.resyncTold 4).withPartial ⟨1, north, east, true⟩) := by
  have ref : ((s.converter (Frame.field q false low north east).converter).state).ref? = some r :=
    congrArg ConverterState.ref? state
  have resynced := State.resync_locked (f := .field q false low north east) state rfl
  rw [State.judge_far ref far, resynced, State.takeGroup_withIntake, Frame.group, Frame.converter, fieldConverter,
    State.takeGroup_field_begins (by rw [State.resyncTold_field])]
  rfl

theorem State.judge_field_far_failed (state : (s.converter 4).state = .locked r) :
    s.judge (.field q true low north east) =
      State.withIntake (s.intake.resynced 4 (.faulted q))
        (((s.resyncTold 4).faultFound 4 s.time.now).withPartial ⟨1, s.intake.heldNorth, s.intake.heldEast, false⟩) := by
  have ref : ((s.converter (Frame.field q true low north east).converter).state).ref? = some r :=
    congrArg ConverterState.ref? state
  have resynced := State.resync_failed (f := .field q true low north east) state rfl
  rw [State.judge_far ref far, resynced, State.takeGroup_withIntake, State.fillOf, Frame.converter, fieldConverter,
    State.takeGroup_field_begins (by rw [State.resyncTold_field, State.faultFound])]
  rfl

theorem State.judge_field_far_faulted (state : (s.converter 4).state = .faulted r) :
    s.judge (.field q selftest low north east) =
      State.withIntake (s.intake.resynced 4 (.faulted q))
        ((s.resyncTold 4).withPartial ⟨1, s.intake.heldNorth, s.intake.heldEast, false⟩) := by
  have ref : ((s.converter (Frame.field q selftest low north east).converter).state).ref? = some r :=
    congrArg ConverterState.ref? state
  have resynced := State.resync_faulted (f := .field q selftest low north east) state
  rw [State.judge_far ref far, resynced, State.takeGroup_withIntake, State.fillOf, Frame.converter, fieldConverter,
    State.takeGroup_field_begins (by rw [State.resyncTold_field])]
  rfl

end

/-- Settles O22: the notice, and each resync behind it. -/
theorem resyncAbandonsPartialWork : Obligations.ResyncAbandonsPartialWork := by
  constructor
  · intro q r selftest low north east rest s conv taken resync begun filled head far
    rw [exec_takeFieldFrame_of_head head]
    refine ⟨?_, ?_, fun state => ?_⟩
    · rintro state rfl
      rw [State.judge_field_far_locked (s := s.headTaken rest) far state, State.resyncTold_field]
      rfl
    · rintro state rfl
      rw [State.judge_field_far_failed (s := s.headTaken rest) far state, State.resyncTold_field]
      rfl
    · rw [State.judge_field_far_faulted (s := s.headTaken rest) far state, State.resyncTold_field]
      rfl
  · intro c q r selftest low codes rest s conv taken resync begun filled head far
    obtain ⟨u, ts, notice, told⟩ := resyncTold_current c (s.headTaken rest)
    refine ⟨u, ts, notice.congr rfl rfl rfl rfl, ?_⟩
    rw [exec_takeCurrentFrame_of_head head]
    refine ⟨?_, ?_, fun state => ?_⟩
    · rintro state rfl
      rw [State.judge_current_far_locked far told state]
      rfl
    · rintro state rfl
      rw [State.judge_current_far_failed far told state]
      have made := State.made_append (ts ++ [resync]) [deviceRecord .converterFault (some c.val) s.time.now] s
      rw [List.append_assoc] at made
      exact congrArg (fun l => Host.Outcome.next
        { s with
          capture := u
          intake := taken (.faulted q)
          channels := filled
          link := l
          handOffs := { s.handOffs with reports := s.handOffs.reports ++ [ContactReport.converter (currentConverter c)] } }) made
    · rw [State.judge_current_far_faulted far told state]
      rfl

end Sys2Proof.Machine
end

section
/-! Converters that come and go (R23, R24, R28). -/

namespace Sys2Proof.Machine

/-! ### The first frame -/

/-- The intake with converter `c` in state `v` by its first frame, its silence timer running (R24). -/
def Intake.started (c : Fin 5) (v : ConverterState) (x : Intake) : Intake :=
  { x with
    converters :=
      x.converters.set c { x.converters[c] with state := v, timer := some (x.converters[c].timer.getD 10) } }

section
variable {f : Frame} {c : Fin 5} {v : ConverterState} {s : State}

theorem State.judge_of_absent (state : (s.converter f.converter).state = .absent) : s.judge f = s.firstFrame f := by
  simp only [State.judge, state, ConverterState.ref?]

@[simp] theorem State.converter_started_state (x : Intake) : ((s.withIntake (x.started c v)).converter c).state = v := by
  simp [State.converter, State.withIntake, Intake.started]

/-- The silence timer is started before the state is set (R24). -/
def State.timerStarted (c : Fin 5) (s : State) : State :=
  s.setConverter c { s.converter c with timer := some ((s.converter c).timer.getD Config.silenceTenths) }

theorem State.timerStarted_state : ((s.timerStarted c).converter c).state = (s.converter c).state := by
  simp [State.timerStarted, State.converter, State.setConverter]

theorem State.timerStarted_moved :
    (s.timerStarted c).withIntake ((s.timerStarted c).intake.moved c v) = s.withIntake (s.intake.started c v) := by
  simp only [State.timerStarted, State.setConverter, State.converter, Intake.moved, Intake.started, State.withIntake,
    get_set_same, Vector.set_set]
  rfl

theorem State.firstFrame_sound (state : (s.converter f.converter).state = .absent) (fails : f.selftestFail = false) :
    s.firstFrame f = State.takeGroup f.group
      (s.withIntake ((s.intake.started f.converter (.locked f.seq)).holding f)) := by
  have started : s.firstFrame f = ((s.timerStarted f.converter).setConverterState f.converter (.locked f.seq)).handOwn f := by
    simp only [State.firstFrame, fails, Bool.false_eq_true, if_false]
    rfl
  rw [started, State.setConverterState_quiet (by rw [State.timerStarted_state, state]; rfl), State.timerStarted_moved,
    State.handOwn_of_locked (State.converter_started_state _)]
  rfl

theorem State.firstFrame_failed (state : (s.converter f.converter).state = .absent) (fails : f.selftestFail = true) :
    s.firstFrame f = State.takeGroup (s.fillOf f .fault f.seq)
      ((s.faultFound f.converter s.time.now).withIntake (s.intake.started f.converter (.faulted f.seq))) := by
  have started : s.firstFrame f = ((((s.timerStarted f.converter).setConverterState f.converter (.faulted f.seq)).emitDevice
      .converterFault (some f.converter.val) s.time.now)).handOwn f := by
    simp only [State.firstFrame, fails, if_true]
    rfl
  have told : ((s.withIntake (s.intake.started f.converter (.faulted f.seq))).report (.converter f.converter)).emitDevice
      .converterFault (some f.converter.val) s.time.now =
      (s.faultFound f.converter s.time.now).withIntake (s.intake.started f.converter (.faulted f.seq)) := rfl
  have fill : State.fillOf f .fault f.seq ((s.faultFound f.converter s.time.now).withIntake
      (s.intake.started f.converter (.faulted f.seq))) = s.fillOf f .fault f.seq :=
    State.fillOf_congr (by simp) (by simp) rfl rfl rfl f .fault f.seq
  rw [started, State.setConverterState_reports (by rw [State.timerStarted_state, state]; exact Bool.false_ne_true),
    State.timerStarted_moved, told, State.handOwn_of_faulted (State.converter_started_state _), fill]

end

/-! ### Silence -/

/-- The intake once the silence of converter `c` has been taken (R23). -/
def Intake.silenced (c : Fin 5) (x : Intake) : Intake :=
  { x with converters := x.converters.set c { x.converters[c] with state := .absent, timer := none } }

/-- A FAULTED converter that goes is told to the contacts (R157). -/
def State.silenced (c : Fin 5) (s : State) : State :=
  { s with
    intake := s.intake.silenced c
    handOffs := if (s.converter c).state.isFaulted then
      { s.handOffs with reports := s.handOffs.reports ++ [.converter c] } else s.handOffs }

section
variable {c : Fin 5} {s : State}

theorem ConverterState.isFaulted_iff (v : ConverterState) : v.isFaulted = true ↔ ∃ r, v = .faulted r := by
  cases v <;> simp [ConverterState.isFaulted]

theorem State.silenced_eq [Decidable (∃ r, (s.converter c).state = .faulted r)] : s.silenced c =
    { s with
      intake := s.intake.silenced c
      handOffs := if ∃ r, (s.converter c).state = .faulted r then
        { s.handOffs with reports := s.handOffs.reports ++ [.converter c] } else s.handOffs } := by
  simp only [State.silenced, ConverterState.isFaulted_iff]

theorem State.silenceExpired_of_ne (h : (s.converter c).timer ≠ some 0) : s.silenceExpired c = s := if_pos h

/-- The converter's timer stands stopped (R23). -/
def State.timerStopped (c : Fin 5) (s : State) : State := s.setConverter c { s.converter c with timer := none }

theorem State.silenceExpired_absent (h : (s.converter c).timer = some 0) (state : (s.converter c).state = .absent) :
    s.silenceExpired c = s.withIntake (s.intake.silenced c) := by
  have stopped : s.silenceExpired c = s.timerStopped c := by
    unfold State.silenceExpired
    rw [if_neg (not_not.mpr h)]
    split
    · rfl
    · rename_i present
      exact absurd state present
  rw [stopped, Intake.silenced, ← state]
  rfl

theorem State.timerStopped_state : ((s.timerStopped c).converter c).state = (s.converter c).state := by
  simp [State.timerStopped, State.converter, State.setConverter]

theorem State.timerStopped_silenced : (s.timerStopped c).setConverterState c .absent = s.silenced c := by
  have moved : (s.timerStopped c).withIntake ((s.timerStopped c).intake.moved c .absent) =
      s.withIntake (s.intake.silenced c) := by
    simp only [State.timerStopped, State.setConverter, State.converter, Intake.moved, Intake.silenced, State.withIntake,
      get_set_same, Vector.set_set]
  cases faulted : (s.converter c).state.isFaulted with
  | false =>
    rw [State.setConverterState_quiet (by rw [State.timerStopped_state, faulted]; rfl), moved]
    simp only [State.silenced, faulted, Bool.false_eq_true, if_false]
    rfl
  | true =>
    rw [State.setConverterState_reports (by rw [State.timerStopped_state, faulted]; exact Bool.false_ne_true.symm), moved]
    simp only [State.silenced, faulted, if_true]
    rfl

theorem State.silenceExpired_present (h : (s.converter c).timer = some 0) (state : (s.converter c).state ≠ .absent) :
    s.silenceExpired c =
      ((s.silenced c).emitDevice .converterAbsent (some c.val) s.time.now).abandonConverter c := by
  have expired : s.silenceExpired c = (((s.timerStopped c).setConverterState c .absent).emitDevice .converterAbsent
      (some c.val) s.time.now).abandonConverter c := by
    unfold State.silenceExpired
    rw [if_neg (not_not.mpr h)]
    split
    · rename_i absent
      exact absurd absent state
    · rfl
  rw [expired, State.timerStopped_silenced]

/-- CONVERTER_ABSENT is made before the notice is taken (R23, assumption 13). -/
theorem State.silenceExpired_field (h : (s.converter 4).timer = some 0) (state : (s.converter 4).state ≠ .absent) :
    s.silenceExpired 4 =
      { s.silenced 4 with
        field := { s.field with partialField := ⟨0, 0, 0, true⟩, linked := false }
        link := s.made [deviceRecord .converterAbsent (some 4) s.time.now] } := by
  rw [State.silenceExpired_present h state]
  rfl

theorem State.silenceExpired_current (current : c ≠ 4) (h : (s.converter c).timer = some 0)
    (state : (s.converter c).state ≠ .absent) : ∃ (u : CaptureUnit) (ts : List Transition),
    NoticeTaken (fun ch => (converterOf ch).val = c.val) s u ts ∧
      s.silenceExpired c =
        { s.silenced c with
          capture := u
          channels := s.emptied fun ch => (converterOf ch).val = c.val
          link := s.made (deviceRecord .converterAbsent (some c.val) s.time.now :: ts) } := by
  have names (ch : Fin 16) : ofConverter c ch = true ↔ (converterOf ch).val = c.val := by
    simp only [ofConverter, beq_iff_eq, currentConverter, Fin.ext_iff]
  obtain ⟨u, ts, notice, left⟩ := State.abandon_notice
    (s := (s.silenced c).emitDevice .converterAbsent (some c.val) s.time.now) names
  refine ⟨u, ts, notice.congr rfl rfl rfl rfl, ?_⟩
  rw [State.silenceExpired_present h state, State.abandonConverter, fieldConverter, if_neg current, left]
  rfl

end

theorem exec_silenceTimerExpiry (c : Fin 5) (s : State) : exec (.silenceTimerExpiry c) s = .next (s.silenceExpired c) := rfl

/-- Settles O23: first frames, and silence timers that run out. -/
theorem converterComesAndGoes : Obligations.ConverterComesAndGoes := by
  refine ⟨fun q selftest low north east rest s => ?_, fun c q selftest low codes rest s => ?_, fun c s =>
    ⟨fun running => ?_, fun expired => ⟨fun absent => ?_, fun present => ?_⟩⟩⟩
  · intro conv taken head absent
    rw [exec_takeFieldFrame_of_head head, State.judge_of_absent (by exact absent)]
    cases selftest with
    | true =>
      rw [State.firstFrame_failed (by exact absent) rfl, if_pos rfl]
      rfl
    | false =>
      rw [State.firstFrame_sound (by exact absent) rfl, if_neg Bool.false_ne_true]
      rfl
  · intro conv own fill taken locked faulted head absent
    have first : exec .takeCurrentFrame s = .next
        (if selftest then faulted.takeGroup (groupOf c q fill) else locked.takeGroup (groupOf c q own)) := by
      rw [exec_takeCurrentFrame_of_head head, State.judge_of_absent (by exact absent)]
      cases selftest with
      | true =>
        rw [State.firstFrame_failed (by exact absent) rfl, if_pos rfl]
        rfl
      | false =>
        rw [State.firstFrame_sound (by exact absent) rfl, if_neg Bool.false_ne_true, Frame.group_current]
        rfl
    refine ⟨first, fun short => first.trans ?_⟩
    rw [State.takeGroup_short (s := faulted) short, State.takeGroup_short (s := locked) short]
    rfl
  · exact congrArg Host.Outcome.next (State.silenceExpired_of_ne running)
  · exact congrArg Host.Outcome.next (State.silenceExpired_absent expired absent)
  · intro absent told
    refine ⟨?_, fun current => ?_⟩
    · rintro rfl
      rw [exec_silenceTimerExpiry, State.silenceExpired_field expired present, State.silenced_eq]
      rfl
    · obtain ⟨u, ts, notice, left⟩ := State.silenceExpired_current current expired present
      refine ⟨u, ts, notice, ?_⟩
      rw [exec_silenceTimerExpiry, left, State.silenced_eq]
      rfl

end Sys2Proof.Machine
end

section
/-! What the law of the intake reads (R22, R23, R36, R43, R56), and which operations leave it alone. -/

namespace Sys2Proof.Machine

/-! ### What the law reads of a state -/

/-- What the law of the intake reads of a channel (R36, R43). -/
def Channel.work (c : Channel) : Option PartialCycle × PartialBlock × PartialSecond × List (List Int) :=
  (c.cycle, c.block, c.second, c.ring)

/-- What the law of the intake reads of a state (R22, R23, R36, R43, R56). -/
def State.sampleWork (s : State) :
    List Frame × Vector Converter 5 × Vector (Option PartialCycle × PartialBlock × PartialSecond × List (List Int)) 16 ×
      PartialField × Mains :=
  (s.intake.fifo, s.intake.converters, s.channels.map Channel.work, s.field.partialField, s.cfg.device.mains)

theorem channelOk_of_work {n : Nat} {c d : Channel} (hw : d.work = c.work) (h : ChannelOk n c) : ChannelOk n d := by
  simp only [Channel.work, Prod.mk.injEq] at hw
  obtain ⟨hcycle, hblock, hsecond, hring⟩ := hw
  exact ⟨by rw [hcycle]; exact h.cycle, by rw [hblock]; exact h.block, by rw [hsecond]; exact h.second,
    by rw [hring]; exact h.ring, by rw [hring]; exact h.codes⟩

/-- The law goes by `State.sampleWork` alone. -/
theorem IntakeLaw.of_work {s t : State} (h : IntakeLaw s) (hw : t.sampleWork = s.sampleWork) : IntakeLaw t := by
  simp only [State.sampleWork, Prod.mk.injEq] at hw
  obtain ⟨hfifo, hconverters, hchannels, hfield, hmains⟩ := hw
  have each (ch : Fin 16) : t.channels[ch].work = s.channels[ch].work := by
    have := congrArg (fun v => v[ch]) hchannels
    simpa only [Fin.getElem_fin, Vector.getElem_map] using this
  exact {
    fifo := by rw [hfifo]; exact h.fifo
    channels := fun ch => by rw [hmains]; exact channelOk_of_work (each ch) (h.channels ch)
    field := by rw [hfield]; exact h.field
    timers := by rw [hconverters]; exact h.timers
    heard := by rw [hconverters]; exact h.heard }

/-! ### The Transformer Table -/

theorem work_set {v : Vector Channel 16} {i : Fin 16} {c : Channel} (h : c.work = v[i].work) :
    (v.set i c).map Channel.work = v.map Channel.work := by
  ext1 j hj
  simp only [Vector.getElem_map, Vector.getElem_set]
  split
  · rename_i same
    subst same
    exact h
  · rfl

section
variable (i : Fin 16) (s : State)

@[simp] theorem State.takeSecond_work (h : SecondHandOff) :
    (s.takeSecond h).channels.map Channel.work = s.channels.map Channel.work := by
  rcases s.takeSecond_cases h with ⟨-, off⟩ | ⟨-, offered⟩ | ⟨-, evaluated, -⟩
  · rw [off]
  · rw [offered]
    rcases State.offerLearning_cases h (s.setLive h.channel (s.live[h.channel].keeping h)) with
      ⟨-, same⟩ | ⟨-, -, x, -, learning, -⟩
    · rw [same]; rfl
    · rw [learning]; exact work_set rfl
  · rw [evaluated]

theorem Channel.secondPassed_work (l : Live) (c : Channel) : (c.secondPassed l).work = c.work := by
  unfold Channel.secondPassed
  split <;> rfl

@[simp] theorem State.recordSecond_work (stamp : Stamp) :
    (s.recordSecond i stamp).channels.map Channel.work = s.channels.map Channel.work := by
  rw [State.recordSecond_channels]
  exact work_set (Channel.secondPassed_work _ _)

@[simp] theorem State.takeRecordTick_work :
    (s.takeRecordTick i).channels.map Channel.work = s.channels.map Channel.work := by
  simp only [State.takeRecordTick]
  split <;> simp

@[simp] theorem State.recordClock_work (stamp : Stamp) :
    (s.recordClock stamp i).channels.map Channel.work = s.channels.map Channel.work := by
  simp only [State.recordClock]
  split <;> simp

@[simp] theorem State.energise_work : (s.energise i).channels.map Channel.work = s.channels.map Channel.work := by
  rcases s.energise_table i with ⟨-, -, restarted⟩ | ⟨-, same⟩
  · rw [restarted]; exact work_set rfl
  · rw [same]

@[simp] theorem State.deenergise_work : (s.deenergise i).channels.map Channel.work = s.channels.map Channel.work := by
  rcases s.deenergise_table i with ⟨-, -, cleared⟩ | ⟨-, same⟩
  · rw [cleared]; exact work_set rfl
  · rw [same]

theorem Channel.withSettings_work (before after : Settings) (c : Channel) :
    (c.withSettings before after).work = c.work := by
  have learning : (c.withLearning before after).work = c.work := by
    unfold Channel.withLearning
    split <;> rfl
  unfold Channel.withSettings
  split
  · rfl
  · exact learning
  · exact learning

@[simp] theorem State.settingsEffects_work (before after : Settings) :
    (s.settingsEffects i before after).channels.map Channel.work = s.channels.map Channel.work := by
  rw [(s.settingsEffects_table i before after).2]
  exact work_set (Channel.withSettings_work before after _)

end

/-! ### The clock -/

section
variable (stamp : Stamp) (s : State)

@[simp] theorem State.fieldSecond_partial : (s.fieldSecond stamp).field.partialField = s.field.partialField := by
  simp only [State.fieldSecond]
  split <;> rfl

@[simp] theorem State.takeFieldTick_partial : s.takeFieldTick.field.partialField = s.field.partialField := by
  simp only [State.takeFieldTick]
  split <;> simp

@[simp] theorem State.fieldClock_partial : (s.fieldClock stamp).field.partialField = s.field.partialField := by
  simp only [State.fieldClock]
  split <;> simp

/-- A clock second at the records leaves the sample path alone. -/
theorem State.recordClocks_sampleWork (l : List (Fin 16)) :
    (l.foldl (fun u i => u.recordClock stamp i) s).sampleWork = s.sampleWork := by
  induction l generalizing s with
  | nil => rfl
  | cons i l ih => exact (ih _).trans (by simp [State.sampleWork])

/-- A clock second leaves the sample path alone (R175). -/
theorem State.blocksClock_sampleWork : (s.blocksClock stamp).sampleWork = s.sampleWork := by
  refine Eq.trans ?_ (State.recordClocks_sampleWork stamp s allSixteen)
  simp [State.blocksClock, State.sampleWork]

theorem State.settleClock_sampleWork : s.settleClock.sampleWork = s.sampleWork := by
  simp only [State.settleClock]
  split <;> simp [State.sampleWork]

end

end Sys2Proof.Machine
end

section
/-! The law of the intake along the sample path (R22, R23, R36, R43, R45, R56, R66). -/

namespace Sys2Proof.Machine

/-! ### Converters and the FIFO -/

/-- What the law of the intake asks of a converter (R23, R24). -/
structure ConverterOk (c : Converter) : Prop where
  within : ∀ n, c.timer = some n → n ≤ 10
  heard : c.state ≠ .absent → c.timer ≠ none

section
variable {s t : State}

theorem IntakeLaw.converter (h : IntakeLaw s) (c : Fin 5) : ConverterOk (s.converter c) := ⟨h.timers c, h.heard c⟩

/-- The law where the intake changes and what else it reads does not. -/
theorem IntakeLaw.withIntake (h : IntakeLaw s) {x : Intake} (hfifo : x.fifo.length ≤ 8)
    (hx : ∀ c : Fin 5, ConverterOk x.converters[c]) : IntakeLaw (s.withIntake x) :=
  ⟨hfifo, h.channels, h.field, fun c => (hx c).within, fun c => (hx c).heard⟩

theorem IntakeLaw.setConverter (h : IntakeLaw s) (c : Fin 5) {v : Converter} (hv : ConverterOk v) :
    IntakeLaw (s.setConverter c v) :=
  h.withIntake (x := { s.intake with converters := s.intake.converters.set c v }) h.fifo
    (forall_set (v := s.intake.converters) rfl h.converter hv)

/-- The state of a converter may change to any in which its timer need not run. -/
theorem IntakeLaw.setConverterState (h : IntakeLaw s) (c : Fin 5) {v : ConverterState}
    (hv : v ≠ .absent → (s.converter c).timer ≠ none) : IntakeLaw (s.setConverterState c v) :=
  (h.setConverter c (v := { s.converter c with state := v }) ⟨(h.converter c).within, hv⟩).of_work
    (by simp [State.sampleWork, State.setConverterState])

/-! ### The sample line -/

/-- A converter that a valid frame has reloaded the timer of (R23). -/
theorem ConverterOk.reloaded (v : ConverterState) (o r : Bool) : ConverterOk ⟨v, some 10, o, r⟩ :=
  ⟨fun n hn => by cases hn; exact le_rfl, fun _ => by simp⟩

theorem IntakeLaw.arrive (h : IntakeLaw s) (f : Frame) : IntakeLaw (s.arrive f) := by
  simp only [State.arrive]
  split
  · rename_i room
    have joined : IntakeLaw (s.withIntake { s.intake with fifo := s.intake.fifo ++ [f] }) :=
      h.withIntake (by rw [List.length_append]; exact room) h.converter
    exact joined.setConverter _ (ConverterOk.reloaded _ _ _)
  · exact h.setConverter _ (ConverterOk.reloaded _ _ _)

theorem IntakeLaw.lineEvents (es : List LineEvent) (h : IntakeLaw s) : IntakeLaw (s.lineEvents es) := by
  induction es generalizing s with
  | nil => exact h
  | cons e es ih =>
    refine ih (s := s.lineEvent e) ?_
    cases e with
    | valid f => exact h.arrive f
    | crcFailed => exact h.of_work rfl

theorem IntakeLaw.sampleBytes (h : IntakeLaw s) (bytes : List Byte) : IntakeLaw (s.sampleBytes bytes) :=
  .lineEvents _ (h.of_work rfl)

theorem IntakeLaw.sampleIdle (h : IntakeLaw s) : IntakeLaw s.sampleIdle := .lineEvents _ (h.of_work rfl)

theorem IntakeLaw.sampleDamaged (h : IntakeLaw s) : IntakeLaw s.sampleDamaged := by
  simp only [State.sampleDamaged]
  split
  · exact h
  · exact h.of_work rfl

/-! ### The extractor and the estimator -/

/-- The law where the channels change and what else it reads does not. -/
theorem IntakeLaw.withChannels (h : IntakeLaw s) (hintake : t.intake = s.intake) (hfield : t.field = s.field)
    (hcfg : t.cfg = s.cfg) (hchannels : ∀ ch : Fin 16, ChannelOk s.cfg.device.mains.cycles t.channels[ch]) :
    IntakeLaw t where
  fifo := by rw [hintake]; exact h.fifo
  channels := by rw [hcfg]; exact hchannels
  field := by rw [hfield]; exact h.field
  timers := by rw [hintake]; exact h.timers
  heard := by rw [hintake]; exact h.heard

section
variable {n : Nat} {c : Channel} {p : PartialCycle}

/-- A complete cycle goes to the ring (R39, R43). -/
theorem ChannelOk.ringWith (h : ChannelOk n c) (full : p.codes.length = 32) :
    (ringWith c.ring p.codes).length ≤ 4 ∧ ∀ r ∈ Machine.ringWith c.ring p.codes, r.length = 32 := by
  rw [ringWith_eq_drop]
  refine ⟨by simp; omega, fun r hr => ?_⟩
  rcases List.mem_append.mp (List.mem_of_mem_drop hr) with kept | new
  · exact h.codes r kept
  · rw [List.mem_singleton.mp new]
    exact full

theorem ChannelOk.withCode (h : ChannelOk n c) (code : Int) : ChannelOk n { c with second := c.second.withCode code } :=
  ⟨h.cycle, h.block, h.second, h.ring, h.codes⟩

theorem ChannelOk.blockWith (h : ChannelOk n c) (full : p.codes.length = 32) (room : c.block.count + 1 < n) :
    ChannelOk n (c.blockWith p) :=
  ⟨by rintro _ ⟨⟩, room, h.second, (h.ringWith full).1, (h.ringWith full).2⟩

theorem ChannelOk.secondWith (h : ChannelOk n c) (full : p.codes.length = 32) (short : c.second.count < 9) :
    ChannelOk n (c.secondWith n p) :=
  ⟨by rintro _ ⟨⟩, Nat.zero_lt_of_lt h.block, short, (h.ringWith full).1, (h.ringWith full).2⟩

theorem ChannelOk.secondHanded (h : ChannelOk n c) (full : p.codes.length = 32) :
    ChannelOk n { c.secondWith n p with second := emptySecond } :=
  ⟨by rintro _ ⟨⟩, Nat.zero_lt_of_lt h.block, Nat.zero_le _, (h.ringWith full).1, (h.ringWith full).2⟩

end

/-- A complete cycle has 32 codes, and leaves the channel one of three ways (R39 to R41). -/
theorem IntakeLaw.completeCycle (h : IntakeLaw s) (ch : Fin 16) {p : PartialCycle} (full : p.codes.length = 32) :
    IntakeLaw (s.completeCycle ch p) := by
  refine h.withChannels (by simp) (by simp) (by simp) ?_
  by_cases room : s.channels[ch].block.count + 1 < s.cfg.device.mains.cycles
  · rw [State.completeCycle_within room]
    exact forall_set (v := s.channels) rfl h.channels ((h.channels ch).blockWith full room)
  · by_cases short : s.channels[ch].second.count < 9
    · rw [State.completeCycle_block (Nat.not_lt.mp room) short]
      exact forall_set (v := s.channels) rfl h.channels ((h.channels ch).secondWith full short)
    · rw [State.completeCycle_second (Nat.not_lt.mp room) (Nat.not_lt.mp short)]
      exact forall_set (v := s.channels) rfl h.channels ((h.channels ch).secondHanded full)

theorem IntakeLaw.setChannel (h : IntakeLaw s) (ch : Fin 16) {c : Channel}
    (hc : ChannelOk s.cfg.device.mains.cycles c) : IntakeLaw (s.setChannel ch c) :=
  h.withChannels (by simp) (by simp) (by simp) (forall_set (v := s.channels) rfl h.channels hc)

theorem IntakeLaw.nextCycle (h : IntakeLaw s) (ch : Fin 16) (code : Int) (tag : Tag) :
    (s.nextCycle ch code tag).codes.length ≤ 32 := by
  cases begun : s.channels[ch].cycle with
  | none => rw [State.nextCycle_of_none begun]; simp
  | some p =>
    rw [State.nextCycle_of_some begun]
    rw [List.length_append]
    exact Nat.succ_le_succ ((h.channels ch).cycle p begun)

theorem IntakeLaw.takeSample (h : IntakeLaw s) (ch : Fin 16) (code : Int) (tag : Tag) :
    IntakeLaw (s.takeSample ch code tag) := by
  have most := h.nextCycle ch code tag
  have ok := h.channels ch
  rcases Nat.lt_or_ge (s.nextCycle ch code tag).codes.length 32 with short | full
  · rw [State.takeSample_joins short]
    exact h.setChannel ch ⟨fun p hp => by cases hp; omega, ok.block, ok.second, ok.ring, ok.codes⟩
  · rw [State.takeSample_completes full]
    exact (h.setChannel ch (ok.withCode code)).completeCycle ch (Nat.le_antisymm most full)

/-- A partial field second has at most nine groups (R56): the tenth completes it. -/
theorem IntakeLaw.takeFieldGroup (h : IntakeLaw s) (north east : Int) (tag : Tag) :
    IntakeLaw (s.takeFieldGroup north east tag) := by
  have count : (s.takeFieldGroup north east tag).field.partialField.count ≤ 9 := by
    simp only [State.takeFieldGroup]
    split
    · exact Nat.zero_le _
    · rename_i short
      exact Nat.le_of_lt_succ (Nat.not_le.mp short)
  exact ⟨by simpa using h.fifo, by simpa using h.channels, count, by simpa using h.timers, by simpa using h.heard⟩

theorem IntakeLaw.takeGroup (h : IntakeLaw s) (g : SampleGroup) : IntakeLaw (s.takeGroup g) := by
  cases g with
  | current c seq x =>
    simp only [State.takeGroup]
    exact (((h.takeSample _ _ _).takeSample _ _ _).takeSample _ _ _).takeSample _ _ _
  | field seq north east tag => exact h.takeFieldGroup north east tag

/-! ### Abandon notices -/

theorem Mains.cycles_pos (m : Mains) : 0 < m.cycles := by cases m <;> decide

/-- An emptied channel holds nothing, so that it is within capacity whatever the length of a block (R45, R46). -/
theorem channelOk_abandoned (c : Channel) (m : Mains) : ChannelOk m.cycles c.abandoned :=
  ⟨by rintro _ ⟨⟩, m.cycles_pos, Nat.zero_le _, Nat.zero_le _, by rintro _ ⟨⟩⟩

theorem IntakeLaw.abandonChannels (h : IntakeLaw s) (named : Fin 16 → Bool) : IntakeLaw (s.abandonChannels named) := by
  refine h.withChannels (by simp) (by simp) (by simp) fun ch => ?_
  rw [State.abandonChannels, get_ofFn]
  split
  · exact channelOk_abandoned _ _
  · exact h.channels ch

theorem IntakeLaw.abandon (h : IntakeLaw s) (named : Fin 16 → Bool) : IntakeLaw (s.abandon named) :=
  (h.abandonChannels named).of_work (by simp [State.abandon, State.sampleWork])

theorem IntakeLaw.abandonConverter (h : IntakeLaw s) (c : Fin 5) : IntakeLaw (s.abandonConverter c) := by
  simp only [State.abandonConverter]
  split
  · exact ⟨h.fifo, h.channels, Nat.zero_le _, h.timers, h.heard⟩
  · exact h.abandon _

end

end Sys2Proof.Machine
end

section
/-! The law of the intake as frames are judged, converters go, and tenths pass (R23 to R29). -/

namespace Sys2Proof.Machine

section
variable {s : State}

/-! ### Handing on -/

theorem IntakeLaw.handFills (h : IntakeLaw s) (f : Frame) (n : Nat) (q : Byte) : IntakeLaw (s.handFills f q n) := by
  induction n generalizing s q with
  | zero => exact h
  | succ n ih => exact ih (h.takeGroup _) (q + 1)

theorem IntakeLaw.emitDevice (h : IntakeLaw s) (k : TransitionKind) (d : Option Nat) (t : Stamp) :
    IntakeLaw (s.emitDevice k d t) := h.of_work rfl

theorem IntakeLaw.handleStatus (h : IntakeLaw s) (f : Frame) : IntakeLaw (s.handleStatus f) := by
  simp only [State.handleStatus]
  split
  · rename_i r locked
    split
    · have present : (s.converter f.converter).state ≠ .absent := by rw [locked]; exact ConverterState.noConfusion
      exact (h.setConverterState _ fun _ => (h.converter _).heard present).emitDevice _ _ _
    · exact h
  · exact h

theorem ConverterState.withRef_absent (q : Byte) : ConverterState.absent.withRef q = .absent := rfl

theorem IntakeLaw.followRef (h : IntakeLaw s) (f : Frame) : IntakeLaw (s.followRef f) := by
  refine h.setConverterState _ fun present => (h.converter _).heard fun absent => present ?_
  rw [absent, ConverterState.withRef_absent]

theorem IntakeLaw.handOwn (h : IntakeLaw s) (f : Frame) : IntakeLaw (s.handOwn f) := by
  have held : IntakeLaw { s with intake := s.intake.holding f } := h.of_work (by cases f <;> rfl)
  simp only [State.handOwn]
  split
  · exact h.takeGroup _
  · exact held.takeGroup _

/-! ### Judging -/

theorem IntakeLaw.resync (h : IntakeLaw s) (f : Frame) : IntakeLaw (s.resync f) := by
  have noticed := (h.abandonConverter f.converter).emitDevice .converterResync (some f.converter.val) s.time.now
  have ok := noticed.converter f.converter
  have seen := noticed.setConverter f.converter (v := { State.converter f.converter _ with resyncSeen := true })
    ⟨ok.within, ok.heard⟩
  exact ((seen.followRef f).handleStatus f).handOwn f

/-- The first frame starts a timer that has stopped (R24). -/
theorem ConverterOk.started {c : Converter} (h : ConverterOk c) : ConverterOk { c with timer := some (c.timer.getD 10) } := by
  refine ⟨fun n hn => ?_, fun _ => by simp⟩
  cases running : c.timer with
  | none =>
    rw [running] at hn
    cases hn
    exact le_rfl
  | some m =>
    rw [running] at hn
    cases hn
    exact h.within m running

theorem IntakeLaw.firstFrame (h : IntakeLaw s) (f : Frame) : IntakeLaw (s.firstFrame f) := by
  have started := h.setConverter f.converter (h.converter f.converter).started
  have runs : ((s.setConverter f.converter
      { s.converter f.converter with timer := some ((s.converter f.converter).timer.getD 10) }).converter
        f.converter).timer ≠ none := by
    rw [State.converter, State.setConverter_intake, get_set_same]
    exact Option.some_ne_none _
  simp only [State.firstFrame]
  split
  · exact ((started.setConverterState _ fun _ => runs).emitDevice _ _ _).handOwn f
  · exact (started.setConverterState _ fun _ => runs).handOwn f

theorem IntakeLaw.judge (h : IntakeLaw s) (f : Frame) : IntakeLaw (s.judge f) := by
  simp only [State.judge]
  split
  · exact h.firstFrame f
  · split
    · exact h
    · split
      · exact (((h.handFills f _ _).handleStatus f).followRef f).handOwn f
      · exact h.resync f

theorem IntakeLaw.takeHead (h : IntakeLaw s) (wanted : Frame → Bool) : IntakeLaw (s.takeHead wanted) := by
  simp only [State.takeHead]
  split
  · exact h
  · rename_i f rest fifo
    split
    · have shorter : rest.length ≤ 8 := by
        have := h.fifo
        rw [fifo, List.length_cons] at this
        omega
      exact (h.withIntake (x := { s.intake with fifo := rest }) shorter h.converter).judge f
    · exact h

/-! ### Time, and converters that go -/

theorem ConverterOk.tenthPassed {c : Converter} (h : ConverterOk c) : ConverterOk c.tenthPassed := by
  refine ⟨fun n hn => ?_, fun present => ?_⟩
  · obtain ⟨m, hm, rfl⟩ := Option.map_eq_some_iff.mp hn
    exact (Nat.sub_le m 1).trans (h.within m hm)
  · exact fun stopped => h.heard present (Option.map_eq_none_iff.mp stopped)

theorem IntakeLaw.tenthPasses (h : IntakeLaw s) : IntakeLaw s.tenthPasses := by
  refine h.withIntake (x := { s.intake with converters := s.intake.converters.map Converter.tenthPassed }) h.fifo fun c => ?_
  rw [show (s.intake.converters.map Converter.tenthPassed)[c] = (s.converter c).tenthPassed from Vector.getElem_map _ _]
  exact (h.converter c).tenthPassed

theorem IntakeLaw.silenceExpired (h : IntakeLaw s) (c : Fin 5) : IntakeLaw (s.silenceExpired c) := by
  by_cases expired : (s.converter c).timer = some 0
  · have silenced : IntakeLaw (s.withIntake (s.intake.silenced c)) := by
      refine h.withIntake h.fifo (forall_set (v := s.intake.converters) rfl h.converter ⟨?_, ?_⟩)
      · rintro n ⟨⟩
      · exact fun present => absurd rfl present
    by_cases absent : (s.converter c).state = .absent
    · rw [State.silenceExpired_absent expired absent]
      exact silenced
    · rw [State.silenceExpired_present expired absent]
      have told : IntakeLaw (s.silenced c) := silenced.of_work rfl
      exact (told.emitDevice _ _ _).abandonConverter c
  · rw [State.silenceExpired_of_ne expired]
    exact h

theorem IntakeLaw.blocksClock (h : IntakeLaw s) (stamp : Stamp) : IntakeLaw (s.blocksClock stamp) :=
  h.of_work (State.blocksClock_sampleWork stamp s)

theorem IntakeLaw.afterTenth (h : IntakeLaw s) (t : TimeBase) (l : MessageLink) :
    IntakeLaw { s with time := t, intake := s.intake.afterTenth, link := l } := by
  have passed := h.tenthPasses
  rw [State.tenthPasses_eq] at passed
  exact passed.of_work rfl

theorem IntakeLaw.oscillatorSecond (h : IntakeLaw s) : IntakeLaw s.oscillatorSecond := by
  rw [State.oscillatorSecond_eq]
  exact (h.afterTenth _ s.link).blocksClock _

theorem IntakeLaw.supervisedSecond (h : IntakeLaw s) : IntakeLaw s.supervisedSecond := by
  cases staged : s.time.pendingSet with
  | none =>
    rw [State.supervisedSecond_of_none staged]
    exact h.oscillatorSecond
  | some set =>
    rw [State.supervisedSecond_of_some (day := set.1) (sec := set.2) staged]
    exact (h.afterTenth _ _).blocksClock _

theorem IntakeLaw.ppsEdgeAt (h : IntakeLaw s) (now : Nat) : IntakeLaw (s.ppsEdgeAt now) := by
  simp only [State.ppsEdgeAt]
  repeat' split
  · exact h
  · exact h
  · exact IntakeLaw.supervisedSecond (h.of_work rfl)
  · exact IntakeLaw.oscillatorSecond (h.of_work rfl)

theorem IntakeLaw.ppsFails (h : IntakeLaw s) : IntakeLaw s.ppsFails := by
  simp only [State.ppsFails]
  split
  · exact IntakeLaw.supervisedSecond (h.of_work rfl)
  · exact h

theorem IntakeLaw.settleClock (h : IntakeLaw s) : IntakeLaw s.settleClock := h.of_work s.settleClock_sampleWork

/-! ### Resets -/

theorem intakeLaw_startUp (cause : ResetCause) (rateHigh : Bool) (s : State) : IntakeLaw (s.startUp cause rateHigh) where
  fifo := Nat.zero_le _
  channels ch := by
    have initial : (s.startUp cause rateHigh).channels[ch] = initialChannel := by simp [State.startUp]
    rw [initial]
    exact ⟨by rintro _ ⟨⟩, Mains.cycles_pos _, Nat.zero_le _, Nat.zero_le _, by rintro _ ⟨⟩⟩
  field := Nat.zero_le _
  timers c n := by
    simp only [State.startUp, initialIntake, Fin.getElem_fin, Vector.getElem_replicate]
    rintro ⟨⟩
  heard c := by
    simp only [State.startUp, initialIntake, Fin.getElem_fin, Vector.getElem_replicate]
    exact fun present => absurd rfl present

end

end Sys2Proof.Machine
end

section
/-! The law of the intake over the host's requests: but for four of them they leave the sample path alone. -/

namespace Sys2Proof.Machine

section
variable (r : Request) (s : State)

theorem State.withTransformer_sampleWork (n : Nat) (f : Fin 16 → State → State)
    (hf : ∀ i, (f i s).sampleWork = s.sampleWork) : (s.withTransformer n r f).sampleWork = s.sampleWork := by
  simp only [State.withTransformer]
  split
  · rfl
  · exact hf _

theorem State.whenChanged_sampleWork {f : State → State} (changed : Bool) (u : State)
    (hf : (f u).sampleWork = u.sampleWork) : (u.whenChanged changed f).sampleWork = u.sampleWork := by
  cases changed
  · rfl
  · exact hf

/-! ### Requests that leave the sample path alone -/

theorem handleSetClock_sampleWork : (handleSetClock r s).sampleWork = s.sampleWork := by
  simp only [handleSetClock]
  split <;> simp [State.sampleWork]

theorem handleReadSnapshot_sampleWork : (handleReadSnapshot r s).sampleWork = s.sampleWork := by
  simp only [handleReadSnapshot]
  split
  · rfl
  · exact s.withTransformer_sampleWork r _ _ fun _ => rfl

theorem handleReadField_sampleWork : (handleReadField r s).sampleWork = s.sampleWork := by
  simp only [handleReadField]
  split <;> rfl

theorem handleReadMap_sampleWork : (handleReadMap r s).sampleWork = s.sampleWork := by
  simp only [handleReadMap]
  split <;> rfl

theorem handleWriteSettings_sampleWork : (handleWriteSettings r s).sampleWork = s.sampleWork := by
  simp only [handleWriteSettings]
  split
  · rfl
  · refine s.withTransformer_sampleWork r _ _ fun i => ?_
    simp only [State.writeSettings]
    split <;> simp [State.sampleWork]

theorem handleAcknowledge_sampleWork : (handleAcknowledge r s).sampleWork = s.sampleWork := by
  refine (State.whenChanged_sampleWork _ _ ?_).trans ?_
  · simp [State.sampleWork]
  · simp [State.sampleWork]

theorem handleSuppress_sampleWork : (handleSuppress r s).sampleWork = s.sampleWork := by
  simp only [handleSuppress]
  split <;> simp [State.sampleWork]

theorem handleLoadResponse_sampleWork : (handleLoadResponse r s).sampleWork = s.sampleWork := by
  simp only [handleLoadResponse]
  (repeat' split) <;> rfl

theorem handleWriteMap_sampleWork : (handleWriteMap r s).sampleWork = s.sampleWork := by
  simp only [handleWriteMap]
  (repeat' split) <;> simp [State.sampleWork, State.mapWritten]

theorem handleFetchSummary_sampleWork : (handleFetchSummary r s).sampleWork = s.sampleWork := by
  simp [handleFetchSummary, State.sampleWork]

theorem handleChangeMask_sampleWork : (handleChangeMask r s).sampleWork = s.sampleWork := by
  simp only [handleChangeMask]
  split <;> simp [State.sampleWork]

theorem handleFetchTransitions_sampleWork : (handleFetchTransitions r s).sampleWork = s.sampleWork := by
  simp only [handleFetchTransitions]
  split <;> simp [State.sampleWork]

theorem handleReadEpisode_sampleWork : (handleReadEpisode r s).sampleWork = s.sampleWork := by
  simp only [handleReadEpisode]
  split <;> rfl

theorem handleReadEntry_sampleWork : (handleReadEntry r s).sampleWork = s.sampleWork := by
  simp only [handleReadEntry]
  split <;> rfl

theorem handleCloseEpisode_sampleWork : (handleCloseEpisode r s).sampleWork = s.sampleWork := by
  simp only [handleCloseEpisode]
  split <;> simp [State.sampleWork]

theorem handleCaptureNow_sampleWork : (handleCaptureNow r s).sampleWork = s.sampleWork := by
  refine s.withTransformer_sampleWork r _ _ fun ch => ?_
  split
  · rfl
  · simp only [State.captureNow]
    (repeat' split) <;> simp [State.sampleWork]

theorem handleExtendCapture_sampleWork : (handleExtendCapture r s).sampleWork = s.sampleWork := by
  simp only [handleExtendCapture]
  (repeat' split) <;> simp [State.sampleWork]

theorem handleListCaptures_sampleWork : (handleListCaptures r s).sampleWork = s.sampleWork := by
  simp only [handleListCaptures]
  (repeat' split) <;> rfl

theorem handleReadSamples_sampleWork : (handleReadSamples r s).sampleWork = s.sampleWork := by
  simp only [handleReadSamples]
  split <;> rfl

theorem handleRelease_sampleWork : (handleRelease r s).sampleWork = s.sampleWork := by
  simp only [handleRelease]
  (repeat' split) <;> simp [State.sampleWork]

theorem handleSave_sampleWork : (handleSave r s).sampleWork = s.sampleWork := by
  simp only [handleSave]
  split <;> rfl

theorem State.serveUnknown_sampleWork : s.serveUnknown.sampleWork = s.sampleWork := by
  simp only [State.serveUnknown]
  (repeat' split) <;> rfl

theorem State.serveRestart_sampleWork : s.serveRestart.sampleWork = s.sampleWork := by
  simp only [State.serveRestart]
  (repeat' split) <;> rfl

theorem State.saveEnds_sampleWork (agrees : Bool) : (s.saveEnds agrees).sampleWork = s.sampleWork := by
  simp only [State.saveEnds]
  (repeat' split) <;> rfl

end

/-! ### Requests that do not -/

section
variable {s : State} (h : IntakeLaw s) (r : Request)
include h

/-- A reply to Read Intake Status clears flags alone (R33). -/
theorem IntakeLaw.handleReadIntake : IntakeLaw (handleReadIntake r s) := by
  have cleared : IntakeLaw (s.withIntake { s.intake with
      converters := Vector.ofFn fun c => s.intake.converters[c].flagsCleared, crcSeen := false }) := by
    refine h.withIntake h.fifo fun c => ?_
    rw [get_ofFn]
    exact ⟨(h.converter c).within, (h.converter c).heard⟩
  exact cleared.of_work rfl

/-- A FAULTED converter that the host clears is LOCKED, its timer running as before (R30). -/
theorem IntakeLaw.handleClearFault : IntakeLaw (handleClearFault r s) := by
  simp only [Machine.handleClearFault]
  split
  · exact h.of_work rfl
  · rename_i c _
    split
    · rename_i ref faulted
      have present : (s.converter c).state ≠ .absent := by rw [faulted]; exact ConverterState.noConfusion
      exact (h.setConverterState c fun _ => (h.converter c).heard present).of_work rfl
    · exact h.of_work rfl

/-- Other mains have blocks of another length, and empty every channel (R46). -/
theorem IntakeLaw.setDevice_abandon (d : DeviceSettings) : IntakeLaw ((s.setDevice d).abandon fun _ => true) := by
  have emptied : IntakeLaw ((s.setDevice d).abandonChannels fun _ => true) := by
    refine ⟨h.fifo, fun ch => ?_, h.field, h.timers, h.heard⟩
    have each : ((s.setDevice d).abandonChannels fun _ => true).channels[ch] = s.channels[ch].abandoned := by
      simp [State.abandonChannels]
    rw [each]
    exact channelOk_abandoned _ _
  exact emptied.of_work (by simp [State.abandon, State.sampleWork])

omit h in
/-- But for the abandon the effects of written device settings leave the sample path alone (R179). -/
theorem State.deviceEffects_sampleWork (before after : DeviceSettings) (now : Nat) :
    (s.deviceEffects before after now).sampleWork =
      (s.whenChanged (before.mains != after.mains) (State.abandon fun _ => true)).sampleWork := by
  simp only [State.deviceEffects]
  refine (State.whenChanged_sampleWork _ _ (by simp [State.sampleWork])).trans ?_
  refine (State.whenChanged_sampleWork _ _ (by simp [State.sampleWork])).trans ?_
  refine (State.whenChanged_sampleWork _ _ (by simp [State.sampleWork])).trans ?_
  exact State.whenChanged_sampleWork _ _ (by simp [State.sampleWork])

theorem IntakeLaw.handleWriteDevice (now : Nat) : IntakeLaw (handleWriteDevice now r s) := by
  simp only [Machine.handleWriteDevice]
  split
  · exact h.of_work rfl
  · refine IntakeLaw.of_work (s := (s.setDevice (deviceOf r.body s.cfg.device.noticeMask)).whenChanged
      (s.cfg.device.mains != (deviceOf r.body s.cfg.device.noticeMask).mains) (State.abandon fun _ => true)) ?_
      (State.deviceEffects_sampleWork _ _ _)
    by_cases same : s.cfg.device.mains = (deviceOf r.body s.cfg.device.noticeMask).mains
    · rw [State.whenChanged, same, bne_self_eq_false]
      exact h.of_work (by simp [State.sampleWork, same])
    · rw [State.whenChanged, bne_iff_ne.mpr same]
      exact h.setDevice_abandon _

end

end Sys2Proof.Machine
end

section
/-! Every step keeps the law of the intake (R22, R23, R24, R36, R43, R56). -/

namespace Sys2Proof.Machine

section
variable {s u : State} (h : IntakeLaw s)
include h

/-! ### Requests -/

/-- A request row keeps the law where its handler does. -/
theorem IntakeLaw.serveRequest (k : Byte) {f : Request → State → State}
    (hf : ∀ r v, IntakeLaw v → IntakeLaw (f r v)) : IntakeLaw (s.serveRequest k f) := by
  rcases serveRequest_cases k f s with same | ⟨r, -, bad | ⟨-, served⟩⟩
  · rw [same]; exact h
  · rw [bad]; exact h.of_work rfl
  · rw [served]; exact hf r _ (h.of_work rfl)

/-- So it does where its handler leaves the sample path alone. -/
theorem IntakeLaw.served (k : Byte) {f : Request → State → State} (hf : ∀ r v, (f r v).sampleWork = v.sampleWork) :
    IntakeLaw (s.serveRequest k f) := h.serveRequest k fun r v hv => hv.of_work (hf r v)

/-! ### Events that wait -/

theorem IntakeLaw.execMeasuredSecond (i : Fin 16) (e : execMeasuredSecond i s = .next u) : IntakeLaw u := by
  simp only [Machine.execMeasuredSecond] at e
  split at e <;> cases e
  · exact h
  · exact h.of_work (by simp [State.sampleWork])

theorem IntakeLaw.execStandInSecond (i : Fin 16) (e : execStandInSecond i s = .next u) : IntakeLaw u := by
  simp only [Machine.execStandInSecond] at e
  split at e <;> cases e
  · exact IntakeLaw.settleClock (h.of_work (by simp [State.sampleWork]))
  · exact h

theorem IntakeLaw.execEpisodeHandoff (i : Fin 16) (e : execEpisodeHandoff i s = .next u) : IntakeLaw u := by
  simp only [Machine.execEpisodeHandoff] at e
  split at e <;> cases e
  · exact h
  · exact h.of_work (by simp [State.sampleWork])

theorem IntakeLaw.execEnergised (i : Fin 16) (e : execEnergised i s = .next u) : IntakeLaw u := by
  simp only [Machine.execEnergised] at e
  split at e
  · cases e; exact h
  · split at e <;> cases e
    · exact h.of_work (by simp [State.sampleWork])
    · exact h

theorem IntakeLaw.execDeenergised (i : Fin 16) (e : execDeenergised i s = .next u) : IntakeLaw u := by
  simp only [Machine.execDeenergised] at e
  split at e
  · cases e; exact h
  · split at e <;> cases e
    · exact h
    · exact h.of_work (by simp [State.sampleWork])

theorem IntakeLaw.execPanelPress (e : execPanelPress s = .next u) : IntakeLaw u := by
  simp only [Machine.execPanelPress] at e
  split at e <;> cases e
  · exact h.of_work (by simp [State.sampleWork])
  · exact h

theorem IntakeLaw.execPanelRelease (e : execPanelRelease s = .next u) : IntakeLaw u := by
  simp only [Machine.execPanelRelease] at e
  split at e <;> cases e
  · exact h.of_work (by simp [State.sampleWork])
  · exact h

theorem IntakeLaw.execContactReport (e : execContactReport s = .next u) : IntakeLaw u := by
  simp only [Machine.execContactReport] at e
  split at e <;> cases e
  · exact h
  · exact h.of_work (by simp [State.sampleWork])

theorem IntakeLaw.execLevelTrigger (ch : Fin 16) (e : execLevelTrigger ch s = .next u) : IntakeLaw u := by
  simp only [Machine.execLevelTrigger] at e
  split at e <;> cases e
  · exact h
  · exact h.of_work (by simp [State.sampleWork])

theorem IntakeLaw.execCaptureDisableReport (ch : Fin 16) (e : execCaptureDisableReport ch s = .next u) : IntakeLaw u := by
  simp only [Machine.execCaptureDisableReport] at e
  split at e <;> cases e
  · exact h
  · exact h.of_work (by simp [State.sampleWork])

theorem IntakeLaw.execCaptureMissed (ch : Fin 16) (e : execCaptureMissed ch s = .next u) : IntakeLaw u := by
  simp only [Machine.execCaptureMissed] at e
  split at e <;> cases e
  · exact h
  · exact h.of_work (by simp [State.sampleWork])

theorem IntakeLaw.execTenthAdvance (e : execTenthAdvance s = .next u) : IntakeLaw u := by
  cases e
  repeat' split
  · exact h.tenthPasses.of_work rfl
  · exact h.tenthPasses
  · exact h

theorem IntakeLaw.execRestartReset (rateHigh : Bool) (e : execRestartReset rateHigh s = .next u) : IntakeLaw u := by
  cases e
  split
  · exact intakeLaw_startUp _ _ s
  · exact h

theorem IntakeLaw.execClockSecond (e : execClockSecond s = .next u) : IntakeLaw u := by
  cases e
  split
  · exact h
  · exact h.oscillatorSecond

theorem IntakeLaw.execFieldNone (e : execFieldNone s = .next u) : IntakeLaw u := by
  cases e
  split
  · exact IntakeLaw.settleClock (h.of_work (by simp [State.sampleWork]))
  · exact h

/-! ### Every command -/

theorem IntakeLaw.exec {c : Instr} (e : exec c s = .next u) : IntakeLaw u := by
  cases c with
  | powerOnReset rateHigh => cases e; exact intakeLaw_startUp _ _ s
  | pinReset rateHigh => cases e; exact intakeLaw_startUp _ _ s
  | restartReset rateHigh => exact h.execRestartReset rateHigh e
  | sampleFrame bytes => cases e; exact h.sampleBytes _
  | sampleLineIdle bytes => cases e; exact (h.sampleBytes _).sampleIdle
  | takeCurrentFrame => cases e; exact h.takeHead _
  | takeFieldFrame => cases e; exact h.takeHead _
  | measuredSecond i => exact h.execMeasuredSecond i e
  | clockSecond => exact h.execClockSecond e
  | standInSecond i => exact h.execStandInSecond i e
  | fieldNone => exact h.execFieldNone e
  | episodeQuietClose => cases e; exact h.of_work (by simp [State.sampleWork])
  | episodeHandoff i => exact h.execEpisodeHandoff i e
  | captureMissed ch => exact h.execCaptureMissed ch e
  | linkSilent => cases e; exact h.of_work (by simp [State.sampleWork])
  | silenceTimerExpiry c => cases e; exact h.silenceExpired c
  | ppsEdge now => cases e; exact h.ppsEdgeAt now
  | ppsLost => cases e; exact h.ppsFails
  | inputLevelChange pin level now => cases e; exact h.of_work rfl
  | debounceComplete pin => cases e; exact h.of_work (by simp [State.sampleWork])
  | energised i => exact h.execEnergised i e
  | deenergised i => exact h.execDeenergised i e
  | panelPress => exact h.execPanelPress e
  | panelRelease => exact h.execPanelRelease e
  | panelTestStart => cases e; exact h.of_work (by split <;> simp [State.sampleWork])
  | panelTestTimeout => cases e; exact h.of_work (by split <;> simp [State.sampleWork])
  | contactReport => exact h.execContactReport e
  | levelTrigger ch => exact h.execLevelTrigger ch e
  | captureDisableReport ch => exact h.execCaptureDisableReport ch e
  | requestFrame bytes => cases e; exact h.of_work (by simp [State.sampleWork])
  | hostFrameGap bytes => cases e; exact h.of_work (by simp [State.sampleWork])
  | unknownKindRequest => cases e; exact h.of_work s.serveUnknown_sampleWork
  | identify => cases e; exact h.served _ fun r v => rfl
  | readClock => cases e; exact h.served _ fun r v => rfl
  | setClock => cases e; exact h.served _ handleSetClock_sampleWork
  | readDeviceSettings => cases e; exact h.served _ fun r v => rfl
  | writeDeviceSettings now => cases e; exact h.serveRequest _ fun r v hv => hv.handleWriteDevice r now
  | readTransformerSettings => cases e; exact h.served _ fun r v => v.withTransformer_sampleWork r _ _ fun _ => rfl
  | writeTransformerSettings => cases e; exact h.served _ handleWriteSettings_sampleWork
  | readLive => cases e; exact h.served _ fun r v => v.withTransformer_sampleWork r _ _ fun _ => rfl
  | snapshot => cases e; exact h.served _ fun r v => rfl
  | readSnapshot => cases e; exact h.served _ handleReadSnapshot_sampleWork
  | acknowledge => cases e; exact h.served _ handleAcknowledge_sampleWork
  | suppress => cases e; exact h.served _ handleSuppress_sampleWork
  | loadGroundResponse => cases e; exact h.served _ handleLoadResponse_sampleWork
  | readGroundResponse => cases e; exact h.served _ fun r v => rfl
  | readField => cases e; exact h.served _ handleReadField_sampleWork
  | readContactMap => cases e; exact h.served _ handleReadMap_sampleWork
  | writeContactMap => cases e; exact h.served _ handleWriteMap_sampleWork
  | fetchSummary => cases e; exact h.served _ handleFetchSummary_sampleWork
  | changeNoticeMask => cases e; exact h.served _ handleChangeMask_sampleWork
  | fetchTransitions => cases e; exact h.served _ handleFetchTransitions_sampleWork
  | readEpisode => cases e; exact h.served _ handleReadEpisode_sampleWork
  | readEpisodeEntry => cases e; exact h.served _ handleReadEntry_sampleWork
  | closeEpisode => cases e; exact h.served _ handleCloseEpisode_sampleWork
  | captureNow => cases e; exact h.served _ handleCaptureNow_sampleWork
  | extendCapture => cases e; exact h.served _ handleExtendCapture_sampleWork
  | listCaptures => cases e; exact h.served _ handleListCaptures_sampleWork
  | readCaptureSamples => cases e; exact h.served _ handleReadSamples_sampleWork
  | releaseCapture => cases e; exact h.served _ handleRelease_sampleWork
  | readIntakeStatus => cases e; exact h.serveRequest _ fun r v hv => hv.handleReadIntake r
  | clearConverterFault => cases e; exact h.serveRequest _ fun r v hv => hv.handleClearFault r
  | saveSettings => cases e; exact h.served _ handleSave_sampleWork
  | saveCompletion agrees => cases e; exact h.of_work (s.saveEnds_sampleWork agrees)
  | restart => cases e; exact h.of_work s.serveRestart_sampleWork
  | tenthAdvance => exact h.execTenthAdvance e
  | replySent => cases e; exact h.of_work (by simp [State.sampleWork])
  | sampleDamagedByte bytes => cases e; exact (h.sampleBytes _).sampleDamaged
  | sampleFrameDiscard bytes => cases e; exact h.sampleBytes _
  | hostDamagedByte bytes => cases e; exact h.of_work (by simp [State.sampleWork])
  | hostFrameDiscard bytes => cases e; exact h.of_work (by simp [State.sampleWork])

end

/-- Settles O10: a step is a command on the state without it, and every command keeps the law. -/
theorem stepKeepsIntakeLaw : Obligations.StepKeepsIntakeLaw := by
  intro s t h e
  simp only [step] at e
  split at e
  · cases e; exact h
  · rename_i c rest _
    have taken : IntakeLaw { s with pending := rest } := h.of_work rfl
    exact taken.exec e

end Sys2Proof.Machine
end

section
/-! Grades of samples (R37). -/

namespace Sys2Proof.Machine

/-! ### The grade of one sample -/

/-- A sample tagged FAULT is graded by its tag, whatever its code. -/
theorem gradeOf_fault (code : Int) : gradeOf .fault code = .fault := rfl

theorem clippedCode_iff {code : Int} : clippedCode code = true ↔ code = 32767 ∨ code = -32768 := by
  simp [clippedCode]

/-- A code at the sensor's limit grades any other sample. -/
theorem gradeOf_clipped {tag : Tag} {code : Int} (ht : tag ≠ .fault) (hc : clippedCode code = true) :
    gradeOf tag code = .clipped := by
  rw [gradeOf, if_neg ht, if_pos hc]

/-- Off the limits a sample is graded by its tag. -/
theorem gradeOf_unclipped {tag : Tag} {code : Int} (ht : tag ≠ .fault) (hc : clippedCode code = false) :
    gradeOf tag code = if tag = .filled then .filled else if tag = .suspect then .suspect else .good := by
  rw [gradeOf, if_neg ht, hc]
  rfl

/-! ### The worse of two grades -/

theorem Grade.worse_of_lt {a b : Grade} (h : a.rank < b.rank) : a.worse b = b := if_pos h

theorem Grade.worse_of_le {a b : Grade} (h : b.rank ≤ a.rank) : a.worse b = a := if_neg (Nat.not_lt.mpr h)

/-- Settles O24: the conditions of R37 in their order, then the two ways in which two grades can stand. -/
theorem gradesOfSamples : Obligations.GradesOfSamples := by
  refine ⟨fun tag code => ⟨fun fault => ?_, fun other limit => ?_, fun below above => ?_⟩, fun a b => ?_⟩
  · rw [fault, gradeOf_fault]
  · exact gradeOf_clipped other (clippedCode_iff.mpr limit)
  · have within : clippedCode code = false := by
      rw [← Bool.not_eq_true, clippedCode_iff]
      exact not_or.mpr ⟨below, above⟩
    refine ⟨?_, ?_, ?_⟩ <;> rintro rfl <;> exact gradeOf_unclipped Tag.noConfusion within
  · rcases Nat.lt_or_ge a.rank b.rank with better | worse
    · rw [Grade.worse_of_lt better]
      exact ⟨.inr rfl, better.le, le_rfl⟩
    · rw [Grade.worse_of_le worse]
      exact ⟨.inl rfl, le_rfl, worse⟩

end Sys2Proof.Machine
end

section
/-! SUPPORT. Which operations leave the measured seconds on their way to the records alone (R41): all but the completion
of a second, and the record that takes one. -/

namespace Sys2Proof.Machine

section
variable (s : State)

@[simp] theorem State.reportIf_seconds (b : Bool) (r : ContactReport) :
    (s.reportIf b r).handOffs.seconds = s.handOffs.seconds := by
  cases b <;> rfl

@[simp] theorem State.reportInput_seconds (p : Pin) (level : Bool) :
    (s.reportInput p level).handOffs.seconds = s.handOffs.seconds := by
  cases p <;> rfl

/-! ### Evaluations -/

@[simp] theorem State.handTrigger_seconds (c : Settings) (i : Fin 16) (t : Stamp) :
    (s.handTrigger c i t).handOffs.seconds = s.handOffs.seconds := rfl

@[simp] theorem State.handEvaluation_seconds (i : Fin 16) (l : Live) (t : Stamp) :
    (s.handEvaluation i l t).handOffs.seconds = s.handOffs.seconds := rfl

@[simp] theorem State.evaluate_seconds (i : Fin 16) (ev : Option SecondHandOff) (t : Stamp) :
    (s.evaluate i ev t).handOffs.seconds = s.handOffs.seconds := by
  simp only [State.evaluate]
  split <;> simp

/-! ### The Transformer Table -/

@[simp] theorem State.disableTransformer_seconds (i : Fin 16) :
    (s.disableTransformer i).handOffs.seconds = s.handOffs.seconds := rfl

@[simp] theorem State.enableTransformer_seconds (i : Fin 16) :
    (s.enableTransformer i).handOffs.seconds = s.handOffs.seconds := by
  simp only [State.enableTransformer]
  split <;> rfl

@[simp] theorem State.energise_seconds (i : Fin 16) : (s.energise i).handOffs.seconds = s.handOffs.seconds := by
  simp only [State.energise]
  split <;> rfl

@[simp] theorem State.deenergise_seconds (i : Fin 16) : (s.deenergise i).handOffs.seconds = s.handOffs.seconds := by
  simp only [State.deenergise]
  split <;> rfl

@[simp] theorem State.takeSecond_seconds (h : SecondHandOff) :
    (s.takeSecond h).handOffs.seconds = s.handOffs.seconds := by
  simp only [State.takeSecond]
  split <;> simp

@[simp] theorem State.recordSecond_seconds (i : Fin 16) (t : Stamp) :
    (s.recordSecond i t).handOffs.seconds = s.handOffs.seconds := by
  simp only [State.recordSecond]
  (repeat' split) <;> simp

@[simp] theorem State.settingsEffects_seconds (i : Fin 16) (before after : Settings) :
    (s.settingsEffects i before after).handOffs.seconds = s.handOffs.seconds := by
  simp only [State.settingsEffects, State.whenChanged]
  (repeat' split) <;> simp

@[simp] theorem State.acknowledgeTransformers_seconds (named : TransformerSet) :
    (s.acknowledgeTransformers named).handOffs.seconds = s.handOffs.seconds := rfl

@[simp] theorem State.suppressTransformers_seconds (named : TransformerSet) (value : Bool) :
    (s.suppressTransformers named value).handOffs.seconds = s.handOffs.seconds := rfl

/-! ### Episodes, contacts, panel, inputs, host line -/

@[simp] theorem State.closeEpisodeRecord_seconds (e : Episode) (t : Stamp) (why : CloseCause) :
    (s.closeEpisodeRecord e t why).handOffs.seconds = s.handOffs.seconds := rfl

@[simp] theorem State.trackerSecond_seconds (t : Stamp) :
    (s.trackerSecond t).handOffs.seconds = s.handOffs.seconds := by
  simp only [State.trackerSecond]
  (repeat' split) <;> rfl

@[simp] theorem State.linkHeard_seconds : s.linkHeard.handOffs.seconds = s.handOffs.seconds := by
  simp only [State.linkHeard]
  split <;> simp

@[simp] theorem State.linkSilenceWritten_seconds : s.linkSilenceWritten.handOffs.seconds = s.handOffs.seconds := by
  simp [State.linkSilenceWritten]

@[simp] theorem State.linkSecond_seconds (t : Stamp) : (s.linkSecond t).handOffs.seconds = s.handOffs.seconds := by
  simp only [State.linkSecond]
  (repeat' split) <;> simp

@[simp] theorem State.panelReleased_seconds : s.panelReleased.handOffs.seconds = s.handOffs.seconds := by
  simp only [State.panelReleased]
  split <;> simp

@[simp] theorem State.completeHold_seconds (p : Pin) : (s.completeHold p).handOffs.seconds = s.handOffs.seconds := by
  simp only [State.completeHold]
  split <;> simp

@[simp] theorem State.debounceWritten_seconds (now : Nat) :
    (s.debounceWritten now).handOffs.seconds = s.handOffs.seconds := by
  unfold State.debounceWritten
  refine foldl_same (fun u : State => u.handOffs.seconds) _ (fun u p => ?_) allPins s
  (repeat' split) <;> simp

@[simp] theorem State.hostBytes_seconds (bytes : List Byte) :
    (s.hostBytes bytes).handOffs.seconds = s.handOffs.seconds :=
  foldl_same (fun u : State => u.handOffs.seconds) _ (fun _ _ => by simp) _ _

@[simp] theorem State.deviceEffects_seconds (before after : DeviceSettings) (now : Nat) :
    (s.deviceEffects before after now).handOffs.seconds = s.handOffs.seconds := by
  simp only [State.deviceEffects, State.whenChanged]
  (repeat' split) <;> simp

@[simp] theorem State.mapWritten_seconds (k : Fin 4) (map : ContactMap) :
    (s.mapWritten k map).handOffs.seconds = s.handOffs.seconds := by
  simp [State.mapWritten]

/-! ### The clock -/

@[simp] theorem State.takeRecordTick_seconds (i : Fin 16) :
    (s.takeRecordTick i).handOffs.seconds = s.handOffs.seconds := by
  simp only [State.takeRecordTick]
  split <;> simp

@[simp] theorem State.takeFieldTick_seconds : s.takeFieldTick.handOffs.seconds = s.handOffs.seconds := by
  simp only [State.takeFieldTick]
  split <;> simp

@[simp] theorem State.takeTrackerTick_seconds : s.takeTrackerTick.handOffs.seconds = s.handOffs.seconds := by
  simp only [State.takeTrackerTick]
  split <;> simp

@[simp] theorem State.takeLinkTick_seconds : s.takeLinkTick.handOffs.seconds = s.handOffs.seconds := by
  simp only [State.takeLinkTick]
  split <;> simp

@[simp] theorem State.recordClock_seconds (t : Stamp) (i : Fin 16) :
    (s.recordClock t i).handOffs.seconds = s.handOffs.seconds := by
  simp only [State.recordClock]
  split <;> simp

@[simp] theorem State.fieldClock_seconds (t : Stamp) : (s.fieldClock t).handOffs.seconds = s.handOffs.seconds := by
  simp only [State.fieldClock]
  split <;> simp

@[simp] theorem State.trackerClock_seconds (t : Stamp) :
    (s.trackerClock t).handOffs.seconds = s.handOffs.seconds := by
  simp only [State.trackerClock]
  split <;> simp

@[simp] theorem State.linkClock_seconds (t : Stamp) : (s.linkClock t).handOffs.seconds = s.handOffs.seconds := by
  simp only [State.linkClock]
  split <;> simp

@[simp] theorem State.settleTracker_seconds : s.settleTracker.handOffs.seconds = s.handOffs.seconds := by
  simp only [State.settleTracker]
  split <;> simp

@[simp] theorem State.settleClock_seconds : s.settleClock.handOffs.seconds = s.handOffs.seconds := by
  simp only [State.settleClock, State.settleTracker_seconds]
  split <;> simp

@[simp] theorem State.takeHandOff_seconds (h : EvaluationHandOff) :
    (s.takeHandOff h).handOffs.seconds = s.handOffs.seconds := by
  simp only [State.takeHandOff]
  split <;> simp

/-! ### Converters -/

@[simp] theorem State.setConverterState_seconds (c : Fin 5) (v : ConverterState) :
    (s.setConverterState c v).handOffs.seconds = s.handOffs.seconds := by
  simp [State.setConverterState]

@[simp] theorem State.handleStatus_seconds (f : Frame) :
    (s.handleStatus f).handOffs.seconds = s.handOffs.seconds := by
  simp only [State.handleStatus]
  (repeat' split) <;> simp

@[simp] theorem State.followRef_seconds (f : Frame) : (s.followRef f).handOffs.seconds = s.handOffs.seconds := by
  simp [State.followRef]

end

end Sys2Proof.Machine
end

section
/-! SUPPORT. A request leaves the commands that wait and the measured seconds on their way alone. -/

namespace Sys2Proof.Machine

/-- The commands that wait and the measured seconds on their way stand as they were. -/
structure SameQueues (s t : State) : Prop where
  pending : t.pending = s.pending
  seconds : t.handOffs.seconds = s.handOffs.seconds

@[simp] theorem sameQueues_iff {s t : State} :
    SameQueues s t ↔ t.pending = s.pending ∧ t.handOffs.seconds = s.handOffs.seconds :=
  ⟨fun h => ⟨h.pending, h.seconds⟩, fun ⟨h, k⟩ => ⟨h, k⟩⟩

section
variable (r : Request) (s : State)

/-- A request row leaves them alone where its handler does. -/
theorem sameQueues_serveRequest (k : Byte) {f : Request → State → State} (hf : ∀ r v, SameQueues v (f r v)) :
    SameQueues s (s.serveRequest k f) := by
  rcases serveRequest_cases k f s with same | ⟨r, -, bad | ⟨-, served⟩⟩
  · rw [same]; exact ⟨rfl, rfl⟩
  · rw [bad]; exact ⟨rfl, rfl⟩
  · rw [served]; exact ⟨(hf r s.disarm).pending, (hf r s.disarm).seconds⟩

theorem sameQueues_withTransformer (n : Nat) {f : Fin 16 → State → State} (hf : ∀ i, SameQueues s (f i s)) :
    SameQueues s (s.withTransformer n r f) := by
  simp only [State.withTransformer]
  split
  · exact ⟨rfl, rfl⟩
  · exact hf _

/-- A reply touches the Message Link alone. -/
theorem sameQueues_answer (status : Status) (body : List Byte) : SameQueues s (s.answer r status body) := ⟨rfl, rfl⟩

theorem sameQueues_handleSetClock : SameQueues s (handleSetClock r s) := by
  simp only [handleSetClock]
  split <;> exact ⟨rfl, rfl⟩

theorem sameQueues_handleWriteDevice (now : Nat) : SameQueues s (handleWriteDevice now r s) := by
  simp only [handleWriteDevice]
  split <;> simp

theorem sameQueues_handleWriteSettings : SameQueues s (handleWriteSettings r s) := by
  simp only [handleWriteSettings]
  split
  · exact sameQueues_answer r s _ _
  · refine sameQueues_withTransformer r s _ fun i => ?_
    simp only [State.writeSettings]
    split <;> simp

theorem sameQueues_handleReadSnapshot : SameQueues s (handleReadSnapshot r s) := by
  simp only [handleReadSnapshot]
  split
  · exact sameQueues_answer r s _ _
  · exact sameQueues_withTransformer r s _ fun _ => sameQueues_answer r s _ _

theorem sameQueues_handleAcknowledge : SameQueues s (handleAcknowledge r s) := by
  simp only [handleAcknowledge, State.whenChanged]
  split <;> simp

theorem sameQueues_handleSuppress : SameQueues s (handleSuppress r s) := by
  simp only [handleSuppress]
  split <;> simp

theorem sameQueues_handleLoadResponse : SameQueues s (handleLoadResponse r s) := by
  simp only [handleLoadResponse]
  (repeat' split) <;> exact ⟨rfl, rfl⟩

theorem sameQueues_handleReadField : SameQueues s (handleReadField r s) := by
  simp only [handleReadField]
  split <;> exact sameQueues_answer r s _ _

theorem sameQueues_handleReadMap : SameQueues s (handleReadMap r s) := by
  simp only [handleReadMap]
  split <;> exact sameQueues_answer r s _ _

theorem sameQueues_handleWriteMap : SameQueues s (handleWriteMap r s) := by
  simp only [handleWriteMap]
  (repeat' split) <;> simp

theorem sameQueues_handleChangeMask : SameQueues s (handleChangeMask r s) := by
  simp only [handleChangeMask]
  split <;> exact ⟨rfl, rfl⟩

theorem sameQueues_handleFetchTransitions : SameQueues s (handleFetchTransitions r s) := by
  simp only [handleFetchTransitions]
  split <;> exact ⟨rfl, rfl⟩

theorem sameQueues_handleReadEpisode : SameQueues s (handleReadEpisode r s) := by
  simp only [handleReadEpisode]
  split <;> exact sameQueues_answer r s _ _

theorem sameQueues_handleReadEntry : SameQueues s (handleReadEntry r s) := by
  simp only [handleReadEntry]
  split <;> exact sameQueues_answer r s _ _

theorem sameQueues_handleCloseEpisode : SameQueues s (handleCloseEpisode r s) := by
  simp only [handleCloseEpisode]
  split <;> exact ⟨rfl, rfl⟩

theorem sameQueues_handleCaptureNow : SameQueues s (handleCaptureNow r s) := by
  refine sameQueues_withTransformer r s _ fun ch => ?_
  split
  · exact sameQueues_answer r s _ _
  · simp only [State.captureNow]
    (repeat' split) <;> simp

theorem sameQueues_handleExtendCapture : SameQueues s (handleExtendCapture r s) := by
  simp only [handleExtendCapture]
  (repeat' split) <;> exact ⟨rfl, rfl⟩

theorem sameQueues_handleListCaptures : SameQueues s (handleListCaptures r s) := by
  simp only [handleListCaptures]
  (repeat' split) <;> exact sameQueues_answer r s _ _

theorem sameQueues_handleReadSamples : SameQueues s (handleReadSamples r s) := by
  simp only [handleReadSamples]
  split <;> exact sameQueues_answer r s _ _

theorem sameQueues_handleRelease : SameQueues s (handleRelease r s) := by
  simp only [handleRelease]
  (repeat' split) <;> simp

theorem sameQueues_handleClearFault : SameQueues s (handleClearFault r s) := by
  simp only [handleClearFault]
  (repeat' split) <;> simp

theorem sameQueues_handleSave : SameQueues s (handleSave r s) := by
  simp only [handleSave]
  split <;> exact ⟨rfl, rfl⟩

theorem sameQueues_serveUnknown : SameQueues s s.serveUnknown := by
  simp only [State.serveUnknown]
  (repeat' split) <;> exact ⟨rfl, rfl⟩

theorem sameQueues_serveRestart : SameQueues s s.serveRestart := by
  simp only [State.serveRestart]
  (repeat' split) <;> exact ⟨rfl, rfl⟩

end

end Sys2Proof.Machine
end

section
/-! Every command answers a next state and leaves the queue of waiting commands alone (R55, R169). -/

namespace Sys2Proof.Machine

/-- An outcome that is a next state with the commands that wait in `s`. -/
def AnswersNext (s : State) (o : Host.Outcome State Fault Refusal) : Prop := ∃ t, o = .next t ∧ t.pending = s.pending

theorem answersNext_next {s t : State} (h : t.pending = s.pending) : AnswersNext s (.next t) := ⟨t, rfl, h⟩

section
variable (s : State)

/-- A request row answers a next state where its handler leaves the queue alone. -/
theorem answersNext_serveRequest (k : Byte) {f : Request → State → State} (hf : ∀ r v, SameQueues v (f r v)) :
    AnswersNext s (.next (s.serveRequest k f)) := answersNext_next (sameQueues_serveRequest s k hf).pending

/-! ### Events that wait -/

theorem execMeasuredSecond_answersNext (i : Fin 16) : AnswersNext s (execMeasuredSecond i s) := by
  simp only [execMeasuredSecond]
  split <;> exact answersNext_next (by simp)

theorem execStandInSecond_answersNext (i : Fin 16) : AnswersNext s (execStandInSecond i s) :=
  answersNext_next (by split <;> simp)

theorem execEpisodeHandoff_answersNext (i : Fin 16) : AnswersNext s (execEpisodeHandoff i s) := by
  simp only [execEpisodeHandoff]
  split <;> exact answersNext_next (by simp)

theorem execEnergised_answersNext (i : Fin 16) : AnswersNext s (execEnergised i s) := by
  simp only [execEnergised]
  split
  · exact answersNext_next rfl
  · exact answersNext_next (by split <;> simp)

theorem execDeenergised_answersNext (i : Fin 16) : AnswersNext s (execDeenergised i s) := by
  simp only [execDeenergised]
  split
  · exact answersNext_next rfl
  · exact answersNext_next (by split <;> simp)

theorem execPanelPress_answersNext : AnswersNext s (execPanelPress s) := by
  simp only [execPanelPress]
  split <;> exact answersNext_next (by simp)

theorem execPanelRelease_answersNext : AnswersNext s (execPanelRelease s) := by
  simp only [execPanelRelease]
  split <;> exact answersNext_next (by simp)

theorem execContactReport_answersNext : AnswersNext s (execContactReport s) := by
  simp only [execContactReport]
  split <;> exact answersNext_next (by simp)

theorem execLevelTrigger_answersNext (ch : Fin 16) : AnswersNext s (execLevelTrigger ch s) := by
  simp only [execLevelTrigger]
  split <;> exact answersNext_next (by simp)

theorem execCaptureDisableReport_answersNext (ch : Fin 16) : AnswersNext s (execCaptureDisableReport ch s) := by
  simp only [execCaptureDisableReport]
  split <;> exact answersNext_next (by simp)

theorem execCaptureMissed_answersNext (ch : Fin 16) : AnswersNext s (execCaptureMissed ch s) := by
  simp only [execCaptureMissed]
  split <;> exact answersNext_next (by simp)

/-! ### Every command -/

theorem exec_answersNext (c : Instr) : AnswersNext s (exec c s) := by
  cases c with
  | powerOnReset rateHigh => exact answersNext_next rfl
  | pinReset rateHigh => exact answersNext_next rfl
  | restartReset rateHigh => exact answersNext_next (by split <;> rfl)
  | sampleFrame bytes => exact answersNext_next (by simp)
  | sampleLineIdle bytes => exact answersNext_next (by simp)
  | takeCurrentFrame => exact answersNext_next (by simp)
  | takeFieldFrame => exact answersNext_next (by simp)
  | measuredSecond i => exact execMeasuredSecond_answersNext s i
  | clockSecond => exact answersNext_next (by split <;> simp)
  | standInSecond i => exact execStandInSecond_answersNext s i
  | fieldNone => exact answersNext_next (by split <;> simp)
  | episodeQuietClose => exact answersNext_next (by simp)
  | episodeHandoff i => exact execEpisodeHandoff_answersNext s i
  | captureMissed ch => exact execCaptureMissed_answersNext s ch
  | linkSilent => exact answersNext_next (by simp)
  | silenceTimerExpiry c => exact answersNext_next (by simp)
  | ppsEdge now => exact answersNext_next (by simp)
  | ppsLost => exact answersNext_next (by simp)
  | inputLevelChange pin level now => exact answersNext_next rfl
  | debounceComplete pin => exact answersNext_next (by simp)
  | energised i => exact execEnergised_answersNext s i
  | deenergised i => exact execDeenergised_answersNext s i
  | panelPress => exact execPanelPress_answersNext s
  | panelRelease => exact execPanelRelease_answersNext s
  | panelTestStart => exact answersNext_next (by split <;> simp)
  | panelTestTimeout => exact answersNext_next (by split <;> simp)
  | contactReport => exact execContactReport_answersNext s
  | levelTrigger ch => exact execLevelTrigger_answersNext s ch
  | captureDisableReport ch => exact execCaptureDisableReport_answersNext s ch
  | requestFrame bytes => exact answersNext_next (by simp)
  | hostFrameGap bytes => exact answersNext_next (by simp)
  | unknownKindRequest => exact answersNext_next (sameQueues_serveUnknown s).pending
  | identify => exact answersNext_serveRequest s _ fun r v => sameQueues_answer r v _ _
  | readClock => exact answersNext_serveRequest s _ fun r v => sameQueues_answer r v _ _
  | setClock => exact answersNext_serveRequest s _ sameQueues_handleSetClock
  | readDeviceSettings => exact answersNext_serveRequest s _ fun r v => sameQueues_answer r v _ _
  | writeDeviceSettings now => exact answersNext_serveRequest s _ (sameQueues_handleWriteDevice · · now)
  | readTransformerSettings =>
    exact answersNext_serveRequest s _ fun r v => sameQueues_withTransformer r v _ fun _ => sameQueues_answer r v _ _
  | writeTransformerSettings => exact answersNext_serveRequest s _ sameQueues_handleWriteSettings
  | readLive =>
    exact answersNext_serveRequest s _ fun r v => sameQueues_withTransformer r v _ fun _ => sameQueues_answer r v _ _
  | snapshot => exact answersNext_serveRequest s _ fun r v => ⟨rfl, rfl⟩
  | readSnapshot => exact answersNext_serveRequest s _ sameQueues_handleReadSnapshot
  | acknowledge => exact answersNext_serveRequest s _ sameQueues_handleAcknowledge
  | suppress => exact answersNext_serveRequest s _ sameQueues_handleSuppress
  | loadGroundResponse => exact answersNext_serveRequest s _ sameQueues_handleLoadResponse
  | readGroundResponse => exact answersNext_serveRequest s _ fun r v => sameQueues_answer r v _ _
  | readField => exact answersNext_serveRequest s _ sameQueues_handleReadField
  | readContactMap => exact answersNext_serveRequest s _ sameQueues_handleReadMap
  | writeContactMap => exact answersNext_serveRequest s _ sameQueues_handleWriteMap
  | fetchSummary => exact answersNext_serveRequest s _ fun r v => ⟨rfl, rfl⟩
  | changeNoticeMask => exact answersNext_serveRequest s _ sameQueues_handleChangeMask
  | fetchTransitions => exact answersNext_serveRequest s _ sameQueues_handleFetchTransitions
  | readEpisode => exact answersNext_serveRequest s _ sameQueues_handleReadEpisode
  | readEpisodeEntry => exact answersNext_serveRequest s _ sameQueues_handleReadEntry
  | closeEpisode => exact answersNext_serveRequest s _ sameQueues_handleCloseEpisode
  | captureNow => exact answersNext_serveRequest s _ sameQueues_handleCaptureNow
  | extendCapture => exact answersNext_serveRequest s _ sameQueues_handleExtendCapture
  | listCaptures => exact answersNext_serveRequest s _ sameQueues_handleListCaptures
  | readCaptureSamples => exact answersNext_serveRequest s _ sameQueues_handleReadSamples
  | releaseCapture => exact answersNext_serveRequest s _ sameQueues_handleRelease
  | readIntakeStatus => exact answersNext_serveRequest s _ fun r v => ⟨rfl, rfl⟩
  | clearConverterFault => exact answersNext_serveRequest s _ sameQueues_handleClearFault
  | saveSettings => exact answersNext_serveRequest s _ sameQueues_handleSave
  | saveCompletion agrees => exact answersNext_next (by simp)
  | restart => exact answersNext_next (sameQueues_serveRestart s).pending
  | tenthAdvance => exact answersNext_next (by (repeat' split) <;> simp)
  | replySent => exact answersNext_next (by simp)
  | sampleDamagedByte bytes => exact answersNext_next (by simp)
  | sampleFrameDiscard bytes => exact answersNext_next (by simp)
  | hostDamagedByte bytes => exact answersNext_next (by simp)
  | hostFrameDiscard bytes => exact answersNext_next (by simp)

end

/-- Settles O2: each command's meaning is a next state, with the queue as it was. -/
theorem everyCommandAnswersNext : Obligations.EveryCommandAnswersNext := fun c s => exec_answersNext s c

end Sys2Proof.Machine
end

section
/-! The currents of a state (R39, R76, R84): what their bounds read, and the arithmetic that keeps them. -/

namespace Sys2Proof.Machine

/-! ### Arithmetic -/

/-- A current clamped to its range (R39, R76). -/
theorem natAbs_clampInt_le (n : Int) : (clampInt (-30000) 30000 n).natAbs ≤ 30000 := by
  have := clampInt_mem (lo := -30000) (hi := 30000) (n := n) (by decide)
  omega

/-- The rounded mean of values within a bound stays within it (R40, R41). -/
theorem natAbs_roundDiv_le {n : Int} {d m : Nat} (hd : 0 < d) (h : n.natAbs ≤ m * d) : (roundDiv n d).natAbs ≤ m := by
  have near := (roundDiv_nearest n hd).1
  by_contra beyond
  have far : (m + 1) * d ≤ (roundDiv n d * d).natAbs := by
    rw [Int.natAbs_mul, Int.natAbs_natCast]
    exact Nat.mul_le_mul_right d (Nat.not_le.mp beyond)
  rw [Nat.add_one_mul] at far
  omega

theorem PartialCycle.natAbs_value_le (c : PartialCycle) : c.value.natAbs ≤ 30000 := natAbs_clampInt_le _

theorem fullScale_le (gain : Nat) : fullScale gain ≤ 30000 := Nat.min_le_left _ _

/-! ### Bounds -/

/-- M and FS of a measured second on its way to its record (R41, R42). -/
structure SecondHandOff.Bounded (h : SecondHandOff) : Prop where
  measured : h.m.natAbs ≤ 30000
  fullScale : h.fullScale ≤ 30000

/-- M, P and X of a live part (R41, R76, R84). -/
structure CurrentsOk (l : Live) : Prop where
  measured : ∀ m, l.measured = some m → m.m.natAbs ≤ 30000
  predicted : ∀ p, l.predicted = some p → p.natAbs ≤ 30000
  basis : ∀ X, l.basis = some X → X ≤ 30000

/-- The partial sums of a channel whose blocks are `n` cycles long, and the room their counts leave (R36, R40, R41). -/
structure SumsOk (n : Nat) (c : Channel) : Prop where
  room : c.block.count < n
  blocks : c.second.count ≤ 9
  blockSum : c.block.sum.natAbs ≤ 30000 * c.block.count
  secondSum : c.second.sum.natAbs ≤ 30000 * c.second.count

/-- What the law of the currents asks beyond the law of the intake, with the counts its sums are held against. -/
structure CurrentsBounded (s : State) : Prop where
  live : ∀ i : Fin 16, CurrentsOk s.live[i]
  channels : ∀ ch : Fin 16, SumsOk s.cfg.device.mains.cycles s.channels[ch]
  handed : ∀ h ∈ s.handOffs.seconds, h.Bounded

theorem currentsLaw_iff {s : State} : CurrentsLaw s ↔ IntakeLaw s ∧ CurrentsBounded s := by
  constructor
  · intro h
    exact ⟨h.lengths, fun i => ⟨h.measured i, h.predicted i, h.basis i⟩,
      fun ch => ⟨(h.lengths.channels ch).block, (h.lengths.channels ch).second, h.blocks ch, h.seconds ch⟩,
      fun g hg => ⟨(h.handed g hg).1, (h.handed g hg).2⟩⟩
  · rintro ⟨lengths, bounded⟩
    exact {
      lengths
      measured := fun i => (bounded.live i).measured
      predicted := fun i => (bounded.live i).predicted
      basis := fun i => (bounded.live i).basis
      blocks := fun ch => (bounded.channels ch).blockSum
      seconds := fun ch => (bounded.channels ch).secondSum
      handed := fun g hg => ⟨(bounded.handed g hg).measured, (bounded.handed g hg).fullScale⟩ }

/-! ### Live parts -/

theorem CurrentsOk.of_eq {l k : Live} (h : CurrentsOk l) (hm : k.measured = l.measured) (hp : k.predicted = l.predicted)
    (hb : k.basis = l.basis) : CurrentsOk k :=
  ⟨by rw [hm]; exact h.measured, by rw [hp]; exact h.predicted, by rw [hb]; exact h.basis⟩

/-- With neither P nor X a live part has M alone. -/
theorem CurrentsOk.of_none {l : Live} (hm : ∀ m, l.measured = some m → m.m.natAbs ≤ 30000) (hp : l.predicted = none)
    (hb : l.basis = none) : CurrentsOk l :=
  ⟨hm, by rw [hp]; rintro _ ⟨⟩, by rw [hb]; rintro _ ⟨⟩⟩

/-- P is clamped where it is formed (R76). -/
theorem predictionOf_le {cfg : Settings} {v : FieldView} {p : Int} (h : predictionOf cfg v = some p) :
    p.natAbs ≤ 30000 := by
  simp only [predictionOf] at h
  split at h <;> cases h
  exact natAbs_clampInt_le _

/-- X is |P|, or |M| or FS of the second that is judged (R84). -/
theorem chooseBasis_cases {cfg : Settings} {p : Option Int} {b : Bool} {ev : Option SecondHandOff} {X : Nat}
    (h : chooseBasis cfg p b ev = some X) :
    (∃ q, p = some q ∧ X = q.natAbs) ∨ ∃ g, ev = some g ∧ (X = g.m.natAbs ∨ X = g.fullScale) := by
  simp only [chooseBasis] at h
  split at h
  · rename_i q guarded
    split at guarded <;> cases guarded
    cases h
    exact .inl ⟨q, rfl, rfl⟩
  · split at h
    · cases h
    · rename_i g
      refine .inr ⟨g, rfl, ?_⟩
      split at h <;> cases h
      · exact .inl rfl
      · exact .inl rfl
      · exact .inl rfl
      · exact .inr rfl

theorem chooseBasis_le {cfg : Settings} {p : Option Int} {b : Bool} {ev : Option SecondHandOff} {X : Nat}
    (hp : ∀ q, p = some q → q.natAbs ≤ 30000) (hev : ∀ g, ev = some g → g.Bounded)
    (h : chooseBasis cfg p b ev = some X) : X ≤ 30000 := by
  rcases chooseBasis_cases h with ⟨q, hq, rfl⟩ | ⟨g, hg, rfl | rfl⟩
  · exact hp q hq
  · exact (hev g hg).measured
  · exact (hev g hg).fullScale

/-- An evaluation keeps M and forms P and X within their bounds (R76, R84). -/
theorem CurrentsOk.evaluated {cfg : Settings} {v : FieldView} {ev : Option SecondHandOff} {l : Live}
    (hm : ∀ m, l.measured = some m → m.m.natAbs ≤ 30000) (hev : ∀ g, ev = some g → g.Bounded) :
    CurrentsOk (evaluated cfg v ev l) where
  measured m h := hm m (by simpa [Machine.evaluated] using h)
  predicted p h := predictionOf_le (cfg := cfg) (v := v) (by simpa [Machine.evaluated, basisSelection] using h)
  basis X h := by
    simp only [Machine.evaluated, levelEvaluation_frame, heatingUpdate_frame, basisSelection] at h
    exact chooseBasis_le (fun q => predictionOf_le) hev h

theorem CurrentsOk.secondPassed {cfg : Settings} {l : Live} (h : CurrentsOk l) (v : FieldView) :
    CurrentsOk (secondPassed cfg v l) := by
  simp only [Machine.secondPassed]
  split
  · exact h
  · exact h.of_eq rfl rfl rfl
  · split
    · exact CurrentsOk.evaluated h.measured (by rintro _ ⟨⟩)
    · exact h.of_eq rfl rfl rfl

theorem CurrentsOk.disabled (l : Live) : CurrentsOk l.disabled := .of_none (by rintro _ ⟨⟩) rfl rfl

theorem CurrentsOk.deenergised {l : Live} (h : CurrentsOk l) : CurrentsOk l.deenergised := .of_none h.measured rfl rfl

theorem CurrentsOk.enabled {l : Live} (h : CurrentsOk l) (energised : Bool) : CurrentsOk (l.enabled energised) := by
  cases energised <;> exact h.of_eq rfl rfl rfl

theorem CurrentsOk.withOffset {l : Live} (h : CurrentsOk l) (before after : Settings) :
    CurrentsOk (l.withOffset before after) := by
  unfold Live.withOffset
  split
  · exact h
  · exact h.of_eq rfl rfl rfl

theorem CurrentsOk.withSettings {l : Live} (h : CurrentsOk l) (before after : Settings) (energised : Bool) :
    CurrentsOk (l.withSettings before after energised) := by
  simp only [Live.withSettings]
  split
  · exact .disabled _
  · exact (h.withOffset before after).enabled energised
  · exact h.withOffset before after

/-! ### One channel -/

section
variable {n : Nat} {c : Channel}

theorem SumsOk.of_work {d : Channel} (h : SumsOk n c) (hw : d.work = c.work) : SumsOk n d := by
  simp only [Channel.work, Prod.mk.injEq] at hw
  obtain ⟨-, hblock, hsecond, -⟩ := hw
  exact ⟨by rw [hblock]; exact h.room, by rw [hsecond]; exact h.blocks, by rw [hblock]; exact h.blockSum,
    by rw [hsecond]; exact h.secondSum⟩

/-- An emptied channel has nothing to sum (R45). -/
theorem SumsOk.abandoned (hn : 0 < n) (c : Channel) : SumsOk n c.abandoned :=
  ⟨hn, Nat.zero_le _, Nat.zero_le _, Nat.zero_le _⟩

/-- A sample before its cycle is complete adds to neither sum. -/
theorem SumsOk.withCode (h : SumsOk n c) (code : Int) (p : Option PartialCycle) :
    SumsOk n { c with cycle := p, second := c.second.withCode code } := ⟨h.room, h.blocks, h.blockSum, h.secondSum⟩

/-- A cycle adds one C to the block (R39). -/
theorem SumsOk.natAbs_withCycle_le (h : SumsOk n c) (cyc : PartialCycle) :
    (c.block.withCycle cyc).sum.natAbs ≤ 30000 * (c.block.withCycle cyc).count := by
  have sum := h.blockSum
  have value := cyc.natAbs_value_le
  simp only [PartialBlock.withCycle]
  omega

/-- The mean of a block of `n` cycles (R40). -/
theorem SumsOk.natAbs_mean_le (h : SumsOk n c) (cyc : PartialCycle) :
    (roundDiv (c.block.withCycle cyc).sum n).natAbs ≤ 30000 := by
  refine natAbs_roundDiv_le (Nat.zero_lt_of_lt h.room) ((h.natAbs_withCycle_le cyc).trans ?_)
  exact Nat.mul_le_mul_left _ h.room

/-- A block adds one B to the second (R40). -/
theorem SumsOk.natAbs_withBlock_le (h : SumsOk n c) (cyc : PartialCycle) :
    (c.second.withBlock n (c.block.withCycle cyc)).sum.natAbs ≤ 30000 * (c.second.count + 1) := by
  have sum := h.secondSum
  have mean := h.natAbs_mean_le cyc
  simp only [PartialSecond.withBlock]
  omega

theorem SumsOk.blockWith (h : SumsOk n c) (cyc : PartialCycle) (room : c.block.count + 1 < n) :
    SumsOk n (c.blockWith cyc) := ⟨room, h.blocks, h.natAbs_withCycle_le cyc, h.secondSum⟩

theorem SumsOk.secondWith (h : SumsOk n c) (cyc : PartialCycle) (short : c.second.count < 9) :
    SumsOk n (c.secondWith n cyc) :=
  ⟨Nat.zero_lt_of_lt h.room, short, Nat.zero_le _, h.natAbs_withBlock_le cyc⟩

theorem SumsOk.secondHanded (h : SumsOk n c) (cyc : PartialCycle) :
    SumsOk n { c.secondWith n cyc with second := emptySecond } :=
  ⟨Nat.zero_lt_of_lt h.room, Nat.zero_le _, Nat.zero_le _, Nat.zero_le _⟩

/-- M is the mean of ten blocks, and FS is formed within its limit (R41, R42). -/
theorem SumsOk.completedSecond (h : SumsOk n c) (ch : Fin 16) (gain : Nat) (cyc : PartialCycle) :
    (completedSecond ch gain (c.secondWith n cyc).second).Bounded := by
  refine ⟨natAbs_roundDiv_le (by decide) ((h.natAbs_withBlock_le cyc).trans ?_), fullScale_le gain⟩
  exact Nat.mul_le_mul_left _ (Nat.succ_le_succ h.blocks)

end

end Sys2Proof.Machine
end

section
/-! What leaves the currents within their bounds without forming one of a channel: records, episodes, contacts, clock. -/

namespace Sys2Proof.Machine

/-- From `s` to `t` every live part keeps its currents within bounds, and partial work, mains and measured seconds on
their way stand as they were. -/
structure SparesCurrents (s t : State) : Prop where
  live : ∀ i : Fin 16, CurrentsOk s.live[i] → CurrentsOk t.live[i]
  work : t.channels.map Channel.work = s.channels.map Channel.work
  mains : t.cfg.device.mains = s.cfg.device.mains
  seconds : t.handOffs.seconds = s.handOffs.seconds

section
variable {s t u : State}

theorem CurrentsBounded.spared (h : CurrentsBounded s) (k : SparesCurrents s t) : CurrentsBounded t where
  live i := k.live i (h.live i)
  channels ch := by
    rw [k.mains]
    have := congrArg (fun v => v[ch]) k.work
    exact (h.channels ch).of_work (by simpa only [Fin.getElem_fin, Vector.getElem_map] using this)
  handed := by rw [k.seconds]; exact h.handed

theorem SparesCurrents.trans (h : SparesCurrents s u) (k : SparesCurrents u t) : SparesCurrents s t :=
  ⟨fun i hi => k.live i (h.live i hi), k.work.trans h.work, k.mains.trans h.mains, k.seconds.trans h.seconds⟩

/-- Composition with the later part first, whose type says where it begins. -/
theorem SparesCurrents.after (k : SparesCurrents u t) (h : SparesCurrents s u) : SparesCurrents s t := h.trans k

theorem SparesCurrents.refl (s : State) : SparesCurrents s s := ⟨fun _ hi => hi, rfl, rfl, rfl⟩

/-- Live parts, the sample path's work and measured seconds on their way stand as they were. -/
theorem SparesCurrents.of_work (hl : t.live = s.live) (hw : t.sampleWork = s.sampleWork)
    (hs : t.handOffs.seconds = s.handOffs.seconds) : SparesCurrents s t := by
  simp only [State.sampleWork, Prod.mk.injEq] at hw
  obtain ⟨-, -, hchannels, -, hmains⟩ := hw
  exact ⟨fun i hi => by rw [hl]; exact hi, hchannels, hmains, hs⟩

/-- Live parts, channels, settings and measured seconds on their way stand as they were. -/
theorem SparesCurrents.of_same (hl : t.live = s.live) (hc : t.channels = s.channels) (hg : t.cfg = s.cfg)
    (hs : t.handOffs.seconds = s.handOffs.seconds) : SparesCurrents s t :=
  ⟨fun i hi => by rw [hl]; exact hi, by rw [hc], by rw [hg], hs⟩

theorem CurrentsBounded.same (h : CurrentsBounded s) (hl : t.live = s.live) (hc : t.channels = s.channels)
    (hg : t.cfg = s.cfg) (hs : t.handOffs.seconds = s.handOffs.seconds) : CurrentsBounded t :=
  h.spared (.of_same hl hc hg hs)

/-- One live part replaced by one whose currents stay within bounds. -/
theorem currentsOk_set {v w : Vector Live 16} {j : Fin 16} {l : Live} (hw : w = v.set j l)
    (hl : CurrentsOk v[j] → CurrentsOk l) (i : Fin 16) (hi : CurrentsOk v[i]) : CurrentsOk w[i] := by
  rw [hw, get_set]
  split
  · rename_i same
    subst same
    exact hl hi
  · exact hi

/-! ### Records -/

/-- A record that takes a measured second within bounds keeps it and is evaluated on it (R15). -/
theorem SparesCurrents.takeSecond {g : SecondHandOff} (hg : g.Bounded) (s : State) : SparesCurrents s (s.takeSecond g) := by
  have kept : ∀ m, (s.live[g.channel].keeping g).measured = some m → m.m.natAbs ≤ 30000 := by
    rintro _ ⟨⟩
    exact hg.measured
  refine ⟨?_, by simp, by simp, by simp⟩
  rcases s.takeSecond_cases g with ⟨-, off⟩ | ⟨-, offered⟩ | ⟨-, -, hl⟩
  · rw [off]
    exact fun _ hi => hi
  · have keeps := currentsOk_set (State.setLive_live g.channel (s.live[g.channel].keeping g) s)
      fun h => ⟨kept, h.predicted, h.basis⟩
    rw [offered]
    rcases State.offerLearning_cases g (s.setLive g.channel (s.live[g.channel].keeping g)) with
      ⟨hl, -⟩ | ⟨-, -, _, -, -, o, f, hl, -⟩
    · rw [hl]
      exact keeps
    · exact fun i hi => currentsOk_set hl (fun h => h.of_eq rfl rfl rfl) i (keeps i hi)
  · exact currentsOk_set hl fun _ => CurrentsOk.evaluated kept (by rintro _ ⟨⟩; exact hg)

theorem SparesCurrents.recordSecond (i : Fin 16) (stamp : Stamp) (s : State) :
    SparesCurrents s (s.recordSecond i stamp) :=
  ⟨currentsOk_set (s.recordSecond_live i stamp) fun h => h.secondPassed _, by simp, by simp, by simp⟩

theorem SparesCurrents.energise (i : Fin 16) (s : State) : SparesCurrents s (s.energise i) := by
  refine ⟨?_, by simp, by simp, by simp⟩
  rcases s.energise_table i with ⟨-, hl, -⟩ | ⟨-, same⟩
  · exact currentsOk_set hl fun h => h.of_eq rfl rfl rfl
  · rw [same]
    exact fun _ hi => hi

theorem SparesCurrents.deenergise (i : Fin 16) (s : State) : SparesCurrents s (s.deenergise i) := by
  refine ⟨?_, by simp, by simp, by simp⟩
  rcases s.deenergise_table i with ⟨-, hl, -⟩ | ⟨-, same⟩
  · exact currentsOk_set hl fun h => h.deenergised
  · rw [same]
    exact fun _ hi => hi

theorem SparesCurrents.settingsEffects (i : Fin 16) (before after : Settings) (s : State) :
    SparesCurrents s (s.settingsEffects i before after) :=
  ⟨currentsOk_set (s.settingsEffects_table i before after).1 fun h => h.withSettings before after _, by simp, by simp,
    by simp⟩

/-! ### Flags -/

theorem SparesCurrents.acknowledgeTransformers (named : TransformerSet) (s : State) :
    SparesCurrents s (s.acknowledgeTransformers named) := by
  refine ⟨fun i hi => ?_, by simp, by simp, by simp⟩
  have : (s.acknowledgeTransformers named).live[i] =
      if named.getLsbD i then { s.live[i] with unacknowledged := false } else s.live[i] := get_ofFn _ i
  rw [this]
  split
  · exact hi.of_eq rfl rfl rfl
  · exact hi

theorem SparesCurrents.suppressTransformers (named : TransformerSet) (value : Bool) (s : State) :
    SparesCurrents s (s.suppressTransformers named value) := by
  refine ⟨fun i hi => ?_, by simp, by simp, by simp⟩
  have : (s.suppressTransformers named value).live[i] =
      if named.getLsbD i then { s.live[i] with suppressed := value } else s.live[i] := get_ofFn _ i
  rw [this]
  split
  · exact hi.of_eq rfl rfl rfl
  · exact hi

theorem SparesCurrents.panelReleased (s : State) : SparesCurrents s s.panelReleased := by
  simp only [State.panelReleased]
  split
  case h_2 =>
    have idle : SparesCurrents s (s.setPanel .idle false) := .of_same (by simp) (by simp) (by simp) (by simp)
    have cleared := idle.trans (.acknowledgeTransformers 0xFFFF (s.setPanel .idle false))
    exact cleared.trans (.of_same (by simp) (by simp) (by simp) (by simp))
  all_goals exact .of_same (by simp) (by simp) (by simp) (by simp)

/-! ### The clock -/

theorem SparesCurrents.takeRecordTick (i : Fin 16) (s : State) : SparesCurrents s (s.takeRecordTick i) := by
  simp only [State.takeRecordTick]
  split
  · exact .refl s
  · exact (SparesCurrents.recordSecond i _ _).after (.of_same rfl rfl rfl rfl)

theorem SparesCurrents.recordClock (stamp : Stamp) (i : Fin 16) (s : State) :
    SparesCurrents s (s.recordClock stamp i) := by
  simp only [State.recordClock]
  split
  · exact (SparesCurrents.takeRecordTick i s).trans (.of_same rfl rfl rfl rfl)
  · exact (SparesCurrents.takeRecordTick i s).trans (.recordSecond i stamp _)

theorem SparesCurrents.recordClocks (stamp : Stamp) (l : List (Fin 16)) (s : State) :
    SparesCurrents s (l.foldl (fun u i => u.recordClock stamp i) s) := by
  induction l generalizing s with
  | nil => exact .refl s
  | cons i l ih => exact (SparesCurrents.recordClock stamp i s).trans (ih _)

/-- A clock second forms currents of the records alone (R175). -/
theorem SparesCurrents.blocksClock (stamp : Stamp) (s : State) : SparesCurrents s (s.blocksClock stamp) := by
  have records := SparesCurrents.recordClocks stamp allSixteen s
  simp only [State.blocksClock]
  generalize allSixteen.foldl (fun u i => u.recordClock stamp i) s = u at records ⊢
  exact records.trans (.of_same (by simp) (by simp) (by simp) (by simp))

theorem SparesCurrents.oscillatorSecond (s : State) : SparesCurrents s s.oscillatorSecond :=
  (SparesCurrents.blocksClock _ _).after (.of_same rfl rfl rfl rfl)

theorem SparesCurrents.supervisedSecond (s : State) : SparesCurrents s s.supervisedSecond := by
  simp only [State.supervisedSecond]
  split
  · exact .oscillatorSecond s
  · exact (SparesCurrents.blocksClock _ _).after (.of_same rfl rfl rfl rfl)

theorem SparesCurrents.ppsEdgeAt (now : Nat) (s : State) : SparesCurrents s (s.ppsEdgeAt now) := by
  simp only [State.ppsEdgeAt]
  repeat' split
  · exact .refl s
  · exact .refl s
  · exact (SparesCurrents.supervisedSecond _).after (.of_same rfl rfl rfl rfl)
  · exact (SparesCurrents.oscillatorSecond _).after (.of_same rfl rfl rfl rfl)

theorem SparesCurrents.ppsFails (s : State) : SparesCurrents s s.ppsFails := by
  simp only [State.ppsFails]
  split
  · exact (SparesCurrents.supervisedSecond _).after (.of_same rfl rfl rfl rfl)
  · exact .refl s

theorem SparesCurrents.settleClock (s : State) : SparesCurrents s s.settleClock := by
  refine .of_same ?_ ?_ ?_ ?_ <;> simp

end

end Sys2Proof.Machine
end

section
/-! The bounds of the currents along the sample path (R25 to R29, R38 to R45). -/

namespace Sys2Proof.Machine

section
variable {s t : State}

/-! ### The extractor -/

/-- One channel replaced, and measured seconds within bounds joined to those on their way. -/
theorem CurrentsBounded.withChannel (h : CurrentsBounded s) {ch : Fin 16} {c : Channel}
    (hc : SumsOk s.cfg.device.mains.cycles c) (hchannels : t.channels = s.channels.set ch c) (hlive : t.live = s.live)
    (hcfg : t.cfg = s.cfg) {joined : List SecondHandOff}
    (hseconds : t.handOffs.seconds = s.handOffs.seconds ++ joined) (hjoined : ∀ g ∈ joined, g.Bounded) :
    CurrentsBounded t where
  live := by rw [hlive]; exact h.live
  channels := by rw [hcfg]; exact forall_set hchannels h.channels hc
  handed g hg := by
    rw [hseconds] at hg
    rcases List.mem_append.mp hg with before | new
    · exact h.handed g before
    · exact hjoined g new

theorem CurrentsBounded.setChannel (h : CurrentsBounded s) (ch : Fin 16) {c : Channel}
    (hc : SumsOk s.cfg.device.mains.cycles c) : CurrentsBounded (s.setChannel ch c) :=
  h.withChannel hc rfl rfl rfl (List.append_nil _).symm (by rintro _ ⟨⟩)

/-- A complete cycle leaves its channel one of three ways, and the third hands a second on (R39 to R41). -/
theorem CurrentsBounded.completeCycle (h : CurrentsBounded s) (ch : Fin 16) (cyc : PartialCycle) :
    CurrentsBounded (s.completeCycle ch cyc) := by
  have ok := h.channels ch
  have live : (s.cycleOffered ch cyc.codes).live = s.live := by simp [State.cycleOffered]
  have cfg : (s.cycleOffered ch cyc.codes).cfg = s.cfg := by simp [State.cycleOffered]
  have same : (s.cycleOffered ch cyc.codes).handOffs.seconds = s.handOffs.seconds ++ [] := by simp [State.cycleOffered]
  by_cases room : s.channels[ch].block.count + 1 < s.cfg.device.mains.cycles
  · rw [State.completeCycle_within room]
    exact h.withChannel (ok.blockWith cyc room) rfl live cfg same (by rintro _ ⟨⟩)
  · by_cases short : s.channels[ch].second.count < 9
    · rw [State.completeCycle_block (Nat.not_lt.mp room) short]
      exact h.withChannel (ok.secondWith cyc short) rfl live cfg same (by rintro _ ⟨⟩)
    · rw [State.completeCycle_second (Nat.not_lt.mp room) (Nat.not_lt.mp short)]
      refine h.withChannel (ok.secondHanded cyc) rfl live cfg rfl fun g hg => ?_
      rw [List.mem_singleton.mp hg]
      exact ok.completedSecond ch cyc.gain cyc

theorem CurrentsBounded.takeSample (h : CurrentsBounded s) (ch : Fin 16) (code : Int) (tag : Tag) :
    CurrentsBounded (s.takeSample ch code tag) := by
  rcases Nat.lt_or_ge (s.nextCycle ch code tag).codes.length 32 with short | full
  · rw [State.takeSample_joins short]
    exact h.setChannel ch ((h.channels ch).withCode code _)
  · rw [State.takeSample_completes full]
    exact (h.setChannel ch ((h.channels ch).withCode code _)).completeCycle ch _

theorem CurrentsBounded.takeFieldGroup (h : CurrentsBounded s) (north east : Int) (tag : Tag) :
    CurrentsBounded (s.takeFieldGroup north east tag) := h.same (by simp) (by simp) (by simp) (by simp)

theorem CurrentsBounded.takeGroup (h : CurrentsBounded s) (g : SampleGroup) : CurrentsBounded (s.takeGroup g) := by
  cases g with
  | current c seq x =>
    simp only [State.takeGroup]
    exact (((h.takeSample _ _ _).takeSample _ _ _).takeSample _ _ _).takeSample _ _ _
  | field seq north east tag => exact h.takeFieldGroup north east tag

/-! ### Abandon notices -/

/-- The Capture Unit's part of an abandon notice holds no current (R147). -/
theorem CurrentsBounded.captureNotice (h : CurrentsBounded s) (named : Fin 16 → Bool) :
    CurrentsBounded (s.captureNotice named) := h.same (by simp) (by simp) (by simp) (by simp)

theorem CurrentsBounded.abandon (h : CurrentsBounded s) (named : Fin 16 → Bool) : CurrentsBounded (s.abandon named) := by
  have emptied : CurrentsBounded (s.abandonChannels named) := by
    refine ⟨h.live, fun ch => ?_, h.handed⟩
    rw [State.abandonChannels, get_ofFn]
    split
    · exact .abandoned (Mains.cycles_pos _) _
    · exact h.channels ch
  exact emptied.captureNotice _

theorem CurrentsBounded.abandonConverter (h : CurrentsBounded s) (c : Fin 5) :
    CurrentsBounded (s.abandonConverter c) := by
  simp only [State.abandonConverter]
  split
  · exact h.same rfl rfl rfl rfl
  · exact h.abandon _

/-! ### Judging -/

theorem CurrentsBounded.handFills (h : CurrentsBounded s) (f : Frame) (n : Nat) (q : Byte) :
    CurrentsBounded (s.handFills f q n) := by
  induction n generalizing s q with
  | zero => exact h
  | succ n ih => exact ih (h.takeGroup _) (q + 1)

theorem CurrentsBounded.handOwn (h : CurrentsBounded s) (f : Frame) : CurrentsBounded (s.handOwn f) := by
  have held : CurrentsBounded { s with intake := s.intake.holding f } := h.same rfl rfl rfl rfl
  simp only [State.handOwn]
  split
  · exact h.takeGroup _
  · exact held.takeGroup _

theorem CurrentsBounded.emitDevice (h : CurrentsBounded s) (k : TransitionKind) (d : Option Nat) (stamp : Stamp) :
    CurrentsBounded (s.emitDevice k d stamp) := h.same rfl rfl rfl rfl

theorem CurrentsBounded.setConverter (h : CurrentsBounded s) (c : Fin 5) (v : Converter) :
    CurrentsBounded (s.setConverter c v) := h.same rfl rfl rfl rfl

theorem CurrentsBounded.handleStatus (h : CurrentsBounded s) (f : Frame) : CurrentsBounded (s.handleStatus f) :=
  h.same (by simp) (by simp) (by simp) (by simp)

theorem CurrentsBounded.followRef (h : CurrentsBounded s) (f : Frame) : CurrentsBounded (s.followRef f) :=
  h.same (by simp) (by simp) (by simp) (by simp)

theorem CurrentsBounded.firstFrame (h : CurrentsBounded s) (f : Frame) : CurrentsBounded (s.firstFrame f) := by
  simp only [State.firstFrame]
  split <;> exact CurrentsBounded.handOwn (h.same (by simp) (by simp) (by simp) (by simp)) f

theorem CurrentsBounded.resync (h : CurrentsBounded s) (f : Frame) : CurrentsBounded (s.resync f) := by
  have noticed := (h.abandonConverter f.converter).emitDevice .converterResync (some f.converter.val) s.time.now
  have seen (v : Converter) := noticed.setConverter f.converter v
  exact (((seen _).followRef f).handleStatus f).handOwn f

theorem CurrentsBounded.judge (h : CurrentsBounded s) (f : Frame) : CurrentsBounded (s.judge f) := by
  simp only [State.judge]
  split
  · exact h.firstFrame f
  · split
    · exact h
    · split
      · exact (((h.handFills f _ _).handleStatus f).followRef f).handOwn f
      · exact h.resync f

theorem CurrentsBounded.takeHead (h : CurrentsBounded s) (wanted : Frame → Bool) :
    CurrentsBounded (s.takeHead wanted) := by
  simp only [State.takeHead]
  split
  · exact h
  · rename_i f rest _
    have taken : CurrentsBounded { s with intake := { s.intake with fifo := rest } } :=
      h.same rfl rfl rfl rfl
    split
    · exact taken.judge f
    · exact h

theorem CurrentsBounded.silenceExpired (h : CurrentsBounded s) (c : Fin 5) : CurrentsBounded (s.silenceExpired c) := by
  by_cases expired : (s.converter c).timer = some 0
  · by_cases absent : (s.converter c).state = .absent
    · rw [State.silenceExpired_absent expired absent]
      exact h.same rfl rfl rfl rfl
    · rw [State.silenceExpired_present expired absent]
      have seconds : (s.silenced c).handOffs.seconds = s.handOffs.seconds := by
        simp only [State.silenced]
        split <;> rfl
      have told : CurrentsBounded (s.silenced c) := h.same rfl rfl rfl seconds
      exact (told.emitDevice _ _ _).abandonConverter c
  · rw [State.silenceExpired_of_ne expired]
    exact h

/-- After a start-up there is no current yet (R181). -/
theorem currentsBounded_startUp (cause : ResetCause) (rateHigh : Bool) (s : State) :
    CurrentsBounded (s.startUp cause rateHigh) where
  live i := by
    rw [State.startUp_live]
    exact .of_none (by rintro _ ⟨⟩) rfl rfl
  channels ch := by
    have initial : (s.startUp cause rateHigh).channels[ch] = initialChannel := by simp [State.startUp]
    rw [initial]
    exact ⟨Mains.cycles_pos _, Nat.zero_le _, Nat.zero_le _, Nat.zero_le _⟩
  handed := by rintro _ ⟨⟩

end

end Sys2Proof.Machine
end

section
/-! Every step keeps the currents within their bounds (R39, R76, R84). -/

namespace Sys2Proof.Machine

section
variable {s u : State} (h : CurrentsBounded s)
include h

/-! ### Requests -/

/-- A request row keeps the bounds where its handler does. -/
theorem CurrentsBounded.serveRequest (k : Byte) {f : Request → State → State}
    (hf : ∀ r v, CurrentsBounded v → CurrentsBounded (f r v)) : CurrentsBounded (s.serveRequest k f) := by
  rcases serveRequest_cases k f s with same | ⟨r, -, bad | ⟨-, served⟩⟩
  · rw [same]; exact h
  · rw [bad]; exact h.same rfl rfl rfl rfl
  · rw [served]; exact hf r _ (h.same rfl rfl rfl rfl)

/-- So it does where its handler leaves live parts, sample path and hand-offs of seconds alone. -/
theorem CurrentsBounded.served (k : Byte) {f : Request → State → State} (hl : ∀ r v, (f r v).live = v.live)
    (hw : ∀ r v, (f r v).sampleWork = v.sampleWork) (hs : ∀ r v, SameQueues v (f r v)) :
    CurrentsBounded (s.serveRequest k f) :=
  h.serveRequest k fun r v hv => hv.spared (.of_work (hl r v) (hw r v) (hs r v).seconds)

/-- Likewise a handler that is quiet. -/
theorem CurrentsBounded.servedQuiet (k : Byte) {f : Request → State → State} (hq : ∀ r v, Quiet v (f r v))
    (hw : ∀ r v, (f r v).sampleWork = v.sampleWork) (hs : ∀ r v, SameQueues v (f r v)) :
    CurrentsBounded (s.serveRequest k f) := h.served k (fun r v => (hq r v).live) hw hs

/-- A handler that replies and does no more. -/
theorem CurrentsBounded.servedReply (k : Byte) {f : Request → State → State}
    (hf : ∀ r v, ∃ status body, f r v = v.answer r status body) : CurrentsBounded (s.serveRequest k f) := by
  refine h.serveRequest k fun r v hv => ?_
  obtain ⟨status, body, replied⟩ := hf r v
  rw [replied]
  exact hv.same rfl rfl rfl rfl

/-- Other mains have blocks of another length, and empty every channel (R46). -/
theorem CurrentsBounded.setDevice_abandon (d : DeviceSettings) :
    CurrentsBounded ((s.setDevice d).abandon fun _ => true) := by
  have emptied : CurrentsBounded ((s.setDevice d).abandonChannels fun _ => true) := by
    refine ⟨h.live, fun ch => ?_, h.handed⟩
    rw [State.abandonChannels, get_ofFn]
    exact .abandoned (Mains.cycles_pos _) _
  exact emptied.captureNotice _

theorem CurrentsBounded.handleWriteDevice (r : Request) (now : Nat) : CurrentsBounded (handleWriteDevice now r s) := by
  simp only [Machine.handleWriteDevice]
  split
  · exact h.same rfl rfl rfl rfl
  · have device : CurrentsBounded ((s.setDevice (deviceOf r.body s.cfg.device.noticeMask)).whenChanged
        (s.cfg.device.mains != (deviceOf r.body s.cfg.device.noticeMask).mains) (State.abandon fun _ => true)) := by
      by_cases same : s.cfg.device.mains = (deviceOf r.body s.cfg.device.noticeMask).mains
      · rw [State.whenChanged, same, bne_self_eq_false]
        exact h.spared ⟨fun _ hi => hi, rfl, same.symm, rfl⟩
      · rw [State.whenChanged, bne_iff_ne.mpr same]
        exact h.setDevice_abandon _
    refine device.spared (.of_work ?_ (State.deviceEffects_sampleWork _ _ _) ?_) <;>
      (simp only [State.whenChanged]; split <;> simp)

theorem CurrentsBounded.handleWriteSettings (r : Request) : CurrentsBounded (handleWriteSettings r s) := by
  simp only [Machine.handleWriteSettings, State.withTransformer, State.writeSettings]
  repeat' split
  · exact h.same rfl rfl rfl rfl
  · exact h.same rfl rfl rfl rfl
  · exact h.same rfl rfl rfl rfl
  · rename_i i _ _ _
    have stored := h.spared (t := s.setSettings i (settingsOf (r.body.drop 1))) ⟨fun _ hi => hi, rfl, rfl, rfl⟩
    exact (stored.spared (.settingsEffects i _ _ _)).same rfl rfl rfl rfl

theorem CurrentsBounded.handleAcknowledge (r : Request) : CurrentsBounded (handleAcknowledge r s) := by
  refine (h.spared (.acknowledgeTransformers (BitVec.ofNat 16 (u16 r.body 0)) s)).same ?_ ?_ ?_ ?_ <;>
    (simp only [Machine.handleAcknowledge, State.whenChanged]; split <;> simp)

theorem CurrentsBounded.handleSuppress (r : Request) : CurrentsBounded (handleSuppress r s) := by
  simp only [Machine.handleSuppress]
  split
  · exact h.same rfl rfl rfl rfl
  · exact (h.spared (.suppressTransformers _ _ s)).same rfl rfl rfl rfl

/-! ### Events that wait -/

/-- The record takes one of the seconds on their way, and the others stay (R15). -/
theorem CurrentsBounded.execMeasuredSecond (i : Fin 16) (e : execMeasuredSecond i s = .next u) : CurrentsBounded u := by
  simp only [Machine.execMeasuredSecond] at e
  split at e <;> cases e
  · exact h
  · rename_i g rest taken
    obtain ⟨before, after, all, rest_eq, -⟩ := takeFirst_eq_some.mp taken
    have bounded : g.Bounded := h.handed g (by simp [all])
    have left : CurrentsBounded (s.setHandOffs { s.handOffs with seconds := rest }) := by
      refine ⟨h.live, h.channels, fun k hk => h.handed k ?_⟩
      have member : k ∈ before ++ after := by rw [← rest_eq]; exact hk
      rw [all]
      exact (List.sublist_cons_self g after).append_left before |>.subset member
    exact left.spared (.takeSecond bounded _)

theorem CurrentsBounded.execStandInSecond (i : Fin 16) (e : execStandInSecond i s = .next u) : CurrentsBounded u := by
  simp only [Machine.execStandInSecond] at e
  split at e <;> cases e
  · exact h.spared ((SparesCurrents.takeRecordTick i s).trans (.settleClock _))
  · exact h

theorem CurrentsBounded.execEpisodeHandoff (i : Fin 16) (e : execEpisodeHandoff i s = .next u) : CurrentsBounded u := by
  simp only [Machine.execEpisodeHandoff] at e
  split at e <;> cases e
  · exact h
  · exact h.same (by simp) (by simp) (by simp) (by simp)

theorem CurrentsBounded.execEnergised (i : Fin 16) (e : execEnergised i s = .next u) : CurrentsBounded u := by
  simp only [Machine.execEnergised] at e
  split at e
  · cases e; exact h
  · split at e <;> cases e
    · exact h.spared ((SparesCurrents.energise i _).after (.of_same rfl rfl rfl rfl))
    · exact h

theorem CurrentsBounded.execDeenergised (i : Fin 16) (e : execDeenergised i s = .next u) : CurrentsBounded u := by
  simp only [Machine.execDeenergised] at e
  split at e
  · cases e; exact h
  · split at e <;> cases e
    · exact h
    · exact h.spared ((SparesCurrents.deenergise i _).after (.of_same rfl rfl rfl rfl))

theorem CurrentsBounded.execPanelPress (e : execPanelPress s = .next u) : CurrentsBounded u := by
  simp only [Machine.execPanelPress] at e
  split at e <;> cases e
  · exact h.same (by simp) (by simp) (by simp) (by simp)
  · exact h

theorem CurrentsBounded.execPanelRelease (e : execPanelRelease s = .next u) : CurrentsBounded u := by
  simp only [Machine.execPanelRelease] at e
  split at e <;> cases e
  · exact h.spared ((SparesCurrents.panelReleased _).after (.of_same rfl rfl rfl rfl))
  · exact h

theorem CurrentsBounded.execContactReport (e : execContactReport s = .next u) : CurrentsBounded u := by
  simp only [Machine.execContactReport] at e
  split at e <;> cases e
  · exact h
  · exact h.same (by simp) (by simp) (by simp) (by simp)

theorem CurrentsBounded.execLevelTrigger (ch : Fin 16) (e : execLevelTrigger ch s = .next u) : CurrentsBounded u := by
  simp only [Machine.execLevelTrigger] at e
  split at e <;> cases e
  · exact h
  · exact h.same (by simp) (by simp) (by simp) (by simp)

theorem CurrentsBounded.execCaptureDisableReport (ch : Fin 16) (e : execCaptureDisableReport ch s = .next u) :
    CurrentsBounded u := by
  simp only [Machine.execCaptureDisableReport] at e
  split at e <;> cases e
  · exact h
  · exact h.same (by simp) (by simp) (by simp) (by simp)

theorem CurrentsBounded.execCaptureMissed (ch : Fin 16) (e : execCaptureMissed ch s = .next u) : CurrentsBounded u := by
  simp only [Machine.execCaptureMissed] at e
  split at e <;> cases e
  · exact h
  · exact h.same (by simp) (by simp) (by simp) (by simp)

theorem CurrentsBounded.execTenthAdvance (e : execTenthAdvance s = .next u) : CurrentsBounded u := by
  cases e
  repeat' split
  · exact h.same rfl rfl rfl rfl
  · exact h.same rfl rfl rfl rfl
  · exact h

theorem CurrentsBounded.execRestartReset (rateHigh : Bool) (e : execRestartReset rateHigh s = .next u) :
    CurrentsBounded u := by
  cases e
  split
  · exact currentsBounded_startUp _ _ s
  · exact h

theorem CurrentsBounded.execClockSecond (e : execClockSecond s = .next u) : CurrentsBounded u := by
  cases e
  split
  · exact h
  · exact h.spared (.oscillatorSecond s)

theorem CurrentsBounded.execFieldNone (e : execFieldNone s = .next u) : CurrentsBounded u := by
  cases e
  split
  · exact h.spared ((SparesCurrents.settleClock _).after (.of_same (by simp) (by simp) (by simp) (by simp)))
  · exact h

/-! ### Every command -/

theorem CurrentsBounded.exec {c : Instr} (e : exec c s = .next u) : CurrentsBounded u := by
  cases c with
  | powerOnReset rateHigh => cases e; exact currentsBounded_startUp _ _ s
  | pinReset rateHigh => cases e; exact currentsBounded_startUp _ _ s
  | restartReset rateHigh => exact h.execRestartReset rateHigh e
  | sampleFrame bytes => cases e; exact h.same (by simp) (by simp) (by simp) (by simp)
  | sampleLineIdle bytes => cases e; exact h.same (by simp) (by simp) (by simp) (by simp)
  | takeCurrentFrame => cases e; exact h.takeHead _
  | takeFieldFrame => cases e; exact h.takeHead _
  | measuredSecond i => exact h.execMeasuredSecond i e
  | clockSecond => exact h.execClockSecond e
  | standInSecond i => exact h.execStandInSecond i e
  | fieldNone => exact h.execFieldNone e
  | episodeQuietClose => cases e; exact h.same (by simp) (by simp) (by simp) (by simp)
  | episodeHandoff i => exact h.execEpisodeHandoff i e
  | captureMissed ch => exact h.execCaptureMissed ch e
  | linkSilent => cases e; exact h.same (by simp) (by simp) (by simp) (by simp)
  | silenceTimerExpiry c => cases e; exact h.silenceExpired c
  | ppsEdge now => cases e; exact h.spared (.ppsEdgeAt now s)
  | ppsLost => cases e; exact h.spared (.ppsFails s)
  | inputLevelChange pin level now => cases e; exact h.same rfl rfl rfl rfl
  | debounceComplete pin => cases e; exact h.same (by simp) (by simp) (by simp) (by simp)
  | energised i => exact h.execEnergised i e
  | deenergised i => exact h.execDeenergised i e
  | panelPress => exact h.execPanelPress e
  | panelRelease => exact h.execPanelRelease e
  | panelTestStart => cases e; split <;> exact h.same (by simp) (by simp) (by simp) (by simp)
  | panelTestTimeout => cases e; split <;> exact h.same (by simp) (by simp) (by simp) (by simp)
  | contactReport => exact h.execContactReport e
  | levelTrigger ch => exact h.execLevelTrigger ch e
  | captureDisableReport ch => exact h.execCaptureDisableReport ch e
  | requestFrame bytes => cases e; exact h.same (by simp) (by simp) (by simp) (by simp)
  | hostFrameGap bytes => cases e; exact h.same (by simp) (by simp) (by simp) (by simp)
  | unknownKindRequest =>
    cases e
    exact h.spared (.of_work (quiet_serveUnknown s).live s.serveUnknown_sampleWork (sameQueues_serveUnknown s).seconds)
  | identify => cases e; exact h.servedReply _ fun r v => ⟨_, _, rfl⟩
  | readClock => cases e; exact h.servedReply _ fun r v => ⟨_, _, rfl⟩
  | setClock =>
    cases e; exact h.servedQuiet _ quiet_handleSetClock handleSetClock_sampleWork sameQueues_handleSetClock
  | readDeviceSettings => cases e; exact h.servedReply _ fun r v => ⟨_, _, rfl⟩
  | writeDeviceSettings now => cases e; exact h.serveRequest _ fun r v hv => hv.handleWriteDevice r now
  | readTransformerSettings =>
    cases e
    exact h.servedQuiet _ quiet_handleReadSettings (fun r v => v.withTransformer_sampleWork r _ _ fun _ => rfl)
      fun r v => sameQueues_withTransformer r v _ fun _ => ⟨rfl, rfl⟩
  | writeTransformerSettings => cases e; exact h.serveRequest _ fun r v hv => hv.handleWriteSettings r
  | readLive =>
    cases e
    exact h.servedQuiet _ quiet_handleReadLive (fun r v => v.withTransformer_sampleWork r _ _ fun _ => rfl)
      fun r v => sameQueues_withTransformer r v _ fun _ => ⟨rfl, rfl⟩
  | snapshot => cases e; exact h.serveRequest _ fun r v hv => hv.same rfl rfl rfl rfl
  | readSnapshot =>
    cases e; exact h.servedQuiet _ quiet_handleReadSnapshot handleReadSnapshot_sampleWork sameQueues_handleReadSnapshot
  | acknowledge => cases e; exact h.serveRequest _ fun r v hv => hv.handleAcknowledge r
  | suppress => cases e; exact h.serveRequest _ fun r v hv => hv.handleSuppress r
  | loadGroundResponse =>
    cases e
    refine h.served _ (fun r v => ?_) handleLoadResponse_sampleWork sameQueues_handleLoadResponse
    simp only [handleLoadResponse]
    (repeat' split) <;> rfl
  | readGroundResponse => cases e; exact h.servedReply _ fun r v => ⟨_, _, rfl⟩
  | readField => cases e; exact h.servedQuiet _ quiet_handleReadField handleReadField_sampleWork sameQueues_handleReadField
  | readContactMap => cases e; exact h.servedQuiet _ quiet_handleReadMap handleReadMap_sampleWork sameQueues_handleReadMap
  | writeContactMap =>
    cases e
    refine h.served _ (fun r v => ?_) handleWriteMap_sampleWork sameQueues_handleWriteMap
    simp only [handleWriteMap]
    (repeat' split) <;> simp
  | fetchSummary => cases e; exact h.serveRequest _ fun r v hv => hv.same rfl rfl rfl rfl
  | changeNoticeMask =>
    cases e
    refine h.served _ (fun r v => ?_) handleChangeMask_sampleWork sameQueues_handleChangeMask
    simp only [handleChangeMask]
    split <;> rfl
  | fetchTransitions =>
    cases e
    exact h.servedQuiet _ quiet_handleFetchTransitions handleFetchTransitions_sampleWork sameQueues_handleFetchTransitions
  | readEpisode =>
    cases e; exact h.servedQuiet _ quiet_handleReadEpisode handleReadEpisode_sampleWork sameQueues_handleReadEpisode
  | readEpisodeEntry =>
    cases e; exact h.servedQuiet _ quiet_handleReadEntry handleReadEntry_sampleWork sameQueues_handleReadEntry
  | closeEpisode =>
    cases e
    refine h.served _ (fun r v => ?_) handleCloseEpisode_sampleWork sameQueues_handleCloseEpisode
    simp only [handleCloseEpisode]
    split <;> rfl
  | captureNow =>
    cases e; exact h.servedQuiet _ quiet_handleCaptureNow handleCaptureNow_sampleWork sameQueues_handleCaptureNow
  | extendCapture =>
    cases e; exact h.servedQuiet _ quiet_handleExtendCapture handleExtendCapture_sampleWork sameQueues_handleExtendCapture
  | listCaptures =>
    cases e; exact h.servedQuiet _ quiet_handleListCaptures handleListCaptures_sampleWork sameQueues_handleListCaptures
  | readCaptureSamples =>
    cases e; exact h.servedQuiet _ quiet_handleReadSamples handleReadSamples_sampleWork sameQueues_handleReadSamples
  | releaseCapture =>
    cases e; exact h.servedQuiet _ quiet_handleRelease handleRelease_sampleWork sameQueues_handleRelease
  | readIntakeStatus => cases e; exact h.serveRequest _ fun r v hv => hv.same rfl rfl rfl rfl
  | clearConverterFault =>
    cases e
    refine h.serveRequest _ fun r v hv => hv.same (quiet_handleClearFault r v).live ?_ (quiet_handleClearFault r v).cfg
      (sameQueues_handleClearFault r v).seconds
    simp only [handleClearFault]
    (repeat' split) <;> simp
  | saveSettings =>
    cases e
    refine h.served _ (fun r v => ?_) handleSave_sampleWork sameQueues_handleSave
    simp only [handleSave]
    split <;> rfl
  | saveCompletion agrees => cases e; exact h.same (by simp) (by simp) (by simp) (by simp)
  | restart =>
    cases e
    exact h.spared (.of_work (quiet_serveRestart s).live s.serveRestart_sampleWork (sameQueues_serveRestart s).seconds)
  | tenthAdvance => exact h.execTenthAdvance e
  | replySent => cases e; exact h.same (by simp) (by simp) (by simp) (by simp)
  | sampleDamagedByte bytes => cases e; exact h.same (by simp) (by simp) (by simp) (by simp)
  | sampleFrameDiscard bytes => cases e; exact h.same (by simp) (by simp) (by simp) (by simp)
  | hostDamagedByte bytes => cases e; exact h.same (by simp) (by simp) (by simp) (by simp)
  | hostFrameDiscard bytes => cases e; exact h.same (by simp) (by simp) (by simp) (by simp)

end

/-- Settles O11: the lengths are O10's, and every command keeps what is formed of them within bounds. -/
theorem stepKeepsCurrentsLaw : Obligations.StepKeepsCurrentsLaw := by
  intro s t h e
  obtain ⟨lengths, bounded⟩ := currentsLaw_iff.mp h
  refine currentsLaw_iff.mpr ⟨stepKeepsIntakeLaw s t lengths e, ?_⟩
  simp only [step] at e
  split at e
  · cases e; exact bounded
  · rename_i c rest _
    have taken : CurrentsBounded { s with pending := rest } := bounded.same rfl rfl rfl rfl
    exact taken.exec e

end Sys2Proof.Machine
end

section
/-! A field group joins its second, and the tenth completes it: means, rate entry, history and the latest E (R57 to R63). -/

namespace Sys2Proof.Machine

/-- A value brought within ±32767 is another one exactly where it lies beyond. -/
theorem clampInt_bne (n : Int) : (clampInt (-32767) 32767 n != n) = decide (32767 < n.natAbs) := by
  rw [bne, Bool.eq_iff_iff, Bool.not_eq_true', beq_eq_false_iff_ne, decide_eq_true_iff]
  unfold clampInt
  omega

/-! ### Rate entries and the history -/

section
variable {linked sound : Bool} {last : Option FieldMeans} {north east : Int}

/-- Means differenced against the means before (R59). -/
theorem rateEntry_of_sound {l : FieldMeans} (hl : last = some l) (link : linked = true) (now : sound = true)
    (before : l.sound = true) : rateEntry linked last north east sound =
      ⟨max (-32767) (min 32767 (north - l.north)), max (-32767) (min 32767 (east - l.east)), false,
        decide (32767 < (north - l.north).natAbs ∨ 32767 < (east - l.east).natAbs)⟩ := by
  simp only [rateEntry, hl, link, now, before, Bool.and_self, if_true, clampInt_bne, Bool.decide_or]
  rfl

/-- The first field second, the first after an abandon, an unsound one and the one after it make a gap entry (R59). -/
theorem rateEntry_of_gap
    (h : last = none ∨ linked = false ∨ sound = false ∨ ∃ l, last = some l ∧ l.sound = false) :
    rateEntry linked last north east sound = ⟨0, 0, true, false⟩ := by
  cases last with
  | none => rfl
  | some l =>
    have broken : (linked && sound && l.sound) = false := by
      rcases h with h | h | h | ⟨m, hm, h⟩
      · cases h
      · simp [h]
      · simp [h]
      · cases hm
        simp [h]
    simp only [rateEntry, broken, Bool.false_eq_true, if_false]
    rfl

end

theorem historyWith_zero (e : RateEntry) (h : Vector RateEntry 64) : (historyWith e h)[0] = e := by
  simp [historyWith]

/-- Every entry moves one place towards the tail (R60). -/
theorem historyWith_succ (e : RateEntry) (h : Vector RateEntry 64) (j : Fin 63) :
    (historyWith e h)[j.val + 1] = h[j.val] := by
  simp [historyWith]

/-! ### The latest E -/

/-- The taps meet as many entries as there are taps, and the entries behind those have no part in E (R61). -/
theorem tapSum_eq (rate : RateEntry → Int) (taps : List Int) (entries : List RateEntry) :
    tapSum rate taps entries = (List.zipWith (fun k h => k * rate h) taps (entries.take taps.length)).sum := by
  induction taps generalizing entries with
  | nil => simp [tapSum]
  | cons k taps ih =>
    cases entries with
    | nil => simp [tapSum]
    | cons e entries => simp [tapSum, ih]

/-- What E is formed of (R61 to R63). -/
theorem formEstimate_eq (taps : List Int) (h : Vector RateEntry 64) (stamp : Stamp) :
    let used := h.toList.take taps.length
    let eN := roundDiv (List.zipWith (fun k h => k * RateEntry.dE h) taps used).sum 1000
    let eE := roundDiv (-(List.zipWith (fun k h => k * RateEntry.dN h) taps used).sum) 1000
    formEstimate taps h stamp =
      { north := max (-32767) (min 32767 eN), east := max (-32767) (min 32767 eE)
        quality := if ∃ h ∈ used, RateEntry.gap h = true then .degraded else .good
        saturated := decide (32767 < eN.natAbs ∨ 32767 < eE.natAbs)
        formed := some (taps.length, stamp) } := by
  intro used eN eE
  have gaps : (used.any RateEntry.gap = true) = ∃ h ∈ used, RateEntry.gap h = true := by
    rw [List.any_eq_true]
  simp only [formEstimate, tapSum_eq, clampInt_bne, Bool.decide_or]
  change FieldEstimate.mk _ _ (if used.any RateEntry.gap = true then _ else _) _ _ = _
  simp only [gaps]
  rfl

/-! ### Groups -/

section
variable {north east : Int} {tag : Tag} {s : State}

/-- The tenth group completes the field second (R58). -/
theorem State.takeFieldGroup_tenth (h : s.field.partialField.count = 9) :
    s.takeFieldGroup north east tag = s.completeField ⟨s.field.partialField.count + 1,
      s.field.partialField.north + north, s.field.partialField.east + east,
      s.field.partialField.sound && tag != .fault⟩ := if_pos (by simp [h])

/-- A field frame in step hands on its own group alone (R25, R57). -/
theorem State.judge_field_inStep {q r : Byte} {low : Bool} (state : (s.converter 4).state = .locked r) (step : q = r + 1) :
    s.judge (.field q false low north east) =
      State.takeFieldGroup north east .good
        (s.withIntake { s.intake.moved 4 (.locked q) with heldNorth := north, heldEast := east }) := by
  have one : (q - r).toNat = 1 := by
    subst step
    rw [BitVec.add_comm, BitVec.add_sub_cancel]
    rfl
  rw [State.judge_field_locked (by omega) (by omega) state, one]
  rfl

end

/-- Settles O21: a group joins (`State.takeGroup_field_joins`) or completes the second (`State.takeFieldGroup_tenth`), and the
entry and E are those of `rateEntry` and `formEstimate`. -/
theorem fieldSecondCompletes : Obligations.FieldSecondCompletes := by
  refine ⟨fun north east tag s => ?_, fun q r low north east rest s => ?_⟩
  · intro p sound
    have unsound : sound = (p.sound && tag != .fault) := by cases tag <;> rfl
    refine ⟨fun q => rfl, fun room => ?_, fun tenth _ => ?_⟩
    · rw [unsound]
      exact if_neg (show ¬ 10 ≤ p.count + 1 by omega)
    · rw [State.takeFieldGroup_tenth tenth, ← unsound]
      refine ⟨_, rfl, rfl, rfl, rfl, rfl, fun l hl link now before => ?_, fun gap => ?_, fun j => ?_, ?_⟩
      · exact (historyWith_zero _ _).trans (rateEntry_of_sound hl link now before)
      · exact (historyWith_zero _ _).trans (rateEntry_of_gap gap)
      · exact historyWith_succ _ _ j
      · simp only [formEstimate_eq, decide_eq_true_iff, and_self]
  · intro conv head state step
    rw [exec_takeFieldFrame_of_head head, State.judge_field_inStep (s := s.headTaken rest) state step]
    rfl

end Sys2Proof.Machine
end

section
/-! A ground response table and a contact map taken (R68, R166). -/

namespace Sys2Proof.Machine

/-! ### The ground response table -/

section
variable {r : Request} {s : State}

theorem exec_loadGroundResponse (h : s.Takes 0x0D r) :
    exec .loadGroundResponse s = .next (handleLoadResponse r s.unarmed) := by
  have anyLength : lengthOk r = true := by
    obtain ⟨-, -, -, kind⟩ := h
    simp [lengthOk, kind, bodyLength]
  show Host.Outcome.next (s.serveRequest 0x0D handleLoadResponse) = _
  rw [serveRequest_of_takes h anyLength, disarm_eq h.2.1]
  rfl

theorem handleLoadResponse_taken (bar : s.settingsBar = none) {n : Nat} (hn : 1 ≤ n ∧ n ≤ 64) (count : u8 r.body 0 = n)
    (hl : r.body.length = 1 + 2 * n) :
    handleLoadResponse r s = State.answer r .ok [] { s with cfg := { s.cfg with taps := tapsOf r.body n } } := by
  have sound : ¬ (r.body = [] ∨ n = 0 ∨ 64 < n ∨ r.body.length ≠ 1 + 2 * n) := by
    rintro (empty | zero | many | other)
    · rw [empty, List.length_nil] at hl
      omega
    all_goals omega
  simp only [handleLoadResponse, bar, count]
  exact if_neg sound

/-- No table has no taps, more than 64, or another number of them than its body holds (R68). -/
theorem handleLoadResponse_badLength (bar : s.settingsBar = none)
    (h : u8 r.body 0 = 0 ∨ 64 < u8 r.body 0 ∨ r.body.length ≠ 1 + 2 * u8 r.body 0) :
    handleLoadResponse r s = s.answer r .badLength [] := by
  simp only [handleLoadResponse, bar]
  exact if_pos (.inr h)

end

/-! ### Contact maps -/

/-- The state with another map for contact `k` (R166). -/
def State.withMap (k : Fin 4) (m : ContactMap) (s : State) : State :=
  { s with cfg := { s.cfg with maps := s.cfg.maps.set k m } }

/-- The contact whose map is written, before its output is driven (R166). -/
def State.writtenContact (k : Fin 4) (m : ContactMap) (s : State) : Contact :=
  { s.driver.contacts[k] with
    state := rejudged s.cfg.maps[k].mode m.mode (s.sourceOf m) s.driver.contacts[k].state, source := s.sourceOf m }

section
variable {r : Request} {s : State} {k : Fin 4} {m : ContactMap}

theorem handleWriteMap_of_some (bar : s.settingsBar = none) (hk : contactOf (u8 r.body 0) = some k) :
    handleWriteMap r s = (s.mapWritten k (mapOf (r.body.drop 1))).answer r
      (okOr ((mapOf (r.body.drop 1)).bytes != r.body.drop 1)) (mapOf (r.body.drop 1)).bytes := by
  simp only [handleWriteMap, bar, hk]

theorem handleWriteMap_of_none (bar : s.settingsBar = none) (hk : contactOf (u8 r.body 0) = none) :
    handleWriteMap r s = s.answer r .notFound [] := by
  simp only [handleWriteMap, bar, hk]

theorem State.mapWritten_eq : s.mapWritten k m =
    ((State.setDriver { s.driver with contacts := s.driver.contacts.set k (s.writtenContact k m) }
      (s.withMap k m)).driveOutputs).report (.map k) := rfl

/-- A FOLLOW contact goes by its source; a LATCH contact goes on from its state where it was in LATCH before, and begins from its
source where it was not (R166). -/
theorem rejudged_eq {before after : ContactMode} (source : Bool) (st : ContactState) :
    rejudged before after source st =
      if after = .follow then (if source then .closed else .open)
      else if before = .latch then latchJudged source st else if source then .closedActive else .open := by
  cases before <;> cases after <;> rfl

/-- A driven contact keeps its state and its source. -/
theorem State.driveOutputs_contact (u : State) (j : Fin 4) :
    u.driveOutputs.driver.contacts[j].state = u.driver.contacts[j].state ∧
      u.driveOutputs.driver.contacts[j].source = u.driver.contacts[j].source := by
  simp [State.driveOutputs]

theorem State.mapWritten_contact (j : Fin 4) :
    (s.mapWritten k m).driver.contacts[j].state = (s.driver.contacts.set k (s.writtenContact k m))[j].state ∧
      (s.mapWritten k m).driver.contacts[j].source = (s.driver.contacts.set k (s.writtenContact k m))[j].source := by
  rw [State.mapWritten_eq]
  exact State.driveOutputs_contact _ j

theorem driven_mapWritten : Driven (s.mapWritten k m) := by
  rw [State.mapWritten_eq]
  obtain ⟨outputs, test, flashing, steady⟩ := driven_driveOutputs
    (State.setDriver { s.driver with contacts := s.driver.contacts.set k (s.writtenContact k m) } (s.withMap k m))
  exact ⟨outputs, test, flashing, steady⟩

end

/-- Settles O55: the rule of each request, and of a map written the contact's state and source (`State.mapWritten_contact`) and
the outputs (`driven_mapWritten`). -/
theorem tableAndMapWritten : Obligations.TableAndMapWritten := by
  refine ⟨fun sent => ?_, fun r s hlock hsave => ?_⟩
  · have sources : BitVec.ofNat 5 (u8 sent 3 % 32) = BitVec.ofNat 5 (u8 sent 3) :=
      BitVec.eq_of_toNat_eq (by simp)
    simp only [mapOf, yesOf_eq, sources]
    rfl
  · have bar : s.unarmed.settingsBar = none := State.settingsBar_of_free hlock hsave
    refine ⟨fun h => ⟨fun n low high count hl => ?_, fun bad => ?_⟩, fun h hl => ⟨fun hn => ?_, fun k hk => ?_⟩⟩
    · rw [exec_loadGroundResponse h, handleLoadResponse_taken bar ⟨low, high⟩ count hl]
      rfl
    · rw [exec_loadGroundResponse h, handleLoadResponse_badLength bar bad]
      rfl
    · exact exec_replies (f := handleWriteMap) rfl h (by rfl) hl (handleWriteMap_of_none bar (contactOf_eq_none hn))
    · intro m c source state
      have written := State.mapWritten_contact (s := s) (k := k) (m := m)
      have own : (s.driver.contacts.set k (s.writtenContact k m))[k] = s.writtenContact k m := get_set_same _ k _
      have handled : handleWriteMap r s.unarmed =
          (s.mapWritten k m).replied r (if m.bytes = r.body.drop 1 then .ok else .clamped) m.bytes := by
        rw [handleWriteMap_of_some bar (hk ▸ contactOf_succ k), okOr_bne]
        rfl
      refine ⟨s.mapWritten k m, ?_, driven_mapWritten, ?_, ?_, fun j other => ?_, rfl⟩
      · exact (exec_of_takes (f := handleWriteMap) rfl h (n := 8) (by rfl) hl).trans (congrArg _ handled)
      · rw [(written k).1, own]
        exact rejudged_eq source c.state
      · rw [(written k).2, own]
        rfl
      · rw [(written j).1, (written j).2, get_set_of_ne _ other]
        exact ⟨rfl, rfl⟩

end Sys2Proof.Machine
end

section
/-! SUPPORT. Which clock seconds wait and which are taken: what each block asks, and what taking one leaves alone (assumption 6). -/

namespace Sys2Proof.Machine

/-! ### What makes a clock second wait -/

section
variable {s : State}

theorem Live.standsIn_iff {l : Live} : l.standsIn = true ↔ l.service = .inService ∧ 2 ≤ l.age := by
  have aged : 3 ≤ satSucc 65535 l.age ↔ 2 ≤ l.age := by
    unfold satSucc
    omega
  simp only [Live.standsIn, Bool.and_eq_true, beq_iff_eq, decide_eq_true_iff, aged]

theorem State.recordWaits_iff : s.recordWaits = true ↔ RecordWaits s := by
  simp only [State.recordWaits, any_allSixteen, Option.isSome_iff_ne_none, RecordWaits]

theorem State.losesGrade_iff : s.field.losesGrade = true ↔ LosesGrade s := by
  have aged : 10 ≤ satSucc 65535 s.field.age ↔ 9 ≤ s.field.age := by
    unfold satSucc
    omega
  simp only [FieldEstimator.losesGrade, Bool.and_eq_true, bne_iff_ne, decide_eq_true_iff, aged, LosesGrade]

theorem State.closesQuiet_iff : s.closesQuiet = true ↔ ClosesQuiet s := by
  simp only [State.closesQuiet, Bool.and_eq_true, Option.isSome_iff_ne_none, Bool.not_eq_true', decide_eq_true_iff,
    and_assoc, ClosesQuiet]

theorem State.opensAhead_iff : s.opensAhead = true ↔ OpensAhead s := by
  simp only [State.opensAhead, State.opensEpisode, Bool.and_eq_true, Option.isNone_iff_eq_none, Bool.not_eq_true',
    List.isEmpty_eq_false_iff, and_assoc, OpensAhead]

theorem State.fieldWaits_iff : s.fieldWaits = true ↔ LosesGrade s ∨ RecordWaits s := by
  rw [State.fieldWaits, Bool.or_eq_true, State.losesGrade_iff, State.recordWaits_iff]

theorem State.trackerWaits_iff :
    s.trackerWaits = true ↔ ClosesQuiet s ∨ RecordWaits s ∨ s.handOffs.fieldTick ≠ none := by
  simp only [State.trackerWaits, Bool.or_eq_true, State.closesQuiet_iff, State.recordWaits_iff,
    Option.isSome_iff_ne_none, or_assoc]

end

/-! ### The records -/

section
variable {i : Fin 16} {stamp : Stamp} {s : State}

@[simp] theorem State.recordSecond_recordTicks (i : Fin 16) (stamp : Stamp) (s : State) :
    (s.recordSecond i stamp).handOffs.recordTicks = s.handOffs.recordTicks := by
  cases service : s.live[i].service with
  | off => rw [State.recordSecond_off service]
  | outOfService => rw [State.recordSecond_outOfService service, State.trackCooling_eq]
  | inService =>
    rcases Nat.lt_or_ge s.live[i].age 2 with young | old
    · rw [State.recordSecond_young service young]
    · rw [State.recordSecond_standsIn service old]
      rfl

theorem State.takeRecordTick_of_none (h : s.handOffs.recordTicks[i] = none) : s.takeRecordTick i = s := by
  simp only [State.takeRecordTick, h]

theorem State.takeRecordTick_of_some (h : s.handOffs.recordTicks[i] = some stamp) : s.takeRecordTick i =
    (s.setHandOffs { s.handOffs with recordTicks := s.handOffs.recordTicks.set i none }).recordSecond i stamp := by
  simp only [State.takeRecordTick, h]

theorem State.takeRecordTick_recordTicks (i : Fin 16) (s : State) :
    (s.takeRecordTick i).handOffs.recordTicks[i] = none := by
  cases h : s.handOffs.recordTicks[i] with
  | none => rw [State.takeRecordTick_of_none h, h]
  | some stamp =>
    rw [State.takeRecordTick_of_some h, State.recordSecond_recordTicks]
    exact get_set_same _ i none

/-- A clock second that still waits is taken before the next one comes. -/
theorem State.recordClock_takeRecordTick (stamp : Stamp) (i : Fin 16) (s : State) :
    (s.takeRecordTick i).recordClock stamp i = s.recordClock stamp i := by
  simp only [State.recordClock, State.takeRecordTick_of_none (s.takeRecordTick_recordTicks i)]

theorem State.recordClock_waits (h : s.handOffs.recordTicks[i] = none)
    (standsIn : s.live[i].service = .inService ∧ 2 ≤ s.live[i].age) : s.recordClock stamp i =
      s.setHandOffs { s.handOffs with recordTicks := s.handOffs.recordTicks.set i (some stamp) } := by
  simp only [State.recordClock, State.takeRecordTick_of_none h, Live.standsIn_iff.mpr standsIn, if_true]

theorem State.recordClock_takes (h : s.handOffs.recordTicks[i] = none)
    (standsIn : ¬ (s.live[i].service = .inService ∧ 2 ≤ s.live[i].age)) :
    s.recordClock stamp i = s.recordSecond i stamp := by
  simp only [State.recordClock, State.takeRecordTick_of_none h]
  exact if_neg fun stands => standsIn (Live.standsIn_iff.mp stands)

end

/-! ### The Field Estimator -/

section
variable {stamp : Stamp} {s : State}

/-- E ages (R64). -/
theorem State.fieldSecond_ages (h : ¬ LosesGrade s) :
    s.fieldSecond stamp = { s with field := { s.field with age := min 65535 (s.field.age + 1) } } :=
  if_neg fun loses => h (State.losesGrade_iff.mp loses)

/-- E ages and loses its grade, with FIELD_NONE (R64, R65). -/
theorem State.fieldSecond_losesGrade (h : LosesGrade s) : s.fieldSecond stamp =
    { s with
      field := { s.field with age := min 65535 (s.field.age + 1), latest := { s.field.latest with quality := .none } }
      link := s.made [deviceRecord .fieldNone (some 4) stamp] } :=
  if_pos (State.losesGrade_iff.mpr h)

theorem State.takeFieldTick_of_none (h : s.handOffs.fieldTick = none) : s.takeFieldTick = s := by
  simp only [State.takeFieldTick, h]

theorem State.takeFieldTick_of_some (h : s.handOffs.fieldTick = some stamp) :
    s.takeFieldTick = (s.setHandOffs { s.handOffs with fieldTick := none }).fieldSecond stamp := by
  simp only [State.takeFieldTick, h]

theorem State.takeFieldTick_fieldTick (s : State) : s.takeFieldTick.handOffs.fieldTick = none := by
  cases h : s.handOffs.fieldTick with
  | none => rw [State.takeFieldTick_of_none h, h]
  | some stamp => rw [State.takeFieldTick_of_some h]; simp

/-- A clock second that still waits is taken before the next one comes. -/
theorem State.fieldClock_takeFieldTick (stamp : Stamp) (s : State) :
    s.takeFieldTick.fieldClock stamp = s.fieldClock stamp := by
  simp only [State.fieldClock, State.takeFieldTick_of_none s.takeFieldTick_fieldTick]

theorem State.fieldClock_waits (h : s.handOffs.fieldTick = none) (waits : LosesGrade s ∨ RecordWaits s) :
    s.fieldClock stamp = s.setHandOffs { s.handOffs with fieldTick := some stamp } := by
  simp only [State.fieldClock, State.takeFieldTick_of_none h, State.fieldWaits_iff.mpr waits, if_true]

theorem State.fieldClock_takes (h : s.handOffs.fieldTick = none) (keeps : ¬ LosesGrade s) (taken : ¬ RecordWaits s) :
    s.fieldClock stamp = s.fieldSecond stamp := by
  simp only [State.fieldClock, State.takeFieldTick_of_none h]
  exact if_neg fun waits => (State.fieldWaits_iff.mp waits).elim keeps taken

end

/-! ### The Episode Tracker -/

section
variable {stamp : Stamp} {s : State}

@[simp] theorem State.trackerSecond_trackerTick (stamp : Stamp) (s : State) :
    (s.trackerSecond stamp).handOffs.trackerTick = s.handOffs.trackerTick := by
  simp only [State.trackerSecond]
  (repeat' split) <;> rfl

theorem State.takeTrackerTick_of_none (h : s.handOffs.trackerTick = none) : s.takeTrackerTick = s := by
  simp only [State.takeTrackerTick, h]

theorem State.takeTrackerTick_of_some (h : s.handOffs.trackerTick = some stamp) :
    s.takeTrackerTick = (s.setHandOffs { s.handOffs with trackerTick := none }).trackerSecond stamp := by
  simp only [State.takeTrackerTick, h]

theorem State.takeTrackerTick_trackerTick (s : State) : s.takeTrackerTick.handOffs.trackerTick = none := by
  cases h : s.handOffs.trackerTick with
  | none => rw [State.takeTrackerTick_of_none h, h]
  | some stamp => rw [State.takeTrackerTick_of_some h]; simp

/-- A clock second that still waits is taken before the next one comes. -/
theorem State.trackerClock_takeTrackerTick (stamp : Stamp) (s : State) :
    s.takeTrackerTick.trackerClock stamp = s.trackerClock stamp := by
  simp only [State.trackerClock, State.takeTrackerTick_of_none s.takeTrackerTick_trackerTick]

section
variable (h : s.handOffs.trackerTick = none)
include h

theorem State.trackerClock_waits (waits : ClosesQuiet s ∨ RecordWaits s ∨ s.handOffs.fieldTick ≠ none) :
    s.trackerClock stamp = s.setHandOffs { s.handOffs with trackerTick := some stamp } := by
  simp only [State.trackerClock, State.takeTrackerTick_of_none h, State.trackerWaits_iff.mpr waits, if_true]

theorem State.trackerClock_takes (ready : ¬ (ClosesQuiet s ∨ RecordWaits s ∨ s.handOffs.fieldTick ≠ none)) :
    s.trackerClock stamp = s.trackerSecond stamp := by
  simp only [State.trackerClock, State.takeTrackerTick_of_none h]
  exact if_neg fun waits => ready (State.trackerWaits_iff.mp waits)

end

/-- max |E| after a clock second (R128): the larger value, and of equal ones the first. -/
theorem maxEWith_eq (e : FieldEstimate) (stamp : Stamp) (held : Option (Nat × Stamp)) :
    maxEWith e stamp held =
      if e.quality = .none ∨ ∃ m, held = some m ∧ e.magnitude ≤ m.1 then held else some (e.magnitude, stamp) := by
  unfold maxEWith
  by_cases graded : e.quality = .none
  · simp [graded]
  · cases held with
    | none => simp [graded]
    | some m =>
      rcases Nat.lt_or_ge m.1 e.magnitude with more | less
      · simp [graded, more, Nat.not_le.mpr more]
      · simp [graded, less, Nat.not_lt.mpr less]

/-- A clock second without activity at which the quiet timer runs out closes the episode (R129 to R131). -/
theorem State.trackerSecond_closes {e : Episode} (isOpen : s.tracker.openEpisode = some e) (calm : s.activitySecond = false)
    (runsOut : s.tracker.quietTimer ≤ 1) : s.trackerSecond stamp = s.closedQuiet e stamp := by
  simp only [State.trackerSecond, isOpen, calm, Bool.false_eq_true, if_false, runsOut, if_true]
  rw [State.closeEpisodeRecord_eq, historyAfter_eq_held, maxEWith_eq]
  rfl

end

/-! ### The link timer -/

section
variable {stamp : Stamp} {s : State}

theorem State.linkSecond_stopped (h : s.driver.linkTimer = none) : s.linkSecond stamp = s := by
  simp only [State.linkSecond, h]

theorem State.linkSecond_runs {n : Nat} (h : s.driver.linkTimer = some n) (more : 2 ≤ n) :
    s.linkSecond stamp = s.setDriver { s.driver with linkTimer := some (n - 1) } := by
  simp only [State.linkSecond, h]
  exact if_neg (by omega)

/-- The link timer reaches 0 (R162): LINK_SILENT, and a report where the flag changes. -/
theorem State.linkSecond_last (h : s.driver.linkTimer = some 1) : s.linkSecond stamp =
    { s with
      driver := { s.driver with linkTimer := none, linkSilent := true }
      link := s.made [deviceRecord .linkSilent none stamp]
      handOffs := if s.driver.linkSilent then s.handOffs
        else { s.handOffs with reports := s.handOffs.reports ++ [.linkSilence] } } := by
  simp only [State.linkSecond, h, le_refl, if_true, State.reportIf]
  cases s.driver.linkSilent <;> rfl

@[simp] theorem State.linkSecond_linkTick (stamp : Stamp) (s : State) :
    (s.linkSecond stamp).handOffs.linkTick = s.handOffs.linkTick := by
  simp only [State.linkSecond, State.reportIf]
  (repeat' split) <;> rfl

theorem State.takeLinkTick_of_none (h : s.handOffs.linkTick = none) : s.takeLinkTick = s := by
  simp only [State.takeLinkTick, h]

theorem State.takeLinkTick_of_some (h : s.handOffs.linkTick = some stamp) :
    s.takeLinkTick = (s.setHandOffs { s.handOffs with linkTick := none }).linkSecond stamp := by
  simp only [State.takeLinkTick, h]

theorem State.takeLinkTick_linkTick (s : State) : s.takeLinkTick.handOffs.linkTick = none := by
  cases h : s.handOffs.linkTick with
  | none => rw [State.takeLinkTick_of_none h, h]
  | some stamp => rw [State.takeLinkTick_of_some h]; simp

/-- A clock second that still waits is taken before the next one comes. -/
theorem State.linkClock_takeLinkTick (stamp : Stamp) (s : State) :
    s.takeLinkTick.linkClock stamp = s.linkClock stamp := by
  simp only [State.linkClock, State.takeLinkTick_of_none s.takeLinkTick_linkTick]

section
variable (h : s.handOffs.linkTick = none)
include h

theorem State.linkClock_waits (last : s.driver.linkTimer = some 1) :
    s.linkClock stamp = s.setHandOffs { s.handOffs with linkTick := some stamp } := by
  have silent : s.driver.fallsSilent = true := by simp [ContactDriver.fallsSilent, last]
  simp only [State.linkClock, State.takeLinkTick_of_none h, silent, if_true]

theorem State.linkClock_stopped (stopped : s.driver.linkTimer = none) : s.linkClock stamp = s := by
  have heard : s.driver.fallsSilent = false := by simp [ContactDriver.fallsSilent, stopped]
  simp only [State.linkClock, State.takeLinkTick_of_none h, heard, Bool.false_eq_true, if_false,
    State.linkSecond_stopped stopped]

theorem State.linkClock_runs {n : Nat} (runs : s.driver.linkTimer = some n) (more : 2 ≤ n) :
    s.linkClock stamp = s.setDriver { s.driver with linkTimer := some (n - 1) } := by
  have heard : s.driver.fallsSilent = false := by
    simp only [ContactDriver.fallsSilent, runs, decide_eq_false_iff_not]
    omega
  simp only [State.linkClock, State.takeLinkTick_of_none h, heard, Bool.false_eq_true, if_false,
    State.linkSecond_runs runs more]

end
end

/-! ### The Capture Unit -/

/-- What an entry whose clock second still waits does before another is made (R146). -/
def State.missEntry (u : State) (e : PendingEntry) : State :=
  match e.expiry with
  | some stamp => u.missCapture e.channel stamp
  | none => u

section
variable {s : State} {stamp : Stamp}

theorem State.missOverdue_eq (s : State) : s.missOverdue = s.capture.waiting.foldl State.missEntry s := rfl

theorem State.missEntry_of_none {e : PendingEntry} (h : e.expiry = none) (u : State) : u.missEntry e = u := by
  simp only [State.missEntry, h]

theorem State.missEntry_of_some {e : PendingEntry} (h : e.expiry = some stamp) (u : State) :
    u.missEntry e = u.missCapture e.channel stamp := by
  simp only [State.missEntry, h]

theorem State.foldl_missEntry_of_none {l : List PendingEntry} (h : ∀ e ∈ l, e.expiry = none) (u : State) :
    l.foldl State.missEntry u = u := by
  induction l with
  | nil => rfl
  | cons e l ih =>
    rw [List.foldl_cons, State.missEntry_of_none (h e List.mem_cons_self)]
    exact ih fun f hf => h f (List.mem_cons_of_mem e hf)

/-- An entry counts up to its 59th second; the 60th waits (R146). -/
theorem PendingEntry.tick_eq (stamp : Stamp) (e : PendingEntry) :
    e.tick stamp = if e.wait < 59 then { e with wait := e.wait + 1 } else { e with expiry := some stamp } := by
  unfold PendingEntry.tick
  rcases Nat.lt_or_ge e.wait 59 with short | long
  · rw [if_neg (by omega), if_pos short]
  · rw [if_pos (by omega), if_neg (Nat.not_lt.mpr long)]

theorem State.captureSecond_counts (h : ∀ e ∈ s.capture.waiting, e.expiry = none) : s.captureSecond stamp =
    s.setCapture { s.capture with waiting := s.capture.waiting.map fun e =>
      if e.wait < 59 then { e with wait := e.wait + 1 } else { e with expiry := some stamp } } := by
  simp only [State.captureSecond, State.missOverdue_eq, State.foldl_missEntry_of_none h,
    funext (PendingEntry.tick_eq stamp)]

section
variable {e : PendingEntry} {before after : List PendingEntry} (held : s.capture.waiting = before ++ e :: after)
  (others : ∀ f ∈ before ++ after, f.channel ≠ e.channel)
include held others

/-- CAPTURE_MISSED takes the entry out (R146, R154). -/
theorem State.missCapture_eq (stamp : Stamp) : s.missCapture e.channel stamp =
    { s with
      capture := { s.capture with waiting := before ++ after }
      link := s.made [transformerRecord e.channel .captureMissed none none stamp s.live[e.channel]] } := by
  have left : (s.capture.waiting.filter fun f => f.channel != e.channel) = before ++ after := by
    have stay : (before ++ after).filter (fun f => f.channel != e.channel) = before ++ after :=
      List.filter_eq_self.mpr (by simpa using others)
    rw [held, ← stay]
    simp
  simp only [State.missCapture, CaptureUnit.dropPending, left]
  rfl

theorem exec_captureMissed (waits : e.expiry = some stamp) :
    exec (.captureMissed e.channel) s = .next (s.missCapture e.channel stamp) := by
  have found : s.capture.entryOf e.channel = some e := by
    rw [CaptureUnit.entryOf, held]
    refine List.find?_eq_some_iff_append.mpr ⟨by simp, before, after, rfl, fun f hf => ?_⟩
    simpa using others f (List.mem_append_left after hf)
  show execCaptureMissed e.channel s = _
  simp only [execCaptureMissed, found, Option.bind_some, waits]

/-- The first entry whose clock second still waits takes it as its own row would, and then the others take theirs. -/
theorem State.captureSecond_missCapture (first : ∀ f ∈ before, f.expiry = none) (waits : e.expiry = some stamp)
    (next : Stamp) : (s.missCapture e.channel stamp).captureSecond next = s.captureSecond next := by
  have left : (s.missCapture e.channel stamp).capture.waiting = before ++ after := by
    rw [State.missCapture_eq held others stamp]
  have same : (s.missCapture e.channel stamp).missOverdue = s.missOverdue := by
    rw [State.missOverdue_eq, State.missOverdue_eq, left, held, List.foldl_append, List.foldl_append, List.foldl_cons,
      State.foldl_missEntry_of_none first, State.foldl_missEntry_of_none first, State.missEntry_of_some waits]
  simp only [State.captureSecond, same]

end
end

end Sys2Proof.Machine
end

section
/-! When each block takes a clock second, and what the rows of those that wait bring about (assumption 6; R64, R65, R125,
R129 to R131, R146, R154, R162). -/

namespace Sys2Proof.Machine

section
variable {stamp : Stamp} {s : State}

/-! ### Once a row has taken its clock second -/

theorem trackerFollows_settleTracker (s : State) : TrackerFollows s s.settleTracker where
  stays := by
    intro h
    by_cases waits : s.trackerWaits = true ∨ s.opensAhead = true
    · exact if_pos (Bool.or_eq_true _ _ ▸ waits)
    · obtain ⟨ready, behind⟩ := not_or.mp waits
      have none_waits : s.handOffs.trackerTick = none := by
        rcases h with none_waits | record | field | closes | ahead
        · exact none_waits
        · exact absurd (State.trackerWaits_iff.mpr (.inr (.inl record))) ready
        · exact absurd (State.trackerWaits_iff.mpr (.inr (.inr field))) ready
        · exact absurd (State.trackerWaits_iff.mpr (.inl closes)) ready
        · exact absurd (State.opensAhead_iff.mpr ahead) behind
      rw [State.settleTracker, State.takeTrackerTick_of_none none_waits, ite_self]
  takes := by
    intro stamp waits record field closes ahead
    have ready : ¬ (s.trackerWaits || s.opensAhead) = true := by
      rw [Bool.or_eq_true, State.trackerWaits_iff, State.opensAhead_iff]
      rintro ((quiet | stands | estimator) | opens)
      exacts [closes quiet, record stands, estimator field, ahead opens]
    rw [State.settleTracker, if_neg ready, State.takeTrackerTick_of_some waits]
    rfl

theorem State.settleClock_of_fieldWaits (h : LosesGrade s ∨ RecordWaits s) : s.settleClock = s.settleTracker := by
  rw [State.settleClock, if_pos (State.fieldWaits_iff.mpr h)]

theorem State.settleClock_of_fieldTick_none (h : s.handOffs.fieldTick = none) : s.settleClock = s.settleTracker := by
  rw [State.settleClock, State.takeFieldTick_of_none h, ite_self]

theorem State.settleClock_of_some (h : s.handOffs.fieldTick = some stamp) (record : ¬ RecordWaits s)
    (keeps : ¬ LosesGrade s) : s.settleClock =
      State.settleTracker { s with
        field := { s.field with age := min 65535 (s.field.age + 1) }
        handOffs := { s.handOffs with fieldTick := none } } := by
  have ready : ¬ s.fieldWaits = true := fun waits => (State.fieldWaits_iff.mp waits).elim keeps record
  rw [State.settleClock, if_neg ready, State.takeFieldTick_of_some h, State.fieldSecond_ages (by exact keeps)]
  rfl

/-! ### The rows -/

theorem exec_fieldNone (h : s.handOffs.fieldTick = some stamp) :
    exec .fieldNone s = .next s.takeFieldTick.settleTracker := by
  show execFieldNone s = _
  rw [execFieldNone, h, State.settleClock_of_fieldTick_none s.takeFieldTick_fieldTick]
  rfl

theorem exec_episodeQuietClose (h : s.handOffs.trackerTick = some stamp) : exec .episodeQuietClose s =
    .next (State.trackerSecond stamp { s with handOffs := { s.handOffs with trackerTick := none } }) := by
  show Host.Outcome.next s.takeTrackerTick = _
  rw [State.takeTrackerTick_of_some h]
  rfl

theorem exec_linkSilent (s : State) : exec .linkSilent s = .next s.takeLinkTick := rfl

end

/-- Settles O37: each block's clock by whether one still waits and whether this one would bring about a row of its own, then the
rows. -/
theorem waitingClockSeconds : Obligations.WaitingClockSeconds := by
  refine ⟨fun stamp s => ⟨?_, fun i => ?_, ?_, ?_, ?_, ?_, ?_⟩, fun s => ⟨fun h => ?_, fun stamp h record keeps => ?_⟩,
    fun stamp s => ⟨fun h => ?_, fun h => ?_, ?_, fun h => ?_⟩⟩
  · rw [← allSixteen_eq]
    rfl
  · intro standsIn tick
    refine ⟨State.recordClock_waits, State.recordClock_takes, fun earlier h => ?_⟩
    rw [← State.recordClock_takeRecordTick, State.takeRecordTick_of_some h]
    rfl
  · intro tick aged
    refine ⟨State.fieldClock_waits, State.fieldClock_takes, fun earlier h => ?_, State.fieldSecond_ages,
      State.fieldSecond_losesGrade⟩
    rw [← State.fieldClock_takeFieldTick, State.takeFieldTick_of_some h]
    rfl
  · intro tick waits
    refine ⟨State.trackerClock_waits, State.trackerClock_takes, fun earlier h => ?_⟩
    rw [← State.trackerClock_takeTrackerTick, State.takeTrackerTick_of_some h]
    rfl
  · exact ⟨State.linkClock_waits, State.linkClock_stopped, fun n idle runs more => State.linkClock_runs idle runs more,
      fun _ => ⟨_, exec_linkSilent s, (State.linkClock_takeLinkTick stamp s).symm⟩⟩
  · exact State.captureSecond_counts
  · intro e before after held others first waits
    obtain ⟨earlier, waits⟩ := Option.ne_none_iff_exists'.mp waits
    exact ⟨_, exec_captureMissed held others waits, (State.captureSecond_missCapture held others first waits stamp).symm⟩
  · have settles : s.settleClock = s.settleTracker := by
      rcases h with record | idle | loses
      · exact State.settleClock_of_fieldWaits (.inr record)
      · exact State.settleClock_of_fieldTick_none idle
      · exact State.settleClock_of_fieldWaits (.inl loses)
    rw [settles]
    exact trackerFollows_settleTracker s
  · rw [State.settleClock_of_some h record keeps]
    exact trackerFollows_settleTracker _
  · have row := exec_fieldNone h
    rw [State.takeFieldTick_of_some h] at row
    refine ⟨fun loses => ⟨_, row, ?_⟩, fun keeps => ⟨_, row, ?_⟩⟩
    · rw [State.fieldSecond_losesGrade (by exact loses)]
      exact trackerFollows_settleTracker _
    · rw [State.fieldSecond_ages (by exact keeps)]
      exact trackerFollows_settleTracker _
  · refine ⟨exec_episodeQuietClose h, fun e isOpen calm runsOut => ?_⟩
    rw [exec_episodeQuietClose h, State.trackerSecond_closes (by exact isOpen) (by exact calm) (by exact runsOut)]
  · intro e before after held others waits
    rw [exec_captureMissed held others waits, State.missCapture_eq held others stamp]
  · intro taken
    rw [exec_linkSilent, State.takeLinkTick_of_some h]
    refine ⟨fun last => ?_, fun stopped => ?_, fun n runs more => ?_⟩
    · rw [State.linkSecond_last (by exact last)]
      rfl
    · rw [State.linkSecond_stopped (by exact stopped)]
      rfl
    · rw [State.linkSecond_runs (by exact runs) more]
      rfl

end Sys2Proof.Machine
end

section
/-! SUPPORT. Stage 1 of an evaluation, one rule per step: P (R75, R76), the class of the second (R77, R78), the runs and DOUBT
(R79, R80), LOST (R81, R82), the basis (R84) and the transitions (R83). -/

namespace Sys2Proof.Machine

/-! ### P -/

theorem ConverterState.isLocked_iff {v : ConverterState} : v.isLocked = true ↔ ∃ r, v = .locked r := by
  cases v <;> simp [ConverterState.isLocked]

/-- P is valid exactly where converter 4 is LOCKED, E age is 3 or less and E has a quality (R75). -/
theorem State.fieldView_valid_iff {s : State} : s.fieldView.valid = true ↔
    (∃ r, s.intake.converters[(4 : Fin 5)].state = .locked r) ∧ s.field.age ≤ 3 ∧ s.field.latest.quality ≠ .none := by
  rw [← ConverterState.isLocked_iff]
  simp only [State.fieldView, Bool.and_eq_true, decide_eq_true_iff, bne_iff_ne, and_assoc]
  rfl

theorem State.fieldView_good_iff {s : State} : s.fieldView.good = true ↔ s.field.latest.quality = .good := by
  simp only [State.fieldView, beq_iff_eq]

section
variable {cfg : Settings} {v : FieldView}

theorem predictionOf_of_valid (h : v.valid = true) : predictionOf cfg v = some (predict cfg v.north v.east) := if_pos h

theorem predictionOf_of_invalid (h : ¬ v.valid = true) : predictionOf cfg v = none := if_neg h

end

/-! ### The class of the second -/

/-- A measured second that counts for the cross-check (R78). -/
structure Qualifies (cfg : Settings) (v : FieldView) (h : SecondHandOff) : Prop where
  checked : cfg.checkMode ≠ .off
  valid : v.valid = true
  field : v.good = true
  quality : h.quality = .good ∨ h.quality = .filled

theorem qualifies_fieldView_iff {cfg : Settings} {s : State} {h : SecondHandOff} : Qualifies cfg s.fieldView h ↔
    cfg.checkMode ≠ .off ∧
      ((∃ r, s.intake.converters[(4 : Fin 5)].state = .locked r) ∧ s.field.age ≤ 3 ∧ s.field.latest.quality ≠ .none) ∧
      s.field.latest.quality = .good ∧ (h.quality = .good ∨ h.quality = .filled) := by
  rw [← State.fieldView_valid_iff, ← State.fieldView_good_iff]
  exact ⟨fun ⟨checked, valid, field, quality⟩ => ⟨checked, valid, field, quality⟩,
    fun ⟨checked, valid, field, quality⟩ => ⟨checked, valid, field, quality⟩⟩

section
variable {cfg : Settings} {v : FieldView} {h : SecondHandOff}

/-- A qualifying second is judged by the band around P (R77). -/
theorem Qualifies.classify_eq (q : Qualifies cfg v h) : classify cfg v (predictionOf cfg v) (some h) =
    if (h.m - predict cfg v.north v.east).natAbs ≤ bandWidth cfg (predict cfg v.north v.east)
    then .inside else .outside := by
  have counts : (cfg.checkMode != .off && v.good && (h.quality == .good || h.quality == .filled)) = true := by
    simp [q.checked, q.field, q.quality]
  rw [predictionOf_of_valid q.valid]
  simp only [classify, counts, if_true]

theorem classify_of_not_qualifies {ev : Option SecondHandOff} (none_qualifies : ∀ h, ev = some h → ¬ Qualifies cfg v h) :
    classify cfg v (predictionOf cfg v) ev = .notQualifying := by
  cases ev with
  | none => rfl
  | some h =>
    by_cases valid : v.valid = true
    · have fails : ¬ (cfg.checkMode != .off && v.good && (h.quality == .good || h.quality == .filled)) = true := by
        intro counts
        simp only [Bool.and_eq_true, Bool.or_eq_true, bne_iff_ne, beq_iff_eq] at counts
        obtain ⟨⟨checked, field⟩, quality⟩ := counts
        exact none_qualifies h rfl ⟨checked, valid, field, quality⟩
      rw [predictionOf_of_valid valid]
      simp only [classify, if_neg fails]
    · rw [predictionOf_of_invalid valid]
      rfl

end

/-! ### The runs and DOUBT -/

section
variable {cfg : Settings} {l : Live}

theorem updateDoubt_off (off : cfg.checkMode = .off) (c : SecondClass) :
    updateDoubt cfg c l = { l with outsideRun := 0, insideRun := 0, doubt := false } := if_pos off

theorem updateDoubt_outside (on : cfg.checkMode ≠ .off) : updateDoubt cfg .outside l =
    { l with
      outsideRun := min 3600 (l.outsideRun + 1)
      insideRun := 0
      doubt := l.doubt || cfg.doubtD ≤ min 3600 (l.outsideRun + 1) } := if_neg on

theorem updateDoubt_inside (on : cfg.checkMode ≠ .off) : updateDoubt cfg .inside l =
    { l with
      outsideRun := 0
      insideRun := min 3600 (l.insideRun + 1)
      doubt := l.doubt && !(cfg.doubtD ≤ min 3600 (l.insideRun + 1) : Bool) } := if_neg on

theorem updateDoubt_notQualifying (on : cfg.checkMode ≠ .off) : updateDoubt cfg .notQualifying l = l := if_neg on

/-- The cross-check settles the runs and DOUBT alone. -/
theorem updateDoubt_eq (cfg : Settings) (c : SecondClass) (l : Live) : updateDoubt cfg c l =
    { l with
      outsideRun := (updateDoubt cfg c l).outsideRun
      insideRun := (updateDoubt cfg c l).insideRun
      doubt := (updateDoubt cfg c l).doubt } := by
  by_cases off : cfg.checkMode = .off
  · rw [updateDoubt_off off]
  · cases c with
    | inside => rw [updateDoubt_inside off]
    | outside => rw [updateDoubt_outside off]
    | notQualifying => rw [updateDoubt_notQualifying off]

end

/-! ### LOST and the basis -/

theorem lostAfter_iff {ev : Option SecondHandOff} : lostAfter ev = true ↔ ∀ h, ev = some h → h.quality = .fault := by
  cases ev <;> simp [lostAfter]

section
variable {cfg : Settings} {p : Option Int} {doubtOrLost : Bool} {ev : Option SecondHandOff}

/-- The first row: the prediction stands for a doubted or lost measurement in GUARD. -/
theorem chooseBasis_guarded {q : Int} (guard : cfg.checkMode = .guard) (h : doubtOrLost = true) :
    chooseBasis cfg (some q) doubtOrLost ev = some q.natAbs := by
  simp only [chooseBasis, if_pos (And.intro guard h)]

/-- Past the first row P has no part in the basis. -/
theorem chooseBasis_unguarded (h : ¬ (cfg.checkMode = .guard ∧ p ≠ none ∧ doubtOrLost = true)) :
    chooseBasis cfg p doubtOrLost ev = chooseBasis cfg none doubtOrLost ev := by
  cases p with
  | none => rfl
  | some q =>
    have skips : ¬ (cfg.checkMode = .guard ∧ doubtOrLost = true) := fun ⟨guard, stands⟩ =>
      h ⟨guard, Option.some_ne_none q, stands⟩
    simp only [chooseBasis, if_neg skips]

/-- With no prediction in use the basis goes by the second's quality. -/
theorem chooseBasis_none : chooseBasis cfg none doubtOrLost ev = ev.bind fun h =>
    if h.quality = .fault then none else if h.quality = .clipped then some h.fullScale else some h.m.natAbs := by
  cases ev with
  | none => simp only [chooseBasis, ite_self, Option.bind_none]
  | some h =>
    simp only [chooseBasis, ite_self, Option.bind_some]
    cases h.quality <;> rfl

end

/-! ### Stage 1 as a whole -/

section
variable (cfg : Settings) (v : FieldView) (ev : Option SecondHandOff) (l : Live)

theorem basisSelection_predicted : (basisSelection cfg v ev l).predicted = predictionOf cfg v := rfl

theorem basisSelection_lost : (basisSelection cfg v ev l).lost = lostAfter ev := rfl

/-- The basis is chosen by what the steps before it left (R83). -/
theorem basisSelection_basis : (basisSelection cfg v ev l).basis =
    chooseBasis cfg (basisSelection cfg v ev l).predicted
      ((basisSelection cfg v ev l).doubt || (basisSelection cfg v ev l).lost) ev := rfl

/-- The runs and DOUBT as the cross-check leaves them in `k`. -/
theorem basisSelection_runs {cfg : Settings} {v : FieldView} {ev : Option SecondHandOff} {l k : Live}
    (h : updateDoubt cfg (classify cfg v (predictionOf cfg v) ev) l = k) :
    (basisSelection cfg v ev l).outsideRun = k.outsideRun ∧ (basisSelection cfg v ev l).insideRun = k.insideRun ∧
      (basisSelection cfg v ev l).doubt = k.doubt := by
  subst h
  exact ⟨rfl, rfl, rfl⟩

/-- Stage 1 settles the runs, DOUBT, LOST, P and X alone. -/
theorem basisSelection_eq : basisSelection cfg v ev l =
    { l with
      outsideRun := (basisSelection cfg v ev l).outsideRun, insideRun := (basisSelection cfg v ev l).insideRun
      doubt := (basisSelection cfg v ev l).doubt, lost := (basisSelection cfg v ev l).lost
      predicted := (basisSelection cfg v ev l).predicted, basis := (basisSelection cfg v ev l).basis } := by
  conv_lhs => rw [basisSelection, updateDoubt_eq]
  rfl

end

section
variable {cfg : Settings} {v : FieldView} {h : SecondHandOff} {l : Live}

/-- An outside second: the outside-run counts, and DOUBT is set at D (R79). -/
theorem Qualifies.basisSelection_outside (q : Qualifies cfg v h)
    (far : bandWidth cfg (predict cfg v.north v.east) < (h.m - predict cfg v.north v.east).natAbs) :
    let n := basisSelection cfg v (some h) l
    n.outsideRun = min 3600 (l.outsideRun + 1) ∧ n.insideRun = 0 ∧
      (n.doubt = true ↔ l.doubt = true ∨ cfg.doubtD ≤ n.outsideRun) := by
  have outside : classify cfg v (predictionOf cfg v) (some h) = .outside := by
    rw [q.classify_eq, if_neg (Nat.not_le.mpr far)]
  obtain ⟨out, ins, doubt⟩ := basisSelection_runs (outside ▸ updateDoubt_outside (l := l) q.checked)
  refine ⟨out, ins, ?_⟩
  rw [doubt, out]
  simp only [Bool.or_eq_true, decide_eq_true_iff]

/-- An inside second: the inside-run counts, and DOUBT is cleared at D (R79). -/
theorem Qualifies.basisSelection_inside (q : Qualifies cfg v h)
    (near : (h.m - predict cfg v.north v.east).natAbs ≤ bandWidth cfg (predict cfg v.north v.east)) :
    let n := basisSelection cfg v (some h) l
    n.insideRun = min 3600 (l.insideRun + 1) ∧ n.outsideRun = 0 ∧
      (n.doubt = true ↔ l.doubt = true ∧ n.insideRun < cfg.doubtD) := by
  have inside : classify cfg v (predictionOf cfg v) (some h) = .inside := by rw [q.classify_eq, if_pos near]
  obtain ⟨out, ins, doubt⟩ := basisSelection_runs (inside ▸ updateDoubt_inside (l := l) q.checked)
  refine ⟨ins, out, ?_⟩
  rw [doubt, ins]
  simp only [Bool.and_eq_true, Bool.not_eq_true', decide_eq_false_iff_not, Nat.not_le]

end

/-! ### The transitions -/

section
variable (before after : Live)

/-- DOUBT makes a transition exactly where it changes (R79, R80). -/
theorem doubtKinds_eq : doubtKinds before after =
    if before.doubt = false ∧ after.doubt = true then [.doubtOn]
    else if before.doubt = true ∧ after.doubt = false then [.doubtOff] else [] := by
  unfold doubtKinds
  cases before.doubt <;> cases after.doubt <;> rfl

/-- LOST makes a transition exactly where it changes (R81, R82). -/
theorem lostKinds_eq : lostKinds before after =
    if before.lost = false ∧ after.lost = true then [.lostOn]
    else if before.lost = true ∧ after.lost = false then [.lostOff] else [] := by
  unfold lostKinds
  cases before.lost <;> cases after.lost <;> rfl

end

end Sys2Proof.Machine
end

section
/-! Basis selection: P, the runs, DOUBT and LOST with their transitions (R75 to R83), and the table of the basis (R84). -/

namespace Sys2Proof.Machine

/-- Settles O28: P by its validity, the runs and DOUBT by the class of the second, LOST by its quality, then the frame and the
order of the transitions. -/
theorem predictionRunsAndDoubt : Obligations.PredictionRunsAndDoubt := by
  refine ⟨fun cfg s ev l => ?_, fun before after => ?_⟩
  · intro n e valid p width qualifies
    have valid_iff : s.fieldView.valid = true ↔ valid := State.fieldView_valid_iff
    have qualifies_iff {h : SecondHandOff} : Qualifies cfg s.fieldView h ↔ qualifies h := qualifies_fieldView_iff
    have formed : n.predicted = predictionOf cfg s.fieldView := basisSelection_predicted cfg s.fieldView ev l
    have lost : n.lost = lostAfter ev := basisSelection_lost cfg s.fieldView ev l
    refine ⟨fun h => formed.trans (predictionOf_of_valid (valid_iff.mpr h)),
      fun h => formed.trans (predictionOf_of_invalid (mt valid_iff.mp h)), lost ▸ lostAfter_iff,
      fun off => basisSelection_runs (updateDoubt_off off _), ?_, fun on others => ?_, basisSelection_eq cfg s.fieldView ev l⟩
    · rintro h rfl counts
      have judged := qualifies_iff.mpr counts
      exact ⟨fun far => judged.basisSelection_outside far, fun near => judged.basisSelection_inside near⟩
    · have apart := classify_of_not_qualifies fun h second => mt qualifies_iff.mp (others h second)
      exact basisSelection_runs (apart ▸ updateDoubt_notQualifying on)
  · intro doubt lost
    have doubt_eq : doubtKinds before after = doubt := doubtKinds_eq before after
    have lost_eq : lostKinds before after = lost := lostKinds_eq before after
    exact ⟨congrArg₂ _ lost_eq doubt_eq, fun _ => congrArg₂ _ doubt_eq lost_eq⟩

/-- Settles O29: the first row where GUARD has a prediction for a doubted or lost measurement, else the row of the second's
quality; each row's value has its bound. -/
theorem basisByTable : Obligations.BasisByTable := by
  intro cfg v ev l n guarded
  have chosen : n.basis = chooseBasis cfg n.predicted (n.doubt || n.lost) ev := basisSelection_basis cfg v ev l
  refine ⟨fun ⟨guard, _, stands⟩ p formed => ?_, fun skips => ?_, fun bounded X h => ?_⟩
  · rw [chosen, formed, chooseBasis_guarded guard (Bool.or_eq_true _ _ ▸ stands)]
  · rw [chosen, chooseBasis_unguarded (by rwa [Bool.or_eq_true]), chooseBasis_none]
    refine ⟨?_, ?_, ?_, ?_⟩
    · rintro h rfl (quality | quality | quality) <;> simp [quality]
    · rintro h rfl quality
      simp [quality]
    · rintro h rfl quality
      simp [quality]
    · rintro rfl
      rfl
  · rw [chosen] at h
    have formed : n.predicted = predictionOf cfg v := basisSelection_predicted cfg v ev l
    exact chooseBasis_le (fun _ p => predictionOf_le (formed ▸ p))
      (fun g second => ⟨(bounded g second).1, (bounded g second).2⟩) h

end Sys2Proof.Machine
end

section
/-! SUPPORT. The steady-rise curve (R90), and the step of T towards its steady value (R92). -/

namespace Sys2Proof.Machine

/-! ### The steady-rise curve -/

/-- Part way along a segment, the rounded share of its rise is no more than the whole. -/
theorem roundDivNat_mul_le {n d : Nat} (h : n ≤ d) (hd : 0 < d) (rise : Nat) : roundDivNat (n * rise) d ≤ rise := by
  have share : ((n * rise : Nat) : Int).natAbs ≤ rise * d := by
    rw [Int.natAbs_natCast, Nat.mul_comm rise]
    exact Nat.mul_le_mul_right rise h
  have bounded := natAbs_roundDiv_le hd share
  rwa [roundDiv_natCast _ hd, Int.natAbs_natCast] at bounded

/-- A curve is read from the last point that the basis has reached on (R90). -/
theorem steadyFrom_of_reached {X : Nat} (points : List Breakpoint) (x r : Nat) {k : Nat} (hk : k < points.length)
    (reached : ∀ j (hj : j ≤ k), points[j].x ≤ X) :
    steadyFrom x r X points = steadyFrom points[k].x points[k].r X (points.drop (k + 1)) := by
  induction points generalizing x r k with
  | nil => cases hk
  | cons b rest ih =>
    have first : b.x ≤ X := reached 0 (Nat.zero_le k)
    rw [steadyFrom, if_neg (Nat.not_lt.mpr first)]
    cases k with
    | zero => rfl
    | succ m => exact ih b.x b.r (Nat.lt_of_succ_lt_succ hk) fun j hj => reached (j + 1) (Nat.succ_le_succ hj)

section
variable {points : Vector Breakpoint 8} {X : Nat}

/-- The first row of R90: a straight line through the origin. -/
theorem steadyValue_of_lt_first (h : X < points[0].x) :
    steadyValue points X = roundDivNat (X * points[0].r) points[0].x := by
  have curve : points.toList = points[0] :: points.toList.drop 1 :=
    List.drop_eq_getElem_cons (l := points.toList) (i := 0) (by simp)
  rw [steadyValue, curve, steadyFrom, if_pos h, Nat.zero_add]
  rfl

/-- The second row of R90: a straight line from the last point reached to the next. -/
theorem steadyValue_of_segment {k : Nat} (hk : k + 1 < 8) (reached : ∀ j (hj : j ≤ k), points[j].x ≤ X)
    (h : X < points[k + 1].x) :
    steadyValue points X = points[k].r +
      roundDivNat ((X - points[k].x) * (points[k + 1].r - points[k].r)) (points[k + 1].x - points[k].x) := by
  have next : points.toList.drop (k + 1) = points[k + 1] :: points.toList.drop (k + 2) :=
    List.drop_eq_getElem_cons (by simpa using hk)
  rw [steadyValue, steadyFrom_of_reached points.toList 0 0 (k := k) (by simp; omega) reached, next, steadyFrom]
  exact if_pos h

/-- The third row of R90: the rise of the last point. -/
theorem steadyValue_of_last (reached : ∀ j (hj : j ≤ 7), points[j].x ≤ X) : steadyValue points X = points[7].r := by
  have ended : points.toList.drop 8 = [] := List.drop_eq_nil_of_le (by simp)
  rw [steadyValue, steadyFrom_of_reached points.toList 0 0 (k := 7) (by simp) reached, ended]
  rfl

/-- No basis heats beyond the highest rise of the curve. -/
theorem steadyValue_le_of_forall {M : Nat} (h : ∀ j : Fin 8, points[j].r ≤ M) (X : Nat) : steadyValue points X ≤ M := by
  refine steadyFrom_le X _ (fun b hb => ?_) 0 (Nat.zero_le M)
  obtain ⟨j, hj, rfl⟩ := List.getElem_of_mem hb
  exact h ⟨j, by simpa using hj⟩

end

/-! ### The step of T -/

theorem heatStep_of_ne {d : Int} {tau : Nat} (h : roundDiv d tau ≠ 0) : heatStep d tau = roundDiv d tau := if_neg h

/-- A quotient that rounds to 0 gives the least step there is towards S, or none where T is S. -/
theorem heatStep_of_eq_zero {d : Int} {tau : Nat} (h : roundDiv d tau = 0) : heatStep d tau = d.sign := if_pos h

/-- T takes its whole step: it never meets the floor at 0. -/
theorem heatTowards_eq (cfg : Settings) (heat steady : Nat) :
    let d : Int := (steady : Int) - heat
    (heatTowards cfg heat steady : Int) = heat + heatStep d (if 0 < d then cfg.tauHeat else cfg.tauCool) := by
  intro d
  have towards := (heatStep_between d (if 0 < d then cfg.tauHeat else cfg.tauCool)).1
  have kept : 0 ≤ (heat : Int) + heatStep d (if 0 < d then cfg.tauHeat else cfg.tauCool) := by omega
  exact Int.toNat_of_nonneg kept

end Sys2Proof.Machine
end

section
/-! SUPPORT. The levels that stage 3 compares (R98 to R103), and the transitions and trigger it hands on (R111 to R120). -/

namespace Sys2Proof.Machine

/-! ### The highest level that holds -/

section
variable (cfg : Settings) (X heat : Nat)

theorem onCondition_iff {l : Level} :
    onCondition cfg X heat l = true ↔ onThreshold cfg l ≤ X ∨ thermalOn cfg heat l = true := by
  simp only [onCondition, Bool.or_eq_true, decide_eq_true_iff]

/-- A threshold less its hysteresis, floored at 0, is met where the value plus the hysteresis meets the threshold. -/
theorem holdCondition_iff {l : Level} :
    holdCondition cfg X heat l = true ↔ onThreshold cfg l ≤ X + cfg.hyst ∨ thermalHold cfg heat l = true := by
  simp only [holdCondition, Bool.or_eq_true, decide_eq_true_iff, Nat.sub_le_iff_le_add]

/-- The candidate by current and by heat (R102); WATCH has no thermal condition (R98). -/
theorem candidate_some : candidate cfg (some X) heat =
    if cfg.iAlarm ≤ X ∨ cfg.tAlarm ≤ heat then .alarm
    else if cfg.iWarn ≤ X ∨ cfg.tWarn ≤ heat then .warn else if cfg.iWatch ≤ X then .watch else .normal := by
  simp only [candidate, highestLevel, onCondition_iff, onThreshold, thermalOn, decide_eq_true_iff, Bool.false_eq_true,
    or_false]

/-- With no basis the candidate goes by heat alone (R109). -/
theorem candidate_none :
    candidate cfg none heat = if cfg.tAlarm ≤ heat then .alarm else if cfg.tWarn ≤ heat then .warn else .normal := by
  simp only [candidate, highestLevel, thermalOn, decide_eq_true_iff, Bool.false_eq_true, if_false]

/-- The fall target by current and by heat (R98, R103). -/
theorem fallTarget_eq : fallTarget cfg X heat =
    if cfg.iAlarm ≤ X + cfg.hyst ∨ cfg.tAlarm ≤ heat + cfg.tHys then .alarm
    else if cfg.iWarn ≤ X + cfg.hyst ∨ cfg.tWarn ≤ heat + cfg.tHys then .warn
    else if cfg.iWatch ≤ X + cfg.hyst then .watch else .normal := by
  simp only [fallTarget, highestLevel, holdCondition_iff, onThreshold, thermalHold, decide_eq_true_iff, Bool.false_eq_true,
    or_false, Nat.sub_le_iff_le_add]

end

/-! ### Transitions and trigger -/

/-- A running reminder count comes to 0 exactly from 1 (R115). -/
theorem remind_emits_iff {cfg : Settings} {count : Nat} :
    (remind cfg count).2 = true ↔ cfg.reminder ≠ 0 ∧ count = 1 := by
  unfold remind
  split
  · simp [*]
  · split
    · simp [*]
    · split <;> simp [*]

theorem staysAtAlarm_iff {before after : Live} :
    staysAtAlarm before after = true ↔ before.level = .alarm ∧ after.level = .alarm := by
  simp only [staysAtAlarm, Bool.and_eq_true, beq_iff_eq]

/-- ALARM is the highest level (R101). -/
theorem alarm_rank_le_iff {l : Level} : Level.rank .alarm ≤ l.rank ↔ l = .alarm := by
  cases l <;> decide

section
variable {cfg : Settings} {before after : Live}

theorem stageThreeEvents_of_rise (h : before.level.rank < after.level.rank) :
    stageThreeEvents cfg before after = [(.levelUp, some (before.level, after.level))] := if_pos h

theorem stageThreeEvents_of_fall (h : after.level.rank < before.level.rank) :
    stageThreeEvents cfg before after = [(.levelDown, some (before.level, after.level))] := by
  rw [stageThreeEvents, if_neg (Nat.lt_asymm h), if_pos h]

/-- With no change of level there is a REMINDER at most (R111, R115). -/
theorem stageThreeEvents_of_same (h : before.level = after.level) : stageThreeEvents cfg before after =
    if before.level = .alarm ∧ cfg.reminder ≠ 0 ∧ before.reminderCount = 1 then [(.reminder, none)] else [] := by
  simp only [stageThreeEvents, h, Nat.lt_irrefl, if_false, Bool.and_eq_true, staysAtAlarm_iff, and_self, remind_emits_iff]

/-- A raise triggers a capture where the new level is at or above a capture level that is set (R120). -/
theorem raiseTriggers_iff : raiseTriggers cfg before after = true ↔ before.level.rank < after.level.rank ∧
    (cfg.captureLevel = .warn ∧ Level.rank .warn ≤ after.level.rank ∨
      cfg.captureLevel = .alarm ∧ after.level = .alarm) := by
  unfold raiseTriggers
  cases cfg.captureLevel with
  | none => simp
  | warn => simp
  | alarm => simp [alarm_rank_le_iff]

end

end Sys2Proof.Machine
end

section
/-! The heating estimate (R90 to R92), and the candidate, fall target and transitions of the level evaluation (R98 to R120). -/

namespace Sys2Proof.Machine

/-- Settles O30: each row of R90 by the points reached, and what lies between two rises by the rounded share. -/
theorem steadyValueOfCurve : Obligations.SteadyValueOfCurve := by
  intro points X positive ordered
  have rises_le {j k : Fin 8} (h : j ≤ k) : points[j].r ≤ points[k].r := by
    rcases h.lt_or_eq with below | rfl
    · exact (ordered j k below).2
    · exact Nat.le_refl _
  have reached {k : Fin 8} (h : points[k].x ≤ X) (j : Nat) (hj : j ≤ k.val) : points[j].x ≤ X := by
    rcases Nat.lt_or_eq_of_le hj with below | rfl
    · exact (ordered ⟨j, by omega⟩ k below).1.le.trans h
    · exact h
  refine ⟨fun below => ?_, ?_, fun k low high => ?_, fun beyond => ?_, ?_⟩
  · have line := steadyValue_of_lt_first below
    exact ⟨line, line ▸ roundDivNat_mul_le below.le positive _⟩
  · rw [steadyValue_of_lt_first positive, roundDivNat, Nat.zero_mul, Nat.mul_zero, Nat.zero_add]
    exact Nat.div_eq_of_lt (by omega)
  · have line := steadyValue_of_segment (k := k.val) (by omega) (reached (k := k.castSucc) low) high
    have rise : points[k.val].r ≤ points[k.val + 1].r := rises_le (j := k.castSucc) (k := k.succ) k.castSucc_lt_succ.le
    have share := roundDivNat_mul_le (Nat.sub_le_sub_right high.le points[k.val].x)
      (Nat.sub_pos_of_lt (low.trans_lt high)) (points[k.val + 1].r - points[k.val].r)
    refine ⟨line, ?_, ?_⟩ <;> omega
  · exact steadyValue_of_last (reached (k := 7) beyond)
  · exact steadyValue_le_of_forall (fun j => rises_le (k := 7) (Fin.le_last j)) X

/-- Settles O31: T takes its whole step, which is the rounded quotient or, where that is 0, the sign of the difference. -/
theorem heatStepsTowardsSteady : Obligations.HeatStepsTowardsSteady := by
  intro cfg l _ _ n d step
  have moved : (n.heat : Int) = l.heat + heatStep d (if 0 < d then cfg.tauHeat else cfg.tauCool) :=
    heatTowards_eq cfg l.heat n.steady
  have least (h : step = 0) : (n.heat : Int) = l.heat + d.sign := by rw [moved, heatStep_of_eq_zero h]
  obtain ⟨above, below⟩ : min l.heat n.steady ≤ n.heat ∧ n.heat ≤ max l.heat n.steady :=
    heatTowards_between cfg l.heat n.steady
  refine ⟨rfl, fun h => ?_, fun h warmer => ?_, fun h cooler => ?_, fun settled => ?_, above, below, rfl, rfl⟩
  · rw [moved, heatStep_of_ne h]
  · have := least h
    rw [Int.sign_eq_one_of_pos warmer] at this
    omega
  · have := least h
    rw [Int.sign_eq_neg_one_of_neg cooler] at this
    omega
  · omega

/-- Settles O32: the highest level whose condition holds, and the transitions by how the level changed. -/
theorem candidatesAndLevelTransitions : Obligations.CandidatesAndLevelTransitions :=
  ⟨fun cfg X heat => ⟨candidate_some cfg X heat, candidate_none cfg heat, fallTarget_eq cfg X heat⟩,
    fun _ _ _ => ⟨stageThreeEvents_of_rise, stageThreeEvents_of_fall, stageThreeEvents_of_same, raiseTriggers_iff⟩⟩

end Sys2Proof.Machine
end

section
/-! SUPPORT. The level evaluation (R104 to R115), one rule per branch of an evaluation and one for its reminder count. -/

namespace Sys2Proof.Machine

/-! ### The level a rise reaches -/

/-- Where the highest level for which `p` holds is above NORMAL, `p` holds for it. -/
theorem highestLevel_holds {p : Level → Bool} (h : highestLevel p ≠ .normal) : p (highestLevel p) = true := by
  unfold highestLevel at h ⊢
  by_cases alarm : p .alarm = true
  · simp [alarm]
  · by_cases warn : p .warn = true
    · simp [alarm, warn]
    · by_cases watch : p .watch = true
      · simp [alarm, warn, watch]
      · exact absurd (by simp [alarm, warn, watch]) h

/-- No level for which `p` holds is above the highest. -/
theorem rank_le_highestLevel {p : Level → Bool} {m : Level} (h : p m = true) : m.rank ≤ (highestLevel p).rank := by
  unfold highestLevel
  cases m with
  | normal => exact Nat.zero_le _
  | watch => cases p .alarm <;> cases p .warn <;> simp [h, Level.rank]
  | warn => cases p .alarm <;> simp [h, Level.rank]
  | alarm => simp [h]

/-- A level above another is WATCH, WARN or ALARM, each with its delay (R105). -/
theorem riseDelay_of_above (cfg : Settings) {lv m : Level} (h : lv.rank < m.rank) :
    riseDelay cfg m = if m = .watch then cfg.dWatch else if m = .warn then cfg.dWarn else cfg.dAlarm := by
  cases m with
  | normal => exact absurd h (Nat.not_lt_zero _)
  | watch => rfl
  | warn => rfl
  | alarm => rfl

section
variable {cfg : Settings} {lv c m : Level} {age : Nat}

/-- A rise leaves the level, or takes it to one above it, up to the candidate and due (R105). -/
theorem raisedLevel_cases : raisedLevel cfg lv c age = lv ∨ lv.rank < (raisedLevel cfg lv c age).rank ∧
    (raisedLevel cfg lv c age).rank ≤ c.rank ∧ riseDelay cfg (raisedLevel cfg lv c age) ≤ age := by
  simp only [raisedLevel]
  split
  case isTrue => exact .inl rfl
  case isFalse above => exact .inr (by simpa [and_assoc] using highestLevel_holds above)

/-- A rise passes over no level that is due (R105). -/
theorem rank_le_raisedLevel (above : lv.rank < m.rank) (upTo : m.rank ≤ c.rank) (due : riseDelay cfg m ≤ age) :
    m.rank ≤ (raisedLevel cfg lv c age).rank := by
  have highest : m.rank ≤ _ := rank_le_highestLevel
    (p := fun m => lv.rank < m.rank && m.rank ≤ c.rank && riseDelay cfg m ≤ age) (by simp [above, upTo, due])
  simp only [raisedLevel]
  split
  case isTrue normal =>
    rw [normal] at highest
    exact absurd (above.trans_le highest) (Nat.not_lt_zero _)
  case isFalse => exact highest

end

/-! ### The branches of an evaluation -/

section
variable {cfg : Settings} {l : Live}

/-- A rise in full: what is owed and the reminder count go by the level only where it changes (R106). -/
theorem riseBranch_eq (c : Level) : riseBranch cfg c l =
    let level := raisedLevel cfg l.level c (satSucc 65535 l.riseAge)
    { l with
      level := level, riseAge := satSucc 65535 l.riseAge, calmAge := 0
      unacknowledged := l.unacknowledged || (level != l.level && level.owed)
      reminderCount := if level ≠ l.level ∧ level = .alarm then cfg.reminder else l.reminderCount } := by
  by_cases same : raisedLevel cfg l.level c (satSucc 65535 l.riseAge) = l.level
  · simp [riseBranch, same]
  · have changes : (raisedLevel cfg l.level c (satSucc 65535 l.riseAge) != l.level) = true := bne_iff_ne.mpr same
    simp [riseBranch, same, changes]

theorem heldByLatch_iff : heldByLatch cfg l = true ↔ cfg.latched = true ∧ l.level = .alarm ∧ l.unacknowledged = true := by
  simp [heldByLatch, and_assoc]

/-- At d_fall and not latched a calm level falls straight to the fall target; else it stands (R107, R108). -/
theorem calmBranch_eq (f : Level) : calmBranch cfg f l =
    if cfg.dFall ≤ min 65535 (l.calmAge + 1) ∧ ¬ (cfg.latched = true ∧ l.level = .alarm ∧ l.unacknowledged = true) then
      { l with
        level := f, riseAge := 0, calmAge := 0, reminderCount := if l.level = .alarm then 0 else l.reminderCount }
    else { l with riseAge := 0, calmAge := min 65535 (l.calmAge + 1) } := by
  simp only [calmBranch, Bool.and_eq_true, decide_eq_true_iff, Bool.not_eq_true', ← Bool.not_eq_true, heldByLatch_iff]
  rfl

theorem levelBranch_of_rise (h : l.level.rank < (candidate cfg l.basis l.heat).rank) :
    levelBranch cfg l = riseBranch cfg (candidate cfg l.basis l.heat) l := if_pos h

theorem levelBranch_of_noBasis (h : (candidate cfg l.basis l.heat).rank ≤ l.level.rank) (basis : l.basis = none) :
    levelBranch cfg l = l := by
  simp only [levelBranch, if_neg h.not_gt]
  simp only [basis]

/-- An evaluation with a basis that does not raise the level is calm or steady (R104). -/
theorem levelBranch_of_basis {X : Nat} (h : (candidate cfg l.basis l.heat).rank ≤ l.level.rank) (basis : l.basis = some X) :
    levelBranch cfg l = if (fallTarget cfg X l.heat).rank < l.level.rank then calmBranch cfg (fallTarget cfg X l.heat) l
      else { l with riseAge := 0, calmAge := 0 } := by
  simp only [levelBranch, if_neg h.not_gt]
  simp only [basis]

/-! ### The reminder count -/

/-- The reminder count worked (R115). -/
theorem remind_count (count : Nat) : (remind cfg count).1 =
    if cfg.reminder = 0 then 0 else if count ≤ 1 then cfg.reminder else count - 1 := by
  unfold remind
  split
  · rfl
  · rcases count with _ | _ | count <;> simp

/-- Where the level changes or is not ALARM, an evaluation does what its branch does (R115). -/
theorem levelEvaluation_of_branch (h : l.level = .alarm → (levelBranch cfg l).level ≠ .alarm) :
    levelEvaluation cfg l = levelBranch cfg l := by
  have leaves : ¬ staysAtAlarm l (levelBranch cfg l) = true := by
    rw [staysAtAlarm_iff]
    exact fun ⟨before, after⟩ => h before after
  simp only [levelEvaluation, if_neg leaves]

/-- Where the branch leaves level and reminder count, the count is worked at ALARM (R115). -/
theorem levelEvaluation_of_same {next : Live} (branch : levelBranch cfg l = next) (level : next.level = l.level)
    (count : next.reminderCount = l.reminderCount) :
    levelEvaluation cfg l =
      { next with
        reminderCount := if l.level ≠ .alarm then l.reminderCount else if cfg.reminder = 0 then 0
          else if l.reminderCount ≤ 1 then cfg.reminder else l.reminderCount - 1 } := by
  by_cases alarm : l.level = .alarm
  · have stays : staysAtAlarm l next = true := staysAtAlarm_iff.mpr ⟨alarm, level.trans alarm⟩
    simp only [levelEvaluation, branch, stays, remind_count, count, alarm, ne_eq, not_true_eq_false, if_true, if_false]
  · rw [levelEvaluation_of_branch (absurd · alarm), branch, if_pos alarm, ← count]

/-- A level that can rise is not ALARM (R101). -/
theorem level_ne_alarm_of_rise {c : Level} (h : l.level.rank < c.rank) : l.level ≠ .alarm := by
  intro alarm
  rw [alarm] at h
  cases c <;> exact absurd h (by decide)

theorem levelEvaluation_of_rise (h : l.level.rank < (candidate cfg l.basis l.heat).rank) :
    levelEvaluation cfg l = riseBranch cfg (candidate cfg l.basis l.heat) l := by
  rw [levelEvaluation_of_branch (absurd · (level_ne_alarm_of_rise h)), levelBranch_of_rise h]

end

end Sys2Proof.Machine
end

section
/-! The level evaluation: rises (R104 to R106, R109), and calm, steady and held evaluations (R104, R107 to R109, R115). -/

namespace Sys2Proof.Machine

/-- Settles O33: the rise branch in full (`riseBranch_eq`), and the level it reaches. -/
theorem levelRises : Obligations.LevelRises := by
  intro cfg l c n delay rises
  have rise : n = _ := (levelEvaluation_of_rise rises).trans (riseBranch_eq c)
  have notAlarm : l.level ≠ .alarm := level_ne_alarm_of_rise rises
  have level : n.level = raisedLevel cfg l.level c n.riseAge := by rw [rise]
  refine ⟨by rw [rise]; rfl, by rw [rise], ?_, fun m above upTo due => ?_, ?_, ?_, ?_⟩
  · rw [level]
    refine raisedLevel_cases.imp_right fun ⟨above, upTo, due⟩ => ⟨above, upTo, ?_⟩
    exact (riseDelay_of_above cfg above).symm.trans_le due
  · rw [level]
    exact rank_le_raisedLevel above upTo ((riseDelay_of_above cfg above).trans_le due)
  · rw [rise]
    simp [Level.owed]
  · rw [rise]
    refine if_congr (and_iff_right_of_imp fun alarm => ?_) rfl rfl
    exact alarm ▸ notAlarm.symm
  · rw [rise]

/-- Settles O34: the branch by basis and fall target, then the reminder count by whether the level stands. -/
theorem levelFallsOrHolds : Obligations.LevelFallsOrHolds := by
  intro cfg l n age latched worked low
  refine ⟨fun basis => levelEvaluation_of_same (levelBranch_of_noBasis low basis) rfl rfl, fun X basis => ?_⟩
  intro f
  have branch := levelBranch_of_basis low basis
  refine ⟨fun steady => ?_, fun calm held => ?_, fun calm due free => ?_⟩
  · rw [if_neg steady.not_gt] at branch
    exact levelEvaluation_of_same branch rfl rfl
  · rw [if_pos calm, calmBranch_eq, if_neg fun ⟨due, free⟩ => held.elim due.not_gt free] at branch
    exact levelEvaluation_of_same branch rfl rfl
  · rw [if_pos calm, calmBranch_eq, if_pos ⟨due, free⟩] at branch
    rw [← branch]
    refine levelEvaluation_of_branch fun alarm falls => ?_
    rw [branch] at falls
    exact calm.ne (by rw [alarm, ← falls])

end Sys2Proof.Machine
end

section
/-! SUPPORT. Flags of transformers cleared or set (R113, R117, R119), and contacts acknowledged (R160). -/

namespace Sys2Proof.Machine

/-! ### Sets of transformers -/

theorem testBit_packBits (bits : List Bool) (n : Nat) : (packBits bits).testBit n = bits.getD n false := by
  induction bits generalizing n with
  | nil => simp [packBits]
  | cons b rest ih =>
    cases n with
    | zero => cases b <;> simp [packBits, Nat.testBit_zero]
    | succ n =>
      have half : packBits (b :: rest) / 2 = packBits rest := by
        simp only [packBits]
        split <;> omega
      rw [Nat.testBit_succ, half, ih, List.getD_cons_succ]

theorem setOfAll_getLsbD (p : Fin 16 → Bool) (i : Fin 16) : (setOfAll p).getLsbD i.val = p i := by
  rw [setOfAll, BitVec.getLsbD_ofNat, testBit_packBits, allSixteen_eq]
  simp [List.getD]

/-! ### Flags -/

theorem State.acknowledgeTransformers_eq (named : TransformerSet) (s : State) : s.acknowledgeTransformers named =
    { s with
      live := Vector.ofFn fun i => if named.getLsbD i then { s.live[i] with unacknowledged := false } else s.live[i]
      handOffs := { s.handOffs with reports := s.handOffs.reports ++
        ((List.finRange 16).filter fun i => named.getLsbD i.val && s.live[i].unacknowledged).map .transformer } } := by
  rw [← allSixteen_eq]
  rfl

/-- Every transformer named (R114). -/
theorem State.acknowledgeTransformers_all (s : State) : s.acknowledgeTransformers 0xFFFF =
    { s with
      live := Vector.ofFn fun i => { s.live[i] with unacknowledged := false }
      handOffs := { s.handOffs with reports := s.handOffs.reports ++
        ((List.finRange 16).filter fun i => s.live[i].unacknowledged).map .transformer } } := by
  have all (i : Fin 16) : (0xFFFF : TransformerSet).getLsbD i.val = true := by revert i; decide
  simp only [State.acknowledgeTransformers_eq, all, if_true, Bool.true_and]

theorem State.suppressTransformers_live (named : TransformerSet) (value : Bool) (s : State) (i : Fin 16) :
    (s.suppressTransformers named value).live[i] =
      if named.getLsbD i then { s.live[i] with suppressed := value } else s.live[i] := get_ofFn _ i

/-- The transformers reported are those whose flag is another than before (R119). -/
theorem State.suppressTransformers_eq (named : TransformerSet) (value : Bool) (s : State) :
    s.suppressTransformers named value =
      { s with
        live := Vector.ofFn fun i => if named.getLsbD i then { s.live[i] with suppressed := value } else s.live[i]
        handOffs := { s.handOffs with reports := s.handOffs.reports ++
          ((List.finRange 16).filter fun i =>
            (s.suppressTransformers named value).live[i].suppressed != s.live[i].suppressed).map .transformer } } := by
  have changed (i : Fin 16) : ((s.suppressTransformers named value).live[i].suppressed != s.live[i].suppressed) =
      (named.getLsbD i && s.live[i].suppressed != value) := by
    rw [State.suppressTransformers_live]
    cases named.getLsbD i.val <;> simp [bne_comm]
  simp only [changed, ← allSixteen_eq]
  rfl

/-! ### Contacts acknowledged -/

/-- The Acknowledged column of R159 moves LATCH contacts alone. -/
theorem acknowledgedState_eq (mode : ContactMode) (st : ContactState) : acknowledgedState mode st =
    if mode = .latch ∧ st = .closedActive then .closedAcked
    else if mode = .latch ∧ st = .closedHeld then .open else st := by
  cases mode <;> cases st <;> rfl

theorem State.acknowledgeContacts_contact (s : State) (k : Fin 4) :
    s.acknowledgeContacts.driver.contacts[k].source = s.driver.contacts[k].source ∧
      s.acknowledgeContacts.driver.contacts[k].state =
        acknowledgedState s.cfg.maps[k].mode s.driver.contacts[k].state := by
  simp only [State.acknowledgeContacts, State.driveOutputs_contact, State.setDriver_driver, get_ofFn, and_self]

theorem driven_acknowledgeContacts (s : State) : Driven s.acknowledgeContacts := driven_driveOutputs _

/-- Acknowledging contacts moves contacts and lamp alone. -/
theorem State.acknowledgeContacts_eq (s : State) : s.acknowledgeContacts =
    { s with driver := { s.driver with
      contacts := s.acknowledgeContacts.driver.contacts, lamp := s.acknowledgeContacts.driver.lamp } } := rfl

/-! ### Acknowledge -/

/-- The transformers named that are owed an answer (R113). -/
def State.owedAmong (named : TransformerSet) (s : State) : TransformerSet :=
  setOfAll fun i => named.getLsbD i.val && s.live[i].unacknowledged

/-- The state an Acknowledge leaves but for its reply (R113, R160). -/
def State.acknowledged (named : TransformerSet) (contacts : Bool) (s : State) : State :=
  (s.acknowledgeTransformers named).whenChanged contacts State.acknowledgeContacts

theorem State.owedAmong_getLsbD (named : TransformerSet) (s : State) (i : Fin 16) :
    (s.owedAmong named).getLsbD i.val = (named.getLsbD i.val && s.live[i].unacknowledged) := setOfAll_getLsbD _ i

/-- The transformers reported are those that were owed an answer (R119). -/
theorem State.acknowledged_eq (named : TransformerSet) (contacts : Bool) (s : State) : s.acknowledged named contacts =
    { s with
      live := Vector.ofFn fun i => if named.getLsbD i then { s.live[i] with unacknowledged := false } else s.live[i]
      driver := { s.driver with
        contacts := (s.acknowledged named contacts).driver.contacts, lamp := (s.acknowledged named contacts).driver.lamp }
      handOffs := { s.handOffs with reports := s.handOffs.reports ++
        ((List.finRange 16).filter fun i => (s.owedAmong named).getLsbD i.val).map .transformer } } := by
  simp only [State.owedAmong_getLsbD, ← allSixteen_eq]
  cases contacts with
  | false => rfl
  | true => exact State.acknowledgeContacts_eq (s.acknowledgeTransformers named)

end Sys2Proof.Machine
end

section
/-! Acknowledge and Suppress (R113, R117, R119, R160), and the panel (R164, R165). -/

namespace Sys2Proof.Machine

/-! ### Requests -/

section
variable {r : Request} {s : State}

theorem handleAcknowledge_unarmed (r : Request) (s : State) : handleAcknowledge r s.unarmed =
    (s.acknowledged (BitVec.ofNat 16 (u16 r.body 0)) (yesOf (u8 r.body 2))).replied r .ok
      (beBytes 2 (s.owedAmong (BitVec.ofNat 16 (u16 r.body 0))).toNat) := by
  simp only [handleAcknowledge, State.acknowledged]
  cases yesOf (u8 r.body 2) <;> rfl

theorem exec_acknowledge (h : s.Takes 0x0B r) (hl : r.body.length = 3) :
    exec .acknowledge s = .next (handleAcknowledge r s.unarmed) :=
  exec_of_takes (f := handleAcknowledge) rfl h (by rfl) hl

theorem exec_suppress (h : s.Takes 0x0C r) (hl : r.body.length = 3) (hlock : s.inputs.lock.debounced = false) :
    let next := s.suppressTransformers (BitVec.ofNat 16 (u16 r.body 0)) (decide (u8 r.body 2 ≠ 1))
    exec .suppress s = .next (next.replied r .ok (beBytes 2 (setOfAll fun i => next.live[i].suppressed).toNat)) := by
  have unlocked : ¬ s.unarmed.lockAsserted = true := by
    show ¬ s.inputs.lock.debounced = true
    simp [hlock]
  have value : (u8 r.body 2 != 1) = decide (u8 r.body 2 ≠ 1) := by
    rw [Bool.eq_iff_iff]
    simp
  rw [exec_of_takes (f := handleSuppress) rfl h (n := 3) (by rfl) hl]
  show Host.Outcome.next (handleSuppress r s.unarmed) = _
  simp only [handleSuppress, if_neg unlocked, value]
  rfl

end

/-- Settles O57: the flags cleared or set with their reports, and with the contacts flag the Acknowledged column. -/
theorem acknowledgeAndSuppress : Obligations.AcknowledgeAndSuppress := by
  intro r s hl named
  refine ⟨fun h => ?_, fun h hlock => ?_⟩
  · refine ⟨_, _, (exec_acknowledge h hl).trans (congrArg _ (handleAcknowledge_unarmed r s)), fun i => ?_,
      State.acknowledged_eq .., fun flag => ?_, fun flag => ?_⟩
    · rw [State.owedAmong_getLsbD, Bool.and_eq_true]
    · rw [flag]
      rfl
    · have contacts : yesOf (u8 r.body 2) = true := by simp [yesOf_eq, flag]
      rw [contacts]
      refine ⟨driven_acknowledgeContacts _, fun k => ?_⟩
      rw [← acknowledgedState_eq]
      exact State.acknowledgeContacts_contact _ k
  · exact ⟨_, _, exec_suppress h hl hlock, fun i => by rw [setOfAll_getLsbD], State.suppressTransformers_eq ..⟩

/-! ### The panel -/

section
variable {s : State}

theorem exec_panelPress {rest : List Bool} (h : s.handOffs.panelReports = true :: rest) :
    exec .panelPress s = .next (s.setHandOffs { s.handOffs with panelReports := rest }).panelPressed := by
  show execPanelPress s = _
  simp only [execPanelPress, h]

theorem exec_panelRelease {rest : List Bool} (h : s.handOffs.panelReports = false :: rest) :
    exec .panelRelease s = .next (s.setHandOffs { s.handOffs with panelReports := rest }).panelReleased := by
  show execPanelRelease s = _
  simp only [execPanelRelease, h]

theorem exec_panelTestStart (s : State) :
    exec .panelTestStart s = .next (if s.driver.panel = .pressed then s.setPanel .test true else s) := rfl

theorem exec_panelTestTimeout (s : State) :
    exec .panelTestTimeout s = .next (if s.driver.panel = .test then s.setPanel .testEnded false else s) := rfl

/-- Outputs and lamp judged afresh move the panel to where it stands (R161, R163). -/
theorem State.driveOutputs_eq_setPanel (s : State) : s.driveOutputs = s.setPanel s.driver.panel s.driver.panelTimer := rfl

theorem State.panelPressed_of_idle (h : s.driver.panel = .idle) :
    s.panelPressed = if s.cfg.device.panelLock then s.setPanel .ignored false else s.setPanel .pressed true := by
  simp only [State.panelPressed, h]

theorem State.panelPressed_of_ne (h : s.driver.panel ≠ .idle) :
    s.panelPressed = s.setPanel s.driver.panel s.driver.panelTimer := by
  rw [← State.driveOutputs_eq_setPanel]
  simp only [State.panelPressed]

theorem State.panelReleased_of_idle (h : s.driver.panel = .idle) :
    s.panelReleased = s.setPanel .idle s.driver.panelTimer := by
  rw [← h, ← State.driveOutputs_eq_setPanel]
  simp only [State.panelReleased, h]

theorem State.panelReleased_of_pressed (h : s.driver.panel = .pressed) :
    s.panelReleased = ((s.setPanel .idle false).acknowledgeTransformers 0xFFFF).acknowledgeContacts := by
  simp only [State.panelReleased, h]

theorem State.panelReleased_of_test (h : s.driver.panel = .test ∨ s.driver.panel = .testEnded ∨ s.driver.panel = .ignored) :
    s.panelReleased = s.setPanel .idle false := by
  rcases h with h | h | h <;> simp only [State.panelReleased, h]

/-- A short press acknowledges each LATCH contact (R160, R164). -/
theorem State.panelReleased_contact (h : s.driver.panel = .pressed) (k : Fin 4) :
    s.panelReleased.driver.contacts[k].source = s.driver.contacts[k].source ∧
      s.panelReleased.driver.contacts[k].state =
        acknowledgedState s.cfg.maps[k].mode s.driver.contacts[k].state := by
  obtain ⟨source, state⟩ :=
    State.acknowledgeContacts_contact ((s.setPanel .idle false).acknowledgeTransformers 0xFFFF) k
  obtain ⟨kept, keptSource⟩ := (panelMoved_setPanel .idle false s).contacts k
  simp only [State.acknowledgeTransformers_frame, State.setPanel_frame] at source state
  rw [State.panelReleased_of_pressed h, source, state, kept, keptSource]
  exact ⟨rfl, rfl⟩

/-- A short press clears every flag of what is owed and reports each change (R114, R119, R164). -/
theorem State.panelReleased_eq (h : s.driver.panel = .pressed) : s.panelReleased =
    { s with
      live := Vector.ofFn fun i => { s.live[i] with unacknowledged := false }
      driver := { s.driver with
        contacts := s.panelReleased.driver.contacts, lamp := s.panelReleased.driver.lamp
        panel := .idle, panelTimer := false }
      handOffs := { s.handOffs with reports := s.handOffs.reports ++
        ((List.finRange 16).filter fun i => s.live[i].unacknowledged).map .transformer } } := by
  have flags := State.acknowledgeTransformers_all (s.setPanel .idle false)
  rw [State.panelReleased_of_pressed h, State.acknowledgeContacts_eq]
  simp only [flags]
  rfl

end

/-- Settles O42: each panel event moves the panel (`panelMoved_setPanel`), but for the short press, which acknowledges. -/
theorem panelPressTestAndRelease : Obligations.PanelPressTestAndRelease := by
  have moves (p : PanelState) (timer : Bool) (s : State) : ∃ t, Host.Outcome.next (s.setPanel p timer) =
      (.next t : Host.Outcome State Fault Refusal) ∧ PanelMoved p timer s t :=
    ⟨_, rfl, panelMoved_setPanel p timer s⟩
  refine ⟨fun s => ⟨fun rest reported => ?_, fun pressed => ?_, fun other => ?_, fun test => ?_, fun other => ?_⟩,
    fun rest s reported => ?_⟩
  · intro taken
    rw [exec_panelPress reported]
    refine ⟨fun busy => ?_, fun idle => ⟨_, rfl, ?_⟩⟩
    · rw [State.panelPressed_of_ne (by exact busy)]
      exact moves _ _ taken
    · rw [State.panelPressed_of_idle (by exact idle)]
      show if s.cfg.device.panelLock then _ else _
      split
      case isTrue locked =>
        rw [if_pos (by exact locked)]
        exact panelMoved_setPanel .ignored false taken
      case isFalse unlocked =>
        rw [if_neg (by exact unlocked)]
        exact panelMoved_setPanel .pressed true taken
  · rw [exec_panelTestStart, if_pos pressed]
    exact moves .test true s
  · rw [exec_panelTestStart, if_neg other]
  · rw [exec_panelTestTimeout, if_pos test]
    exact moves .testEnded false s
  · rw [exec_panelTestTimeout, if_neg other]
  · intro taken
    rw [exec_panelRelease reported]
    refine ⟨fun idle => ?_, fun held => ?_, fun pressed => ⟨_, rfl, ?_, fun k => ?_, ?_⟩⟩
    · rw [State.panelReleased_of_idle (by exact idle)]
      exact moves .idle _ taken
    · rw [State.panelReleased_of_test (by exact held)]
      exact moves .idle false taken
    · rw [State.panelReleased_of_pressed (by exact pressed)]
      exact driven_acknowledgeContacts _
    · rw [← acknowledgedState_eq]
      exact State.panelReleased_contact (s := taken) pressed k
    · exact State.panelReleased_eq (s := taken) pressed

end Sys2Proof.Machine
end

section
/-! The Episode Tracker: the activity test and the clock second it takes (R125 to R131), and the evaluations handed to it (R133,
R134). -/

namespace Sys2Proof.Machine

/-! ### The activity test -/

/-- A transformer that makes a clock second an activity second (R125). -/
theorem Live.activeLevel_iff {l : Live} : l.activeLevel = true ↔
    l.service = .inService ∧ l.suppressed = false ∧ Level.rank .watch ≤ l.level.rank := by
  simp only [Live.activeLevel, Bool.and_eq_true, beq_iff_eq, Bool.not_eq_true', decide_eq_true_iff, and_assoc]

theorem State.activitySecond_iff {s : State} : s.activitySecond = true ↔
    (∃ i : Fin 16, s.live[i].service = .inService ∧ s.live[i].suppressed = false ∧
      Level.rank .watch ≤ s.live[i].level.rank) ∨
    s.field.latest.quality ≠ .none ∧ s.cfg.device.eStart ≤ s.field.latest.magnitude := by
  simp only [State.activitySecond, Bool.or_eq_true, any_allSixteen, Live.activeLevel_iff, Bool.and_eq_true, bne_iff_ne,
    decide_eq_true_iff]

/-! ### The clock second -/

section
variable {stamp : Stamp} {s : State}

/-- With no value held, max |E| is the magnitude unless E has no quality (R126, step 4). -/
theorem maxEWith_none (e : FieldEstimate) (stamp : Stamp) :
    maxEWith e stamp none = if e.quality = .none then none else some (e.magnitude, stamp) := rfl

/-- A clock second with activity opens an episode where none is open (R126). -/
theorem State.trackerSecond_opens (quiet : s.tracker.openEpisode = none) (active : s.activitySecond = true) :
    s.trackerSecond stamp =
      { s with
        tracker :=
          { s.tracker with
            openEpisode := some (s.openedEpisode stamp)
            nextNumber := nextEpisodeNumber s.tracker.nextNumber
            quietTimer := s.cfg.device.quietTime }
        link := s.made [deviceRecord .episodeOpen (some s.tracker.nextNumber) stamp]
        handOffs := { s.handOffs with reports := s.handOffs.reports ++ [.tracker] } } := by
  simp only [State.trackerSecond, quiet, active, if_true]
  rfl

/-- A clock second that does not close the open episode compares max |E| and loads or steps the quiet timer (R128, R129). -/
theorem State.trackerSecond_continues {e : Episode} (isOpen : s.tracker.openEpisode = some e)
    (goesOn : s.activitySecond = true ∨ 2 ≤ s.tracker.quietTimer) : s.trackerSecond stamp =
      s.setTracker { s.tracker with
        openEpisode := some { e with maxE := maxEWith s.field.latest stamp e.maxE }
        quietTimer := if s.activitySecond then s.cfg.device.quietTime else s.tracker.quietTimer - 1 } := by
  cases active : s.activitySecond with
  | true => simp only [State.trackerSecond, isOpen, active, if_true]
  | false =>
    have runs : ¬ s.tracker.quietTimer ≤ 1 := by
      have := goesOn.resolve_left (by simp [active])
      omega
    simp only [State.trackerSecond, isOpen, active, Bool.false_eq_true, if_false, if_neg runs]

end

/-- Settles O38: the activity test, then the clock second by whether an episode is open and whether the second closes it. -/
theorem episodeClockSecond : Obligations.EpisodeClockSecond := by
  intro stamp s size quiet
  refine ⟨State.activitySecond_iff, State.trackerSecond_of_none stamp, fun idle active => ?_,
    fun e isOpen => ⟨State.trackerSecond_closes isOpen, fun goesOn => ?_⟩⟩
  · rw [State.trackerSecond_opens idle active, State.openedEpisode, nextEpisodeNumber_eq, maxEWith_none]
    rfl
  · rw [State.trackerSecond_continues isOpen goesOn, maxEWith_eq]
    rfl

/-! ### An evaluation handed to the tracker -/

section
variable {h : EvaluationHandOff} {s : State}

/-- QUIET, an evaluation changes nothing (R133). -/
theorem State.trackEvaluation_of_none (h : EvaluationHandOff) (quiet : s.tracker.openEpisode = none) :
    s.trackEvaluation h = s := by
  rw [State.trackEvaluation, EpisodeTracker.updateEntry_of_none quiet]
  rfl

/-- ACTIVE, an evaluation changes its transformer's entry alone (R133). -/
theorem State.trackEvaluation_of_some {e : Episode} (isOpen : s.tracker.openEpisode = some e) :
    s.trackEvaluation h = s.setTracker { s.tracker with
      openEpisode := some (e.withEntry h.transformer (EpisodeEntry.withEvaluation h)) } := by
  rw [State.trackEvaluation, EpisodeTracker.updateEntry, isOpen]
  rfl

/-- QUIET, what a hand-off can bring about is the clock second that waited for it (R134). -/
theorem State.takeHandOff_of_none (h : EvaluationHandOff) (quiet : s.tracker.openEpisode = none) :
    s.takeHandOff h = s.settleTracker := by
  rw [State.takeHandOff, quiet, State.trackEvaluation_of_none h quiet]
  rfl

/-- With no clock second waiting for it, the Episode Tracker settles as it stands. -/
theorem State.settleTracker_of_none (idle : s.handOffs.trackerTick = none) : s.settleTracker = s := by
  rw [State.settleTracker, State.takeTrackerTick_of_none idle, ite_self]

theorem exec_episodeHandoff {before after : List EvaluationHandOff} (held : s.handOffs.evaluations = before ++ h :: after)
    (first : ∀ g ∈ before, g.transformer ≠ h.transformer) : exec (.episodeHandoff h.transformer) s =
      .next ((s.setHandOffs { s.handOffs with evaluations := before ++ after }).takeHandOff h) := by
  have taken := takeFirst_split (p := fun g : EvaluationHandOff => g.transformer == h.transformer) held (by simp)
    (by simpa using first)
  show execEpisodeHandoff h.transformer s = _
  simp only [execEpisodeHandoff, taken]

end

/-! ### The entry it joins -/

section
variable {h : EvaluationHandOff} {n : EpisodeEntry}

/-- With no basis charge and peak stay (R133). -/
theorem EpisodeEntry.withEvaluation_of_no_basis (basis : h.basis = none) :
    (n.withEvaluation h).charge = n.charge ∧ (n.withEvaluation h).peak = n.peak := by
  simp only [EpisodeEntry.withEvaluation, basis, and_self]

/-- A basis joins the charge up to its limit, and is the first peak or compared with the one held (R133). -/
theorem EpisodeEntry.withEvaluation_of_basis {X : Nat} (basis : h.basis = some X) :
    (n.withEvaluation h).charge = min maxCharge (n.charge + X) ∧
      (n.peak = none → (n.withEvaluation h).peak = some (X, h.stamp)) ∧
      ∀ p, n.peak = some p → (n.withEvaluation h).peak = if p.1 < X then some (X, h.stamp) else some p := by
  refine ⟨?_, fun none_held => ?_, fun p held => ?_⟩
  · simp only [EpisodeEntry.withEvaluation, basis]
  · simp only [EpisodeEntry.withEvaluation, basis, none_held]
  · simp only [EpisodeEntry.withEvaluation, basis, held]

end

/-- Settles O39: QUIET, the waiting clock second is settled behind the hand-off; ACTIVE, the entry joined. -/
theorem evaluationReachesEpisode : Obligations.EvaluationReachesEpisode := by
  intro h before after s held first taken
  have row : exec (.episodeHandoff h.transformer) s = .next (taken.takeHandOff h) := exec_episodeHandoff held first
  refine ⟨fun quiet => ?_, fun e isOpen => ?_⟩
  · rw [row, State.takeHandOff_of_none (s := taken) h quiet]
    exact ⟨fun idle => congrArg _ (State.settleTracker_of_none (s := taken) idle), _, rfl,
      trackerFollows_settleTracker taken⟩
  · rw [row, State.takeHandOff_of_open (s := taken) h isOpen, State.trackEvaluation_of_some (s := taken) isOpen]
    exact ⟨e.entries[h.transformer].withEvaluation h, rfl, EpisodeEntry.withEvaluation_of_no_basis,
      fun X => EpisodeEntry.withEvaluation_of_basis, rfl, rfl⟩

end Sys2Proof.Machine
end

section
/-! SUPPORT. The Capture Unit by itself: which record is active, when there is room, and what its operations do to the list of
captures and to the pending set (R137 to R146). -/

namespace Sys2Proof.Machine

/-! ### The active record, and room -/

theorem CaptureRecord.active_iff {r : CaptureRecord} : r.active = true ↔ r.state ≠ .done := by simp [CaptureRecord.active]

theorem CaptureUnit.activeRecord_eq_none {c : CaptureUnit} : c.activeRecord = none ↔ ∀ q ∈ c.records, q.state = .done := by
  simp [CaptureUnit.activeRecord, CaptureRecord.active]

/-- Room is a place in the list and the slots for the pre cycles and one more (R140). -/
theorem CaptureUnit.hasRoom_iff {c : CaptureUnit} {pre : Nat} :
    c.hasRoom pre = true ↔ c.records.length < 8 ∧ 32 * (pre + 1) ≤ c.freeSlots := by
  rw [CaptureUnit.hasRoom, Bool.and_eq_true, decide_eq_true_eq, decide_eq_true_eq]
  rfl

theorem usedSlots_append (l m : List CaptureRecord) : usedSlots (l ++ m) = usedSlots l + usedSlots m := by
  simp [usedSlots]

theorem usedSlots_cons (r : CaptureRecord) (l : List CaptureRecord) : usedSlots (r :: l) = r.length + usedSlots l := by
  simp [usedSlots]

/-! ### A change of the active record -/

/-- A change of the active record makes no other record active. -/
theorem active_updateActive_le (f : CaptureRecord → CaptureRecord) (l : List CaptureRecord) :
    ((l.map fun q => if q.active then f q else q).filter CaptureRecord.active).length ≤
      (l.filter CaptureRecord.active).length := by
  induction l with
  | nil => exact le_rfl
  | cons q l ih =>
    by_cases hq : q.active = true
    · simp only [List.map_cons, hq, if_true, List.filter_cons]
      split <;> simp only [List.length_cons] <;> omega
    · simpa [hq] using ih

/-- A change that adds at most `n` slots to a record adds at most `n` for each active record. -/
theorem usedSlots_updateActive_le {n : Nat} {f : CaptureRecord → CaptureRecord} (hf : ∀ q, (f q).length ≤ q.length + n)
    (l : List CaptureRecord) : usedSlots (l.map fun q => if q.active then f q else q) ≤
      usedSlots l + n * (l.filter CaptureRecord.active).length := by
  induction l with
  | nil => exact Nat.zero_le _
  | cons q l ih =>
    have := hf q
    by_cases hq : q.active = true
    · simp only [List.map_cons, hq, if_true, List.filter_cons, usedSlots_cons, List.length_cons, Nat.mul_succ]
      omega
    · simp only [List.map_cons, hq, if_false, List.filter_cons, usedSlots_cons, Bool.false_eq_true]
      omega

/-- Once every active record has become DONE none is active. -/
theorem CaptureUnit.activeRecord_ended {c : CaptureUnit} {f : CaptureRecord → CaptureRecord} (hf : ∀ q, (f q).state = .done) :
    (c.updateActive f).activeRecord = none := by
  refine CaptureUnit.activeRecord_eq_none.mpr fun q hq => ?_
  obtain ⟨r, -, rfl⟩ := List.mem_map.mp hq
  by_cases hr : r.active = true
  · rw [if_pos hr, hf]
  · rw [if_neg hr]
    exact Classical.not_not.mp fun h => hr (CaptureRecord.active_iff.mpr h)

/-! ### Entries -/

theorem CaptureUnit.entryOf_isSome {c : CaptureUnit} {ch : Fin 16} :
    (c.entryOf ch).isSome = true ↔ ∃ e ∈ c.waiting, e.channel = ch := by
  simp [CaptureUnit.entryOf]

/-- A change of entries that leaves each its channel leaves the channels of the pending set. -/
theorem map_channel_map {f : PendingEntry → PendingEntry} (hf : ∀ e, (f e).channel = e.channel) (l : List PendingEntry) :
    (l.map f).map PendingEntry.channel = l.map PendingEntry.channel := by
  rw [List.map_map]
  exact List.map_congr_left fun e _ => hf e

/-! ### Cycles stored one after another -/

theorem CaptureUnit.records_foldl_storeCycle (cycles : List (List Int)) (c : CaptureUnit) :
    (cycles.foldl (fun u codes => u.storeCycle codes) c).records = c.records :=
  foldl_same CaptureUnit.records (fun u codes => CaptureUnit.storeCycle codes u) (fun _ _ => rfl) cycles c

theorem CaptureUnit.waiting_foldl_storeCycle (cycles : List (List Int)) (c : CaptureUnit) :
    (cycles.foldl (fun u codes => u.storeCycle codes) c).waiting = c.waiting :=
  foldl_same CaptureUnit.waiting (fun u codes => CaptureUnit.storeCycle codes u) (fun _ _ => rfl) cycles c

end Sys2Proof.Machine
end

section
/-! The laws of the Capture Unit by itself (R137, R141, R146): what each of its operations keeps. -/

namespace Sys2Proof.Machine

/-- The laws of captures that the Capture Unit alone decides (R137, R141, R146). -/
structure UnitLaw (c : CaptureUnit) : Prop where
  list : c.records.length ≤ 8
  slots : usedSlots c.records ≤ 16384
  active : (c.records.filter CaptureRecord.active).length ≤ 1
  onePerChannel : (c.waiting.map PendingEntry.channel).Nodup
  memory : Memory.wf c.memory = true
  writePos : c.writePos < 16384

section
variable {c : CaptureUnit} (h : UnitLaw c)
include h

/-! ### Records and memory -/

theorem UnitLaw.storeCycle (codes : List Int) : UnitLaw (c.storeCycle codes) :=
  { h with memory := c.wf_storeCycle codes h.memory, writePos := Nat.mod_lt _ (by decide) }

omit h in
theorem UnitLaw.foldl_storeCycle (cycles : List (List Int)) (h : UnitLaw c) :
    UnitLaw (cycles.foldl (fun u codes => u.storeCycle codes) c) := by
  induction cycles generalizing c with
  | nil => exact h
  | cons codes rest ih => exact ih (h.storeCycle codes)

/-- The active record changes and takes at most `n` slots more, for which there is room. -/
theorem UnitLaw.updateActive (n : Nat) {f : CaptureRecord → CaptureRecord} (hf : ∀ q, (f q).length ≤ q.length + n)
    (room : usedSlots c.records + n ≤ 16384) : UnitLaw (c.updateActive f) := by
  have more := usedSlots_updateActive_le hf c.records
  have one : n * (c.records.filter CaptureRecord.active).length ≤ n * 1 := Nat.mul_le_mul_left n h.active
  exact { h with
    list := by simpa [CaptureUnit.updateActive] using h.list
    slots := (more.trans (Nat.add_le_add_left one _)).trans (by omega)
    active := (active_updateActive_le f c.records).trans h.active }

/-- The active record changes and holds the slots it held. -/
theorem UnitLaw.updateActive_same {f : CaptureRecord → CaptureRecord} (hf : ∀ q, (f q).length = q.length) :
    UnitLaw (c.updateActive f) := h.updateActive 0 (fun q => (hf q).le) h.slots

/-- A record joins the list where none is active and there is room for it (R141). -/
theorem UnitLaw.joined {r : CaptureRecord} (none_active : c.activeRecord = none) (list : c.records.length < 8)
    (room : usedSlots c.records + r.length ≤ 16384) (next : Nat) :
    UnitLaw { c with records := c.records ++ [r], nextNumber := next } := by
  have none_before : c.records.filter CaptureRecord.active = [] := List.filter_eq_nil_iff.mpr fun q hq active =>
    CaptureRecord.active_iff.mp active (CaptureUnit.activeRecord_eq_none.mp none_active q hq)
  exact { h with
    list := by simpa using list
    slots := by
      show usedSlots (c.records ++ [r]) ≤ 16384
      rw [usedSlots_append]
      simpa [usedSlots] using room
    active := by
      show ((c.records ++ [r]).filter CaptureRecord.active).length ≤ 1
      rw [List.filter_append, none_before, List.nil_append]
      exact List.length_filter_le _ [r] }

/-- A start takes at most the slots of the pre cycles (R141). -/
theorem UnitLaw.started (ring : List (List Int)) (ch : Fin 16) (cause : CaptureCause) (stamp : Stamp) {pre : Nat} (post : Nat)
    (delay : Option Nat) (none_active : c.activeRecord = none) (room : c.hasRoom pre = true) :
    UnitLaw (c.started ring ch cause stamp pre post delay) := by
  obtain ⟨list, free⟩ := CaptureUnit.hasRoom_iff.mp room
  have filled := UnitLaw.foldl_storeCycle (recentCycles ring pre) h
  have records := CaptureUnit.records_foldl_storeCycle (recentCycles ring pre) c
  have cycles : (recentCycles ring pre).length ≤ pre := by
    rw [recentCycles, List.length_drop]
    omega
  have joined := filled.joined
    (r := startedRecord c ch cause stamp (recentCycles ring pre).length post delay)
    (by rw [CaptureUnit.activeRecord, records]; exact none_active) (by rw [records]; exact list)
    (by
      rw [records]
      simp only [CaptureRecord.length, startedRecord, CaptureUnit.freeSlots, Config.cycleSamples,
        Config.captureSlots] at free ⊢
      omega)
    (nextCaptureNumber c.nextNumber)
  rw [records] at joined
  exact joined

/-- The oldest record leaves the list (R153). -/
theorem UnitLaw.released : UnitLaw { c with records := c.records.tail } := by
  have sub := List.tail_sublist c.records
  exact { h with
    list := sub.length_le.trans h.list
    slots := by
      refine le_trans ?_ h.slots
      show usedSlots c.records.tail ≤ usedSlots c.records
      cases c.records with
      | nil => exact le_rfl
      | cons r l =>
        rw [usedSlots_cons]
        exact Nat.le_add_left _ _
    active := (sub.filter _).length_le.trans h.active }

theorem UnitLaw.resumed : UnitLaw c.resumed := by
  unfold CaptureUnit.resumed
  split
  · exact h.updateActive_same fun q => by split <;> rfl
  · exact h

/-! ### The pending set -/

/-- The pending set changes and still has at most one entry a channel (R146). -/
theorem UnitLaw.withWaiting {l : List PendingEntry} (hl : (l.map PendingEntry.channel).Nodup) :
    UnitLaw { c with waiting := l } := { h with onePerChannel := hl }

theorem UnitLaw.mapWaiting {f : PendingEntry → PendingEntry} (hf : ∀ e, (f e).channel = e.channel) :
    UnitLaw { c with waiting := c.waiting.map f } :=
  h.withWaiting (by rw [map_channel_map hf]; exact h.onePerChannel)

theorem UnitLaw.filterWaiting (p : PendingEntry → Bool) : UnitLaw { c with waiting := c.waiting.filter p } :=
  h.withWaiting (h.onePerChannel.sublist (List.filter_sublist.map _))

/-- An entry joins where its channel has none (R146). -/
theorem UnitLaw.addPending {ch : Fin 16} (cause : CaptureCause) (stamp : Stamp) (pre post : Nat)
    (free : c.entryOf ch = none) : UnitLaw (c.addPending ch cause stamp pre post) := by
  refine h.withWaiting ?_
  rw [List.map_append, List.nodup_append]
  refine ⟨h.onePerChannel, List.nodup_singleton _, ?_⟩
  rintro _ held _ joins rfl
  obtain ⟨e, he, rfl⟩ := List.mem_map.mp held
  rw [List.map_singleton, List.mem_singleton] at joins
  have waits := CaptureUnit.entryOf_isSome.mpr ⟨e, he, joins⟩
  rw [free] at waits
  cases waits

end

end Sys2Proof.Machine
end

section
/-! SUPPORT. Which operations leave the disables on their way to the Capture Unit alone (R8, R148): all but a disable, and the
report that takes one. -/

namespace Sys2Proof.Machine

section
variable (s : State)

@[simp] theorem State.reportIf_disables (b : Bool) (r : ContactReport) :
    (s.reportIf b r).handOffs.disables = s.handOffs.disables := by
  cases b <;> rfl

@[simp] theorem State.reportInput_disables (p : Pin) (level : Bool) :
    (s.reportInput p level).handOffs.disables = s.handOffs.disables := by
  cases p <;> rfl

/-! ### Evaluations -/

@[simp] theorem State.handTrigger_disables (c : Settings) (i : Fin 16) (t : Stamp) :
    (s.handTrigger c i t).handOffs.disables = s.handOffs.disables := rfl

@[simp] theorem State.handEvaluation_disables (i : Fin 16) (l : Live) (t : Stamp) :
    (s.handEvaluation i l t).handOffs.disables = s.handOffs.disables := rfl

@[simp] theorem State.evaluate_disables (i : Fin 16) (ev : Option SecondHandOff) (t : Stamp) :
    (s.evaluate i ev t).handOffs.disables = s.handOffs.disables := by
  simp only [State.evaluate]
  split <;> simp

/-! ### The Transformer Table -/

theorem State.disableTransformer_disables (i : Fin 16) :
    (s.disableTransformer i).handOffs.disables = s.handOffs.disables ++ [i] := rfl

@[simp] theorem State.enableTransformer_disables (i : Fin 16) :
    (s.enableTransformer i).handOffs.disables = s.handOffs.disables := by
  simp only [State.enableTransformer]
  split <;> rfl

@[simp] theorem State.energise_disables (i : Fin 16) : (s.energise i).handOffs.disables = s.handOffs.disables := by
  simp only [State.energise]
  split <;> rfl

@[simp] theorem State.deenergise_disables (i : Fin 16) : (s.deenergise i).handOffs.disables = s.handOffs.disables := by
  simp only [State.deenergise]
  split <;> rfl

@[simp] theorem State.takeSecond_disables (h : SecondHandOff) :
    (s.takeSecond h).handOffs.disables = s.handOffs.disables := by
  simp only [State.takeSecond]
  split <;> simp

@[simp] theorem State.recordSecond_disables (i : Fin 16) (t : Stamp) :
    (s.recordSecond i t).handOffs.disables = s.handOffs.disables := by
  simp only [State.recordSecond]
  (repeat' split) <;> simp

@[simp] theorem State.acknowledgeTransformers_disables (named : TransformerSet) :
    (s.acknowledgeTransformers named).handOffs.disables = s.handOffs.disables := rfl

@[simp] theorem State.suppressTransformers_disables (named : TransformerSet) (value : Bool) :
    (s.suppressTransformers named value).handOffs.disables = s.handOffs.disables := rfl

/-! ### Episodes, contacts, panel, inputs, host line -/

@[simp] theorem State.trackerSecond_disables (t : Stamp) :
    (s.trackerSecond t).handOffs.disables = s.handOffs.disables := by
  simp only [State.trackerSecond]
  (repeat' split) <;> rfl

@[simp] theorem State.linkHeard_disables : s.linkHeard.handOffs.disables = s.handOffs.disables := by
  simp only [State.linkHeard]
  split <;> simp

@[simp] theorem State.linkSilenceWritten_disables : s.linkSilenceWritten.handOffs.disables = s.handOffs.disables := by
  simp [State.linkSilenceWritten]

@[simp] theorem State.linkSecond_disables (t : Stamp) : (s.linkSecond t).handOffs.disables = s.handOffs.disables := by
  simp only [State.linkSecond]
  (repeat' split) <;> simp

@[simp] theorem State.completeHold_disables (p : Pin) : (s.completeHold p).handOffs.disables = s.handOffs.disables := by
  simp only [State.completeHold]
  split <;> simp

@[simp] theorem State.debounceWritten_disables (now : Nat) :
    (s.debounceWritten now).handOffs.disables = s.handOffs.disables := by
  unfold State.debounceWritten
  refine foldl_same (fun u : State => u.handOffs.disables) _ (fun u p => ?_) allPins s
  (repeat' split) <;> simp

@[simp] theorem State.hostBytes_disables (bytes : List Byte) :
    (s.hostBytes bytes).handOffs.disables = s.handOffs.disables :=
  foldl_same (fun u : State => u.handOffs.disables) _ (fun _ _ => by simp) _ _

@[simp] theorem State.mapWritten_disables (k : Fin 4) (map : ContactMap) :
    (s.mapWritten k map).handOffs.disables = s.handOffs.disables := by
  simp [State.mapWritten]

/-! ### The clock -/

@[simp] theorem State.takeFieldTick_disables : s.takeFieldTick.handOffs.disables = s.handOffs.disables := by
  simp only [State.takeFieldTick]
  split <;> simp

@[simp] theorem State.takeTrackerTick_disables : s.takeTrackerTick.handOffs.disables = s.handOffs.disables := by
  simp only [State.takeTrackerTick]
  split <;> simp

@[simp] theorem State.takeLinkTick_disables : s.takeLinkTick.handOffs.disables = s.handOffs.disables := by
  simp only [State.takeLinkTick]
  split <;> simp

@[simp] theorem State.fieldClock_disables (t : Stamp) : (s.fieldClock t).handOffs.disables = s.handOffs.disables := by
  simp only [State.fieldClock]
  split <;> simp

@[simp] theorem State.trackerClock_disables (t : Stamp) :
    (s.trackerClock t).handOffs.disables = s.handOffs.disables := by
  simp only [State.trackerClock]
  split <;> simp

@[simp] theorem State.linkClock_disables (t : Stamp) : (s.linkClock t).handOffs.disables = s.handOffs.disables := by
  simp only [State.linkClock]
  split <;> simp

@[simp] theorem State.settleTracker_disables : s.settleTracker.handOffs.disables = s.handOffs.disables := by
  simp only [State.settleTracker]
  split <;> simp

@[simp] theorem State.settleClock_disables : s.settleClock.handOffs.disables = s.handOffs.disables := by
  simp only [State.settleClock, State.settleTracker_disables]
  split <;> simp

@[simp] theorem State.takeHandOff_disables (h : EvaluationHandOff) :
    (s.takeHandOff h).handOffs.disables = s.handOffs.disables := by
  simp only [State.takeHandOff]
  split <;> simp

/-! ### Converters -/

@[simp] theorem State.setConverterState_disables (c : Fin 5) (v : ConverterState) :
    (s.setConverterState c v).handOffs.disables = s.handOffs.disables := by
  simp [State.setConverterState]

@[simp] theorem State.handleStatus_disables (f : Frame) :
    (s.handleStatus f).handOffs.disables = s.handOffs.disables := by
  simp only [State.handleStatus]
  (repeat' split) <;> simp

@[simp] theorem State.followRef_disables (f : Frame) : (s.followRef f).handOffs.disables = s.handOffs.disables := by
  simp [State.followRef]

end

end Sys2Proof.Machine
end

section
/-! The law of captures (R141, R146, R148): what it reads of a state, and the Transformer Table's part in it. -/

namespace Sys2Proof.Machine

/-! ### What the law reads of a state -/

/-- Transformer `ch` is not disabled, or its disable is on its way to the Capture Unit (R8, R148). -/
def State.Told (ch : Fin 16) (s : State) : Prop := s.live[ch].service = .off → ch ∈ s.handOffs.disables

/-- What the law of captures reads of a state. -/
def State.captureView (s : State) : CaptureUnit × Vector Live 16 × List (Fin 16) :=
  (s.capture, s.live, s.handOffs.disables)

theorem captureLaw_iff {s : State} :
    CaptureLaw s ↔ UnitLaw s.capture ∧ ∀ e ∈ s.capture.waiting, s.Told e.channel :=
  ⟨fun h => ⟨⟨h.list, h.slots, h.active, h.onePerChannel, h.memory, h.writePos⟩, h.disabled⟩,
    fun ⟨u, told⟩ => ⟨u.list, u.slots, u.active, u.onePerChannel, told, u.memory, u.writePos⟩⟩

/-- From `s` to `t` the Capture Unit stands as it was, and every disable made is told to it (R8, R148). -/
structure SparesCaptures (s t : State) : Prop where
  capture : t.capture = s.capture
  told : ∀ ch, s.Told ch → t.Told ch

section
variable {s t u : State}

theorem CaptureLaw.unit (h : CaptureLaw s) : UnitLaw s.capture := (captureLaw_iff.mp h).1

theorem CaptureLaw.told (h : CaptureLaw s) : ∀ e ∈ s.capture.waiting, s.Told e.channel := h.disabled

theorem CaptureLaw.spared (h : CaptureLaw s) (k : SparesCaptures s t) : CaptureLaw t := by
  refine captureLaw_iff.mpr ⟨by rw [k.capture]; exact h.unit, fun e he => k.told _ ?_⟩
  rw [k.capture] at he
  exact h.told e he

theorem SparesCaptures.refl (s : State) : SparesCaptures s s := ⟨rfl, fun _ => id⟩

theorem SparesCaptures.trans (h : SparesCaptures s u) (k : SparesCaptures u t) : SparesCaptures s t :=
  ⟨k.capture.trans h.capture, fun ch told => k.told ch (h.told ch told)⟩

/-- Composition with the later part first, whose type says where it begins. -/
theorem SparesCaptures.after (k : SparesCaptures u t) (h : SparesCaptures s u) : SparesCaptures s t := h.trans k

theorem SparesCaptures.of_view (hv : t.captureView = s.captureView) : SparesCaptures s t := by
  simp only [State.captureView, Prod.mk.injEq] at hv
  obtain ⟨capture, live, disables⟩ := hv
  exact ⟨capture, fun ch told => by rw [State.Told, live, disables]; exact told⟩

theorem CaptureLaw.of_view (h : CaptureLaw s) (hv : t.captureView = s.captureView) : CaptureLaw t :=
  h.spared (.of_view hv)

/-- One live part changes and is not disabled by it. -/
theorem SparesCaptures.of_set {i : Fin 16} {l : Live} (hc : t.capture = s.capture) (hl : t.live = s.live.set i l)
    (hd : t.handOffs.disables = s.handOffs.disables) (hs : l.service = .off → s.live[i].service = .off) :
    SparesCaptures s t := by
  refine ⟨hc, fun ch told => ?_⟩
  rw [State.Told, hl, hd, get_set]
  split
  · rename_i same
    subst same
    exact fun off => told (hs off)
  · exact told

/-- The live parts change in something else than their service states. -/
theorem SparesCaptures.of_service (hc : t.capture = s.capture) (hd : t.handOffs.disables = s.handOffs.disables)
    (hs : ∀ i : Fin 16, t.live[i].service = s.live[i].service) : SparesCaptures s t :=
  ⟨hc, fun ch told => by rw [State.Told, hs, hd]; exact told⟩

/-! ### Records -/

theorem SparesCaptures.takeSecond (g : SecondHandOff) (s : State) : SparesCaptures s (s.takeSecond g) := by
  refine .of_service (by simp) (by simp) fun i => ?_
  have keeps (l : Live) (hl : l.service = s.live[g.channel].service) :
      (s.live.set g.channel l)[i].service = s.live[i].service := by
    rw [get_set]
    split
    · rename_i same
      rw [same, hl]
    · rfl
  rcases s.takeSecond_cases g with ⟨-, off⟩ | ⟨-, offered⟩ | ⟨-, -, evaluated⟩
  · rw [off]
  · rw [offered]
    rcases State.offerLearning_cases g (s.setLive g.channel (s.live[g.channel].keeping g)) with
      ⟨same, -⟩ | ⟨-, -, _, -, -, o, f, learnt, -⟩
    · rw [same]
      exact keeps _ rfl
    · rw [learnt, State.setLive_live, get_set_same, Vector.set_set]
      exact keeps _ rfl
  · rw [evaluated]
    exact keeps _ (evaluated_service _ _ _ _)

theorem secondPassed_service (cfg : Settings) (v : FieldView) (l : Live) : (secondPassed cfg v l).service = l.service := by
  cases service : l.service with
  | off => simp only [secondPassed, service]
  | outOfService => simp only [secondPassed, service, coolingUpdate]
  | inService =>
    simp only [secondPassed, service]
    split
    · exact evaluated_service _ _ _ _
    · rfl

theorem SparesCaptures.recordSecond (i : Fin 16) (stamp : Stamp) (s : State) :
    SparesCaptures s (s.recordSecond i stamp) :=
  .of_set (by simp) (s.recordSecond_live i stamp) (by simp) fun off => by rwa [secondPassed_service] at off

theorem SparesCaptures.energise (i : Fin 16) (s : State) : SparesCaptures s (s.energise i) := by
  rcases s.energise_table i with ⟨-, hl, -⟩ | ⟨-, same⟩
  · exact .of_set (by simp) hl (by simp) (by rintro ⟨⟩)
  · rw [same]
    exact .refl s

theorem SparesCaptures.deenergise (i : Fin 16) (s : State) : SparesCaptures s (s.deenergise i) := by
  rcases s.deenergise_table i with ⟨-, hl, -⟩ | ⟨-, same⟩
  · exact .of_set (by simp) hl (by simp) (by rintro ⟨⟩)
  · rw [same]
    exact .refl s

/-! ### Settings -/

/-- A disable is told to the Capture Unit (R8). -/
theorem SparesCaptures.disableTransformer (i : Fin 16) (s : State) : SparesCaptures s (s.disableTransformer i) := by
  refine ⟨by simp, fun ch told => ?_⟩
  rw [State.Told, (s.disableTransformer_table i).1, s.disableTransformer_disables i, get_set]
  split
  · rename_i same
    exact fun _ => by simp [same]
  · exact fun off => List.mem_append_left _ (told off)

theorem SparesCaptures.enableTransformer (i : Fin 16) (s : State) : SparesCaptures s (s.enableTransformer i) := by
  refine .of_set (by simp) (s.enableTransformer_table i).1 (by simp) fun off => ?_
  unfold Live.enabled at off
  split at off <;> cases off

theorem SparesCaptures.offsetAndLearning (i : Fin 16) (before after : Settings) (s : State) :
    SparesCaptures s (s.offsetAndLearning i before after) := by
  refine .of_set (l := s.live[i].withOffset before after) ?_ (s.offsetAndLearning_table i before after).1 ?_ ?_
  · simp only [State.offsetAndLearning, State.whenChanged]
    (repeat' split) <;> simp
  · simp only [State.offsetAndLearning, State.whenChanged]
    (repeat' split) <;> simp
  · unfold Live.withOffset
    split <;> exact id

theorem SparesCaptures.settingsEffects (i : Fin 16) (before after : Settings) (s : State) :
    SparesCaptures s (s.settingsEffects i before after) := by
  have first := SparesCaptures.offsetAndLearning i before after s
  rw [State.settingsEffects_eq]
  split
  · exact first.trans (.disableTransformer i _)
  · exact first.trans (.enableTransformer i _)
  · exact first

/-! ### Flags -/

theorem SparesCaptures.acknowledgeTransformers (named : TransformerSet) (s : State) :
    SparesCaptures s (s.acknowledgeTransformers named) := by
  refine .of_service (by simp) (by simp) fun i => ?_
  have : (s.acknowledgeTransformers named).live[i] =
      if named.getLsbD i then { s.live[i] with unacknowledged := false } else s.live[i] := get_ofFn _ i
  rw [this]
  split <;> rfl

theorem SparesCaptures.suppressTransformers (named : TransformerSet) (value : Bool) (s : State) :
    SparesCaptures s (s.suppressTransformers named value) := by
  refine .of_service (by simp) (by simp) fun i => ?_
  have : (s.suppressTransformers named value).live[i] =
      if named.getLsbD i then { s.live[i] with suppressed := value } else s.live[i] := get_ofFn _ i
  rw [this]
  split <;> rfl

theorem SparesCaptures.panelReleased (s : State) : SparesCaptures s s.panelReleased := by
  simp only [State.panelReleased]
  split
  case h_2 =>
    have idle : SparesCaptures s (s.setPanel .idle false) := .of_view (by simp [State.captureView])
    have cleared := idle.trans (.acknowledgeTransformers 0xFFFF (s.setPanel .idle false))
    exact cleared.trans (.of_view (by simp [State.captureView]))
  all_goals exact .of_view (by simp [State.captureView])

/-! ### Clock seconds of the records -/

theorem SparesCaptures.takeRecordTick (i : Fin 16) (s : State) : SparesCaptures s (s.takeRecordTick i) := by
  simp only [State.takeRecordTick]
  split
  · exact .refl s
  · exact (SparesCaptures.recordSecond i _ _).after (.of_view rfl)

theorem SparesCaptures.recordClock (stamp : Stamp) (i : Fin 16) (s : State) :
    SparesCaptures s (s.recordClock stamp i) := by
  simp only [State.recordClock]
  split
  · exact (SparesCaptures.takeRecordTick i s).trans (.of_view rfl)
  · exact (SparesCaptures.takeRecordTick i s).trans (.recordSecond i stamp _)

theorem SparesCaptures.recordClocks (stamp : Stamp) (l : List (Fin 16)) (s : State) :
    SparesCaptures s (l.foldl (fun u i => u.recordClock stamp i) s) := by
  induction l generalizing s with
  | nil => exact .refl s
  | cons i l ih => exact (SparesCaptures.recordClock stamp i s).trans (ih _)

theorem SparesCaptures.settleClock (s : State) : SparesCaptures s s.settleClock := .of_view (by simp [State.captureView])

end

end Sys2Proof.Machine
end

section
/-! The law of captures along the operations of the Capture Unit (R140 to R148). -/

namespace Sys2Proof.Machine

theorem PendingEntry.tick_channel (stamp : Stamp) (e : PendingEntry) : (e.tick stamp).channel = e.channel := by
  unfold PendingEntry.tick
  split <;> rfl

section
variable {s : State} (h : CaptureLaw s)
include h

/-- The Capture Unit changes under its own laws, and no channel has an entry that had none. -/
theorem CaptureLaw.setCapture {c : CaptureUnit} (law : UnitLaw c)
    (waiting : ∀ e ∈ c.waiting, ∃ f ∈ s.capture.waiting, f.channel = e.channel) : CaptureLaw (s.setCapture c) :=
  captureLaw_iff.mpr ⟨law, fun e he => by
    obtain ⟨f, hf, same⟩ := waiting e he
    rw [← same]
    exact h.told f hf⟩

/-- So it is where the pending set stays. -/
theorem CaptureLaw.setCapture_waiting {c : CaptureUnit} (law : UnitLaw c) (same : c.waiting = s.capture.waiting) :
    CaptureLaw (s.setCapture c) := h.setCapture law fun e he => ⟨e, same ▸ he, rfl⟩

/-- Entries change and keep their channels. -/
theorem CaptureLaw.mapWaiting {f : PendingEntry → PendingEntry} (hf : ∀ e, (f e).channel = e.channel) :
    CaptureLaw (s.setCapture { s.capture with waiting := s.capture.waiting.map f }) :=
  h.setCapture (h.unit.mapWaiting hf) fun _ he => by
    obtain ⟨g, hg, rfl⟩ := List.mem_map.mp he
    exact ⟨g, hg, (hf g).symm⟩

/-- Entries leave. -/
theorem CaptureLaw.filterWaiting (p : PendingEntry → Bool) :
    CaptureLaw (s.setCapture { s.capture with waiting := s.capture.waiting.filter p }) :=
  h.setCapture (h.unit.filterWaiting p) fun e he => ⟨e, (List.mem_filter.mp he).1, rfl⟩

theorem CaptureLaw.emitTransformer (i : Fin 16) (k : TransitionKind) (v : Option (Level × Level)) (x d : Option Nat)
    (stamp : Stamp) : CaptureLaw (s.emitTransformer i k v x d stamp) := h.of_view rfl

/-! ### Starts and ends -/

theorem CaptureLaw.startCapture (ch : Fin 16) (cause : CaptureCause) (stamp : Stamp) {pre : Nat} (post : Nat)
    (delay : Option Nat) (none_active : s.capture.activeRecord = none) (room : s.capture.hasRoom pre = true) :
    CaptureLaw (s.startCapture ch cause stamp pre post delay) :=
  h.setCapture_waiting (h.unit.started _ ch cause stamp post delay none_active room)
    (CaptureUnit.waiting_foldl_storeCycle _ _)

/-- Serving starts at most one capture, where none is active (R145). -/
theorem CaptureLaw.serve (none_active : s.capture.activeRecord = none) : CaptureLaw s.serve := by
  unfold State.serve
  split
  · exact h
  · split
    · rename_i e _ _ room
      exact (h.filterWaiting _).startCapture e.channel e.cause e.stamp e.post _ none_active room
    · exact h

theorem CaptureLaw.endCapture (truncated : Bool) (stamp : Stamp) : CaptureLaw (s.endCapture truncated stamp) := by
  unfold State.endCapture
  split
  · exact h
  · have ended := h.setCapture_waiting
      (h.unit.updateActive_same (f := fun q => { q with state := .done, truncated := truncated }) fun _ => rfl) rfl
    exact (ended.emitTransformer _ _ _ _ _ _).serve (CaptureUnit.activeRecord_ended fun _ => rfl)

theorem CaptureLaw.captureNotice (named : Fin 16 → Bool) : CaptureLaw (s.captureNotice named) := by
  unfold State.captureNotice
  split
  · exact h
  · split
    · exact h.endCapture true s.time.now
    · exact h

/-! ### Cycles -/

/-- The active record changes and holds the slots it held. -/
theorem CaptureLaw.updateActive {f : CaptureRecord → CaptureRecord} (hf : ∀ q, (f q).length = q.length) :
    CaptureLaw (s.setCapture (s.capture.updateActive f)) :=
  h.setCapture_waiting (h.unit.updateActive_same hf) rfl

/-- A cycle is stored where 32 slots are free (R142). -/
theorem CaptureLaw.storeCycle (codes : List Int) (room : Config.cycleSamples ≤ s.capture.freeSlots) :
    CaptureLaw (s.setCapture ((s.capture.storeCycle codes).updateActive fun q =>
      { q with postStored := q.postStored + 1 })) := by
  have free : usedSlots s.capture.records + 32 ≤ 16384 := by
    simp only [Config.cycleSamples, CaptureUnit.freeSlots, Config.captureSlots] at room
    omega
  have grown (q : CaptureRecord) :
      CaptureRecord.length { q with postStored := q.postStored + 1 } ≤ q.length + 32 := by
    simp only [CaptureRecord.length, Config.cycleSamples]
    omega
  exact h.setCapture_waiting ((h.unit.storeCycle codes).updateActive 32 grown free) rfl

theorem CaptureLaw.fillCapture (r : CaptureRecord) (codes : List Int) : CaptureLaw (s.fillCapture r codes) := by
  unfold State.fillCapture
  split
  · split
    · rename_i room
      split
      · exact (h.storeCycle codes room).endCapture false s.time.now
      · exact h.storeCycle codes room
    · split
      · exact h.updateActive fun _ => rfl
      · exact h.endCapture true s.time.now
  · exact h.updateActive fun _ => rfl
  · exact h

theorem CaptureLaw.offerCycle (ch : Fin 16) (codes : List Int) : CaptureLaw (s.offerCycle ch codes) := by
  have counted : CaptureLaw (s.setCapture (s.capture.countCycle ch)) := h.mapWaiting fun e => by split <;> rfl
  simp only [State.offerCycle]
  split
  · exact counted
  · split
    · exact counted.fillCapture _ codes
    · exact counted

/-! ### Triggers -/

/-- An entry joins for a channel that has none and is not disabled (R146). -/
theorem CaptureLaw.addPending {ch : Fin 16} (cause : CaptureCause) (stamp : Stamp) (pre post : Nat)
    (free : s.capture.entryOf ch = none) (enabled : s.live[ch].service ≠ .off) :
    CaptureLaw (s.setCapture (s.capture.addPending ch cause stamp pre post)) := by
  refine captureLaw_iff.mpr ⟨h.unit.addPending cause stamp pre post free, fun e he => ?_⟩
  rcases List.mem_append.mp he with waits | joins
  · exact h.told e waits
  · rw [List.mem_singleton.mp joins]
    exact fun off => absurd off enabled

theorem CaptureLaw.startOrWait {ch : Fin 16} (cause : CaptureCause) (stamp : Stamp) (pre post : Nat)
    (free : s.capture.entryOf ch = none) (enabled : s.live[ch].service ≠ .off) :
    CaptureLaw (s.startOrWait ch cause stamp pre post) := by
  unfold State.startOrWait
  split
  · rename_i starts
    obtain ⟨none_active, room⟩ := Bool.and_eq_true_iff.mp starts
    exact h.startCapture ch cause stamp post none (Option.isNone_iff_eq_none.mp none_active) room
  · exact h.addPending cause stamp pre post free enabled

theorem CaptureLaw.raiseTarget (target : Nat) : CaptureLaw (s.setCapture (s.capture.raiseTarget target)) :=
  h.updateActive fun _ => rfl

theorem CaptureLaw.levelTriggered (g : TriggerHandOff) : CaptureLaw (s.levelTriggered g) := by
  unfold State.levelTriggered
  split
  · exact h
  · rename_i enabled
    split
    · exact h.raiseTarget _
    · split
      · exact h.mapWaiting fun e => by split <;> rfl
      · rename_i free
        exact h.startOrWait .level g.stamp g.pre g.post (Option.not_isSome_iff_eq_none.mp free) enabled

/-! ### Clock seconds and disables -/

theorem CaptureLaw.missCapture (ch : Fin 16) (stamp : Stamp) : CaptureLaw (s.missCapture ch stamp) :=
  (h.filterWaiting _).emitTransformer _ _ _ _ _ _

omit h in
theorem CaptureLaw.foldl_missEntry (l : List PendingEntry) (h : CaptureLaw s) : CaptureLaw (l.foldl State.missEntry s) := by
  induction l generalizing s with
  | nil => exact h
  | cons e l ih =>
    refine ih (s := s.missEntry e) ?_
    cases waits : e.expiry with
    | none =>
      rw [State.missEntry_of_none waits]
      exact h
    | some stamp =>
      rw [State.missEntry_of_some waits]
      exact h.missCapture e.channel stamp

theorem CaptureLaw.captureSecond (stamp : Stamp) : CaptureLaw (s.captureSecond stamp) :=
  (CaptureLaw.foldl_missEntry s.capture.waiting h).mapWaiting (PendingEntry.tick_channel stamp)

/-- The report of a disable that has reached the unit takes the channel's entry out, so that it need not be on its way any
longer (R148). -/
theorem CaptureLaw.captureDisabled {ch : Fin 16} {before after : List (Fin 16)}
    (held : s.handOffs.disables = before ++ ch :: after) :
    CaptureLaw ((s.setHandOffs { s.handOffs with disables := before ++ after }).captureDisabled ch) := by
  have dropped : CaptureLaw ((s.setHandOffs { s.handOffs with disables := before ++ after }).setCapture
      (s.capture.dropPending ch)) := by
    refine captureLaw_iff.mpr ⟨h.unit.filterWaiting _, fun e he off => ?_⟩
    obtain ⟨waits, other⟩ := List.mem_filter.mp he
    have told := h.told e waits off
    simp only [held, List.mem_append, List.mem_cons, bne_iff_ne.mp other, false_or] at told
    exact List.mem_append.mpr told
  exact dropped.captureNotice _

end

end Sys2Proof.Machine
end

section
/-! The law of captures along the sample path, over clock seconds and over the host's requests (R141, R142, R146, R149). -/

namespace Sys2Proof.Machine

theorem CaptureUnit.resumed_waiting (c : CaptureUnit) : c.resumed.waiting = c.waiting := by
  unfold CaptureUnit.resumed
  split <;> rfl

theorem State.completeBlock_disables (ch : Fin 16) (gain : Nat) (s : State) :
    (s.completeBlock ch gain).handOffs.disables = s.handOffs.disables := by
  rw [State.completeBlock_eq]
  split <;> rfl

section
variable {s : State} (h : CaptureLaw s)
include h

/-! ### The sample path -/

theorem CaptureLaw.emitDevice (k : TransitionKind) (d : Option Nat) (stamp : Stamp) : CaptureLaw (s.emitDevice k d stamp) :=
  h.of_view rfl

theorem CaptureLaw.setConverter (c : Fin 5) (v : Converter) : CaptureLaw (s.setConverter c v) := h.of_view rfl

theorem CaptureLaw.cycleOffered (ch : Fin 16) (codes : List Int) : CaptureLaw (s.cycleOffered ch codes) :=
  CaptureLaw.offerCycle (s := s.setChannel ch (s.channels[ch].cycled codes)) (h.of_view rfl) ch codes

/-- Whichever way a complete cycle leaves its channel, it was offered to the Capture Unit (R39). -/
theorem CaptureLaw.completeCycle (ch : Fin 16) (p : PartialCycle) : CaptureLaw (s.completeCycle ch p) := by
  have offered := h.cycleOffered ch p.codes
  rw [State.completeCycle_eq]
  split
  · exact offered.of_view (by simp [State.captureView, State.completeBlock_disables])
  · exact offered.of_view rfl

theorem CaptureLaw.takeSample (ch : Fin 16) (code : Int) (tag : Tag) : CaptureLaw (s.takeSample ch code tag) := by
  rcases Nat.lt_or_ge (s.nextCycle ch code tag).codes.length 32 with short | full
  · rw [State.takeSample_joins short]
    exact h.of_view rfl
  · rw [State.takeSample_completes full]
    exact CaptureLaw.completeCycle (by exact h.of_view rfl) ch _

theorem CaptureLaw.takeGroup (g : SampleGroup) : CaptureLaw (s.takeGroup g) := by
  cases g with
  | current c seq x =>
    simp only [State.takeGroup]
    exact (((h.takeSample _ _ _).takeSample _ _ _).takeSample _ _ _).takeSample _ _ _
  | field seq north east tag => exact h.of_view (by simp [State.captureView, State.takeGroup])

theorem CaptureLaw.abandon (named : Fin 16 → Bool) : CaptureLaw (s.abandon named) :=
  CaptureLaw.captureNotice (s := s.abandonChannels named) (h.of_view rfl) named

theorem CaptureLaw.abandonConverter (c : Fin 5) : CaptureLaw (s.abandonConverter c) := by
  simp only [State.abandonConverter]
  split
  · exact h.of_view rfl
  · exact h.abandon _

omit h in
theorem CaptureLaw.handFills (f : Frame) (n : Nat) (q : Byte) (h : CaptureLaw s) : CaptureLaw (s.handFills f q n) := by
  induction n generalizing s q with
  | zero => exact h
  | succ n ih => exact ih (q + 1) (h.takeGroup _)

theorem CaptureLaw.handOwn (f : Frame) : CaptureLaw (s.handOwn f) := by
  simp only [State.handOwn]
  split
  · exact h.takeGroup _
  · exact CaptureLaw.takeGroup (by exact h.of_view rfl) _

theorem CaptureLaw.handleStatus (f : Frame) : CaptureLaw (s.handleStatus f) :=
  h.of_view (by simp [State.captureView])

theorem CaptureLaw.followRef (f : Frame) : CaptureLaw (s.followRef f) := h.of_view (by simp [State.captureView])

theorem CaptureLaw.firstFrame (f : Frame) : CaptureLaw (s.firstFrame f) := by
  simp only [State.firstFrame]
  split <;> exact CaptureLaw.handOwn (h.of_view (by simp [State.captureView])) f

theorem CaptureLaw.resync (f : Frame) : CaptureLaw (s.resync f) := by
  have noticed := (h.abandonConverter f.converter).emitDevice .converterResync (some f.converter.val) s.time.now
  have seen (v : Converter) := noticed.setConverter f.converter v
  exact (((seen _).followRef f).handleStatus f).handOwn f

theorem CaptureLaw.judge (f : Frame) : CaptureLaw (s.judge f) := by
  simp only [State.judge]
  split
  · exact h.firstFrame f
  · split
    · exact h
    · split
      · exact (((CaptureLaw.handFills f _ _ h).handleStatus f).followRef f).handOwn f
      · exact h.resync f

theorem CaptureLaw.takeHead (wanted : Frame → Bool) : CaptureLaw (s.takeHead wanted) := by
  simp only [State.takeHead]
  split
  · exact h
  · split
    · exact CaptureLaw.judge (by exact h.of_view rfl) _
    · exact h

theorem CaptureLaw.silenceExpired (c : Fin 5) : CaptureLaw (s.silenceExpired c) := by
  by_cases expired : (s.converter c).timer = some 0
  · by_cases absent : (s.converter c).state = .absent
    · rw [State.silenceExpired_absent expired absent]
      exact h.of_view rfl
    · rw [State.silenceExpired_present expired absent]
      have disables : (s.silenced c).handOffs.disables = s.handOffs.disables := by
        simp only [State.silenced]
        split <;> rfl
      have told : CaptureLaw (s.silenced c) := h.of_view (by rw [State.captureView, disables]; rfl)
      exact (told.emitDevice _ _ _).abandonConverter c
  · rw [State.silenceExpired_of_ne expired]
    exact h

/-! ### Clock seconds -/

/-- Of the blocks that take a clock second the Capture Unit alone changes what the law reads (R146, R175). -/
theorem CaptureLaw.blocksClock (stamp : Stamp) : CaptureLaw (s.blocksClock stamp) := by
  have records := h.spared (.recordClocks stamp allSixteen s)
  simp only [State.blocksClock]
  generalize allSixteen.foldl (fun u i => u.recordClock stamp i) s = u at records ⊢
  have before : CaptureLaw ((u.fieldClock stamp).trackerClock stamp) := records.of_view (by simp [State.captureView])
  exact (before.captureSecond stamp).of_view (by simp [State.captureView])

theorem CaptureLaw.oscillatorSecond : CaptureLaw s.oscillatorSecond := by
  rw [State.oscillatorSecond_eq]
  exact CaptureLaw.blocksClock (by exact h.of_view rfl) _

theorem CaptureLaw.supervisedSecond : CaptureLaw s.supervisedSecond := by
  simp only [State.supervisedSecond]
  split
  · exact h.oscillatorSecond
  · exact CaptureLaw.blocksClock (by exact h.of_view rfl) _

theorem CaptureLaw.ppsEdgeAt (now : Nat) : CaptureLaw (s.ppsEdgeAt now) := by
  simp only [State.ppsEdgeAt]
  repeat' split
  · exact h
  · exact h
  · exact CaptureLaw.supervisedSecond (by exact h.of_view rfl)
  · exact CaptureLaw.oscillatorSecond (by exact h.of_view rfl)

theorem CaptureLaw.ppsFails : CaptureLaw s.ppsFails := by
  simp only [State.ppsFails]
  split
  · exact CaptureLaw.supervisedSecond (by exact h.of_view rfl)
  · exact h

theorem CaptureLaw.settleClock : CaptureLaw s.settleClock := h.spared (.settleClock s)

/-! ### Requests that change captures -/

variable (r : Request)

theorem CaptureLaw.answer (status : Status) (body : List Byte) : CaptureLaw (s.answer r status body) := h.of_view rfl

theorem CaptureLaw.withTransformer (n : Nat) {f : Fin 16 → State → State} (hf : ∀ i, CaptureLaw (f i s)) :
    CaptureLaw (s.withTransformer n r f) := by
  simp only [State.withTransformer]
  split
  · exact h.answer r _ _
  · exact hf _

/-- A capture request starts, extends or joins the pending set (R149). -/
theorem CaptureLaw.captureNow {ch : Fin 16} (enabled : s.live[ch].service ≠ .off) : CaptureLaw (s.captureNow ch r) := by
  simp only [State.captureNow]
  split
  · exact h.answer r _ _
  · rename_i waits
    have free := Option.not_isSome_iff_eq_none.mp waits
    split
    · exact (h.raiseTarget _).answer r _ _
    · split
      · exact (h.startOrWait .request _ _ _ free enabled).answer r _ _
      · exact (h.startOrWait .request _ _ _ free enabled).answer r _ _

theorem CaptureLaw.handleCaptureNow : CaptureLaw (handleCaptureNow r s) := by
  refine h.withTransformer r _ fun ch => ?_
  split
  · exact h.answer r _ _
  · rename_i enabled
    exact h.captureNow r enabled

theorem CaptureLaw.handleExtendCapture : CaptureLaw (handleExtendCapture r s) := by
  simp only [Machine.handleExtendCapture]
  split
  · exact h.answer r _ _
  · split
    · exact (h.raiseTarget _).answer r _ _
    · exact h.answer r _ _

/-- A release takes a record out, a SUSPENDED capture may resume, and the pending set is served where none is active (R153). -/
theorem CaptureLaw.releaseOldest : CaptureLaw s.releaseOldest := by
  have next := h.setCapture_waiting h.unit.released.resumed (by exact CaptureUnit.resumed_waiting _)
  simp only [State.releaseOldest]
  split
  · rename_i none_active
    exact next.serve (Option.isNone_iff_eq_none.mp none_active)
  · exact next

theorem CaptureLaw.handleRelease : CaptureLaw (handleRelease r s) := by
  simp only [Machine.handleRelease]
  split
  · exact h.answer r _ _
  · split
    · exact h.releaseOldest.answer r _ _
    · exact h.answer r _ _

/-! ### Requests that change settings or flags -/

omit h in
theorem State.whenChanged_captureView {f : State → State} (changed : Bool) (u : State)
    (hf : (f u).captureView = u.captureView) : (u.whenChanged changed f).captureView = u.captureView := by
  cases changed
  · rfl
  · exact hf

omit h in
/-- But for the abandon the effects of written device settings leave the Capture Unit alone (R179). -/
theorem State.deviceEffects_captureView (before after : DeviceSettings) (now : Nat) :
    (s.deviceEffects before after now).captureView =
      (s.whenChanged (before.mains != after.mains) (State.abandon fun _ => true)).captureView := by
  simp only [State.deviceEffects]
  refine (State.whenChanged_captureView _ _ (by simp [State.captureView])).trans ?_
  refine (State.whenChanged_captureView _ _ (by simp [State.captureView])).trans ?_
  refine (State.whenChanged_captureView _ _ (by simp [State.captureView])).trans ?_
  exact State.whenChanged_captureView _ _ (by simp [State.captureView])

theorem CaptureLaw.handleWriteDevice (now : Nat) : CaptureLaw (handleWriteDevice now r s) := by
  simp only [Machine.handleWriteDevice]
  split
  · exact h.answer r _ _
  · have stored : CaptureLaw (s.setDevice (deviceOf r.body s.cfg.device.noticeMask)) := h.of_view rfl
    refine CaptureLaw.of_view (s := State.whenChanged _ _ _) ?_ (State.deviceEffects_captureView _ _ _)
    unfold State.whenChanged
    split
    · exact stored.abandon _
    · exact stored

theorem CaptureLaw.handleWriteSettings : CaptureLaw (handleWriteSettings r s) := by
  simp only [Machine.handleWriteSettings]
  split
  · exact h.answer r _ _
  · refine h.withTransformer r _ fun i => ?_
    simp only [State.writeSettings]
    split
    · exact h.answer r _ _
    · have stored : CaptureLaw (s.setSettings i (settingsOf (r.body.drop 1))) := h.of_view rfl
      exact (stored.spared (.settingsEffects i _ _ _)).answer r _ _

theorem CaptureLaw.handleAcknowledge : CaptureLaw (handleAcknowledge r s) := by
  refine (h.spared (.acknowledgeTransformers (BitVec.ofNat 16 (u16 r.body 0)) s)).of_view ?_
  simp only [Machine.handleAcknowledge, State.whenChanged]
  split <;> simp [State.captureView]

theorem CaptureLaw.handleSuppress : CaptureLaw (handleSuppress r s) := by
  simp only [Machine.handleSuppress]
  split
  · exact h.answer r _ _
  · exact (h.spared (.suppressTransformers _ _ s)).answer r _ _

end

end Sys2Proof.Machine
end

section
/-! Requests that leave alone what the law of captures reads. -/

namespace Sys2Proof.Machine

section
variable (r : Request) (s : State)

theorem handleSetClock_captureView : (handleSetClock r s).captureView = s.captureView := by
  simp only [handleSetClock]
  split <;> rfl

theorem State.withTransformer_captureView (n : Nat) (f : Fin 16 → State → State)
    (hf : ∀ i, (f i s).captureView = s.captureView) : (s.withTransformer n r f).captureView = s.captureView := by
  simp only [State.withTransformer]
  split
  · rfl
  · exact hf _

theorem handleReadSnapshot_captureView : (handleReadSnapshot r s).captureView = s.captureView := by
  simp only [handleReadSnapshot]
  split
  · rfl
  · exact s.withTransformer_captureView r _ _ fun _ => rfl

theorem handleLoadResponse_captureView : (handleLoadResponse r s).captureView = s.captureView := by
  simp only [handleLoadResponse]
  (repeat' split) <;> rfl

theorem handleReadField_captureView : (handleReadField r s).captureView = s.captureView := by
  simp only [handleReadField]
  split <;> rfl

theorem handleReadMap_captureView : (handleReadMap r s).captureView = s.captureView := by
  simp only [handleReadMap]
  split <;> rfl

theorem handleWriteMap_captureView : (handleWriteMap r s).captureView = s.captureView := by
  simp only [handleWriteMap]
  (repeat' split) <;> simp [State.captureView]

theorem handleChangeMask_captureView : (handleChangeMask r s).captureView = s.captureView := by
  simp only [handleChangeMask]
  split <;> rfl

theorem handleFetchTransitions_captureView : (handleFetchTransitions r s).captureView = s.captureView := by
  simp only [handleFetchTransitions]
  split <;> rfl

theorem handleReadEpisode_captureView : (handleReadEpisode r s).captureView = s.captureView := by
  simp only [handleReadEpisode]
  split <;> rfl

theorem handleReadEntry_captureView : (handleReadEntry r s).captureView = s.captureView := by
  simp only [handleReadEntry]
  split <;> rfl

theorem handleCloseEpisode_captureView : (handleCloseEpisode r s).captureView = s.captureView := by
  simp only [handleCloseEpisode]
  split <;> rfl

theorem handleListCaptures_captureView : (handleListCaptures r s).captureView = s.captureView := by
  simp only [handleListCaptures]
  (repeat' split) <;> rfl

theorem handleReadSamples_captureView : (handleReadSamples r s).captureView = s.captureView := by
  simp only [handleReadSamples]
  split <;> rfl

theorem handleClearFault_captureView : (handleClearFault r s).captureView = s.captureView := by
  simp only [handleClearFault]
  (repeat' split) <;> simp [State.captureView]

theorem handleSave_captureView : (handleSave r s).captureView = s.captureView := by
  simp only [handleSave]
  split <;> rfl

theorem State.serveUnknown_captureView : s.serveUnknown.captureView = s.captureView := by
  simp only [State.serveUnknown]
  (repeat' split) <;> rfl

theorem State.serveRestart_captureView : s.serveRestart.captureView = s.captureView := by
  simp only [State.serveRestart]
  (repeat' split) <;> rfl

theorem State.saveEnds_captureView (agrees : Bool) : (s.saveEnds agrees).captureView = s.captureView := by
  simp only [State.saveEnds]
  (repeat' split) <;> rfl

end

end Sys2Proof.Machine
end

section
/-! Every step keeps the law of captures (R137, R139 to R141, R146, R148). -/

namespace Sys2Proof.Machine

/-- After a start-up there is neither a capture nor an entry (R137, R181). -/
theorem captureLaw_startUp (cause : ResetCause) (rateHigh : Bool) (s : State) : CaptureLaw (s.startUp cause rateHigh) where
  list := Nat.zero_le _
  slots := Nat.zero_le _
  active := Nat.zero_le _
  onePerChannel := List.nodup_nil
  disabled := by rintro _ ⟨⟩
  memory := rfl
  writePos := Nat.zero_lt_succ _

section
variable {s u : State} (h : CaptureLaw s)
include h

/-! ### Requests -/

/-- A request row keeps the law where its handler does. -/
theorem CaptureLaw.serveRequest (k : Byte) {f : Request → State → State}
    (hf : ∀ r v, CaptureLaw v → CaptureLaw (f r v)) : CaptureLaw (s.serveRequest k f) := by
  rcases serveRequest_cases k f s with same | ⟨r, -, bad | ⟨-, served⟩⟩
  · rw [same]; exact h
  · rw [bad]; exact h.of_view rfl
  · rw [served]; exact hf r _ (h.of_view rfl)

/-- So it does where its handler leaves alone what the law reads. -/
theorem CaptureLaw.served (k : Byte) {f : Request → State → State} (hf : ∀ r v, (f r v).captureView = v.captureView) :
    CaptureLaw (s.serveRequest k f) := h.serveRequest k fun r v hv => hv.of_view (hf r v)

/-! ### Events that wait -/

theorem CaptureLaw.execMeasuredSecond (i : Fin 16) (e : execMeasuredSecond i s = .next u) : CaptureLaw u := by
  simp only [Machine.execMeasuredSecond] at e
  split at e <;> cases e
  · exact h
  · exact h.spared ((SparesCaptures.takeSecond _ _).after (.of_view rfl))

theorem CaptureLaw.execStandInSecond (i : Fin 16) (e : execStandInSecond i s = .next u) : CaptureLaw u := by
  simp only [Machine.execStandInSecond] at e
  split at e <;> cases e
  · exact (h.spared (.takeRecordTick i s)).settleClock
  · exact h

theorem CaptureLaw.execEpisodeHandoff (i : Fin 16) (e : execEpisodeHandoff i s = .next u) : CaptureLaw u := by
  simp only [Machine.execEpisodeHandoff] at e
  split at e <;> cases e
  · exact h
  · exact h.of_view (by simp [State.captureView])

theorem CaptureLaw.execEnergised (i : Fin 16) (e : execEnergised i s = .next u) : CaptureLaw u := by
  simp only [Machine.execEnergised] at e
  split at e
  · cases e; exact h
  · split at e <;> cases e
    · exact h.spared ((SparesCaptures.energise i _).after (.of_view rfl))
    · exact h

theorem CaptureLaw.execDeenergised (i : Fin 16) (e : execDeenergised i s = .next u) : CaptureLaw u := by
  simp only [Machine.execDeenergised] at e
  split at e
  · cases e; exact h
  · split at e <;> cases e
    · exact h
    · exact h.spared ((SparesCaptures.deenergise i _).after (.of_view rfl))

theorem CaptureLaw.execPanelPress (e : execPanelPress s = .next u) : CaptureLaw u := by
  simp only [Machine.execPanelPress] at e
  split at e <;> cases e
  · exact h.of_view (by simp [State.captureView])
  · exact h

theorem CaptureLaw.execPanelRelease (e : execPanelRelease s = .next u) : CaptureLaw u := by
  simp only [Machine.execPanelRelease] at e
  split at e <;> cases e
  · exact h.spared ((SparesCaptures.panelReleased _).after (.of_view rfl))
  · exact h

theorem CaptureLaw.execContactReport (e : execContactReport s = .next u) : CaptureLaw u := by
  simp only [Machine.execContactReport] at e
  split at e <;> cases e
  · exact h
  · exact h.of_view (by simp [State.captureView])

theorem CaptureLaw.execLevelTrigger (ch : Fin 16) (e : execLevelTrigger ch s = .next u) : CaptureLaw u := by
  simp only [Machine.execLevelTrigger] at e
  split at e <;> cases e
  · exact h
  · exact CaptureLaw.levelTriggered (by exact h.of_view rfl) _

theorem CaptureLaw.execCaptureDisableReport (ch : Fin 16) (e : execCaptureDisableReport ch s = .next u) : CaptureLaw u := by
  simp only [Machine.execCaptureDisableReport] at e
  split at e <;> cases e
  · exact h
  · rename_i taken
    obtain ⟨before, after, all, rfl, same, -⟩ := takeFirst_eq_some.mp taken
    rw [beq_iff_eq.mp same] at all
    exact h.captureDisabled all

theorem CaptureLaw.execCaptureMissed (ch : Fin 16) (e : execCaptureMissed ch s = .next u) : CaptureLaw u := by
  simp only [Machine.execCaptureMissed] at e
  split at e <;> cases e
  · exact h
  · exact h.missCapture ch _

theorem CaptureLaw.execTenthAdvance (e : execTenthAdvance s = .next u) : CaptureLaw u := by
  cases e
  (repeat' split) <;> exact h.of_view rfl

theorem CaptureLaw.execClockSecond (e : execClockSecond s = .next u) : CaptureLaw u := by
  cases e
  split
  · exact h
  · exact h.oscillatorSecond

theorem CaptureLaw.execFieldNone (e : execFieldNone s = .next u) : CaptureLaw u := by
  cases e
  split
  · exact CaptureLaw.settleClock (s := s.takeFieldTick) (h.of_view (by simp [State.captureView]))
  · exact h

theorem CaptureLaw.execRestartReset (rateHigh : Bool) (e : execRestartReset rateHigh s = .next u) : CaptureLaw u := by
  cases e
  split
  · exact captureLaw_startUp _ _ s
  · exact h

/-! ### Every command -/

theorem CaptureLaw.exec {c : Instr} (e : exec c s = .next u) : CaptureLaw u := by
  cases c with
  | powerOnReset rateHigh => cases e; exact captureLaw_startUp _ _ s
  | pinReset rateHigh => cases e; exact captureLaw_startUp _ _ s
  | restartReset rateHigh => exact h.execRestartReset rateHigh e
  | sampleFrame bytes => cases e; exact h.of_view (by simp [State.captureView])
  | sampleLineIdle bytes => cases e; exact h.of_view (by simp [State.captureView])
  | takeCurrentFrame => cases e; exact h.takeHead _
  | takeFieldFrame => cases e; exact h.takeHead _
  | measuredSecond i => exact h.execMeasuredSecond i e
  | clockSecond => exact h.execClockSecond e
  | standInSecond i => exact h.execStandInSecond i e
  | fieldNone => exact h.execFieldNone e
  | episodeQuietClose => cases e; exact h.of_view (by simp [State.captureView])
  | episodeHandoff i => exact h.execEpisodeHandoff i e
  | captureMissed ch => exact h.execCaptureMissed ch e
  | linkSilent => cases e; exact h.of_view (by simp [State.captureView])
  | silenceTimerExpiry c => cases e; exact h.silenceExpired c
  | ppsEdge now => cases e; exact h.ppsEdgeAt now
  | ppsLost => cases e; exact h.ppsFails
  | inputLevelChange pin level now => cases e; exact h.of_view rfl
  | debounceComplete pin => cases e; exact h.of_view (by simp [State.captureView])
  | energised i => exact h.execEnergised i e
  | deenergised i => exact h.execDeenergised i e
  | panelPress => exact h.execPanelPress e
  | panelRelease => exact h.execPanelRelease e
  | panelTestStart => cases e; exact h.of_view (by split <;> simp [State.captureView])
  | panelTestTimeout => cases e; exact h.of_view (by split <;> simp [State.captureView])
  | contactReport => exact h.execContactReport e
  | levelTrigger ch => exact h.execLevelTrigger ch e
  | captureDisableReport ch => exact h.execCaptureDisableReport ch e
  | requestFrame bytes => cases e; exact h.of_view (by simp [State.captureView])
  | hostFrameGap bytes => cases e; exact h.of_view (by simp [State.captureView])
  | unknownKindRequest => cases e; exact h.of_view s.serveUnknown_captureView
  | identify => cases e; exact h.served _ fun r v => rfl
  | readClock => cases e; exact h.served _ fun r v => rfl
  | setClock => cases e; exact h.served _ handleSetClock_captureView
  | readDeviceSettings => cases e; exact h.served _ fun r v => rfl
  | writeDeviceSettings now => cases e; exact h.serveRequest _ fun r v hv => hv.handleWriteDevice r now
  | readTransformerSettings => cases e; exact h.served _ fun r v => v.withTransformer_captureView r _ _ fun _ => rfl
  | writeTransformerSettings => cases e; exact h.serveRequest _ fun r v hv => hv.handleWriteSettings r
  | readLive => cases e; exact h.served _ fun r v => v.withTransformer_captureView r _ _ fun _ => rfl
  | snapshot => cases e; exact h.served _ fun r v => rfl
  | readSnapshot => cases e; exact h.served _ handleReadSnapshot_captureView
  | acknowledge => cases e; exact h.serveRequest _ fun r v hv => hv.handleAcknowledge r
  | suppress => cases e; exact h.serveRequest _ fun r v hv => hv.handleSuppress r
  | loadGroundResponse => cases e; exact h.served _ handleLoadResponse_captureView
  | readGroundResponse => cases e; exact h.served _ fun r v => rfl
  | readField => cases e; exact h.served _ handleReadField_captureView
  | readContactMap => cases e; exact h.served _ handleReadMap_captureView
  | writeContactMap => cases e; exact h.served _ handleWriteMap_captureView
  | fetchSummary => cases e; exact h.served _ fun r v => rfl
  | changeNoticeMask => cases e; exact h.served _ handleChangeMask_captureView
  | fetchTransitions => cases e; exact h.served _ handleFetchTransitions_captureView
  | readEpisode => cases e; exact h.served _ handleReadEpisode_captureView
  | readEpisodeEntry => cases e; exact h.served _ handleReadEntry_captureView
  | closeEpisode => cases e; exact h.served _ handleCloseEpisode_captureView
  | captureNow => cases e; exact h.serveRequest _ fun r v hv => hv.handleCaptureNow r
  | extendCapture => cases e; exact h.serveRequest _ fun r v hv => hv.handleExtendCapture r
  | listCaptures => cases e; exact h.served _ handleListCaptures_captureView
  | readCaptureSamples => cases e; exact h.served _ handleReadSamples_captureView
  | releaseCapture => cases e; exact h.serveRequest _ fun r v hv => hv.handleRelease r
  | readIntakeStatus => cases e; exact h.served _ fun r v => rfl
  | clearConverterFault => cases e; exact h.served _ handleClearFault_captureView
  | saveSettings => cases e; exact h.served _ handleSave_captureView
  | saveCompletion agrees => cases e; exact h.of_view (s.saveEnds_captureView agrees)
  | restart => cases e; exact h.of_view s.serveRestart_captureView
  | tenthAdvance => exact h.execTenthAdvance e
  | replySent => cases e; exact h.of_view (by simp [State.captureView])
  | sampleDamagedByte bytes => cases e; exact h.of_view (by simp [State.captureView])
  | sampleFrameDiscard bytes => cases e; exact h.of_view (by simp [State.captureView])
  | hostDamagedByte bytes => cases e; exact h.of_view (by simp [State.captureView])
  | hostFrameDiscard bytes => cases e; exact h.of_view (by simp [State.captureView])

end

/-- Settles O7: a step is a command on the state without it, and every command keeps the law. -/
theorem stepKeepsCaptureLaw : Obligations.StepKeepsCaptureLaw := by
  intro s t h e
  simp only [step] at e
  split at e
  · cases e; exact h
  · rename_i c rest _
    have taken : CaptureLaw { s with pending := rest } := h.of_view rfl
    exact taken.exec e

end Sys2Proof.Machine
end

section
/-! Capture memory reads back (R137, R139), and what a start leaves (R141). -/

namespace Sys2Proof.Machine

/-! ### Codes stored in the wrapping order -/

/-- A slot that no code goes to stays as it was. -/
theorem slotRead_storeCodes_other {codes : List Int} {slot : Nat} (m : SlotMemory) (pos : Nat)
    (other : ∀ j < codes.length, (pos + j) % 16384 ≠ slot) : slotRead (storeCodes m pos codes) slot = slotRead m slot := by
  induction codes generalizing m pos with
  | nil => rfl
  | cons c rest ih =>
    have first : pos % 16384 ≠ slot := other 0 (Nat.zero_lt_succ _)
    have later := ih (slotWrite m (pos % 16384) c) (pos + 1) fun j hj => by
      rw [Nat.add_assoc, Nat.add_comm 1 j]
      exact other (j + 1) (Nat.succ_lt_succ hj)
    exact later.trans (slotRead_slotWrite_other c first)

/-- What is stored from a slot on is read from there on, as long as the last code does not wrap onto the first. -/
theorem readCodes_storeCodes {m : SlotMemory} {codes : List Int} (pos : Nat) (h : Memory.wf m = true)
    (fits : codes.length ≤ 16384) : readCodes (storeCodes m pos codes) pos codes.length = codes := by
  induction codes generalizing m pos with
  | nil => rfl
  | cons c rest ih =>
    rw [List.length_cons] at fits
    have written : Memory.wf (slotWrite m (pos % 16384) c) = true := wf_slotWrite _ c h
    have first : slotRead (storeCodes (slotWrite m (pos % 16384) c) (pos + 1) rest) (pos % 16384) = c :=
      (slotRead_storeCodes_other _ _ fun j hj => by omega).trans (slotRead_slotWrite_same _ c h)
    exact congrArg₂ List.cons first (ih (pos + 1) written (Nat.le_of_succ_le fits))

theorem storeCodes_append (m : SlotMemory) (pos : Nat) (a b : List Int) :
    storeCodes m pos (a ++ b) = storeCodes (storeCodes m pos a) (pos + a.length) b := by
  induction a generalizing m pos with
  | nil => rfl
  | cons c a ih =>
    rw [List.length_cons, Nat.add_comm a.length 1, ← Nat.add_assoc]
    exact ih _ _

/-- Where storing begins counts up to the wrap alone. -/
theorem storeCodes_congr (m : SlotMemory) {p q : Nat} (codes : List Int) (same : p % 16384 = q % 16384) :
    storeCodes m p codes = storeCodes m q codes := by
  induction codes generalizing m p q with
  | nil => rfl
  | cons c rest ih =>
    have head : slotWrite m (p % 16384) c = slotWrite m (q % 16384) c := by rw [same]
    exact (ih _ (by omega)).trans (congrArg (fun m => storeCodes m (q + 1) rest) head)

/-! ### A start -/

/-- Whole cycles stored one after another are their codes stored from the write position on (R139). -/
theorem CaptureUnit.foldl_storeCycle {cycles : List (List Int)} (c : CaptureUnit)
    (whole : ∀ cycle ∈ cycles, cycle.length = 32) (hw : c.writePos < 16384) :
    cycles.foldl (fun u codes => u.storeCycle codes) c =
      { c with
        memory := storeCodes c.memory c.writePos cycles.flatten
        writePos := (c.writePos + 32 * cycles.length) % 16384 } := by
  induction cycles generalizing c with
  | nil =>
    rw [List.length_nil, Nat.mul_zero, Nat.add_zero, Nat.mod_eq_of_lt hw]
    rfl
  | cons cycle rest ih =>
    have length := whole cycle List.mem_cons_self
    rw [List.foldl_cons, ih (c.storeCycle cycle) (fun d hd => whole d (List.mem_cons_of_mem _ hd))
      (Nat.mod_lt _ (by decide)), List.flatten_cons, storeCodes_append, length]
    have memory := storeCodes_congr (storeCodes c.memory c.writePos cycle) (p := (c.writePos + 32) % 16384)
      (q := c.writePos + 32) rest.flatten (Nat.mod_mod _ _)
    have writePos : ((c.writePos + 32) % 16384 + 32 * rest.length) % 16384 =
        (c.writePos + 32 * (cycle :: rest).length) % 16384 := by
      rw [List.length_cons]
      omega
    rw [← memory, ← writePos]
    rfl

theorem nextCaptureNumber_eq (n : Nat) : nextCaptureNumber n = if n < 255 then n + 1 else 1 := by
  unfold nextCaptureNumber
  rcases Nat.lt_or_ge n 255 with more | last
  · rw [if_neg (Nat.not_le.mpr more), if_pos more]
  · rw [if_pos last, if_neg (Nat.not_lt.mpr last)]

theorem State.startCapture_eq (ch : Fin 16) (cause : CaptureCause) (stamp : Stamp) (pre post : Nat) (delay : Option Nat)
    {s : State} (whole : ∀ cycle ∈ s.channels[ch].ring, cycle.length = 32) (hw : s.capture.writePos < 16384) :
    s.startCapture ch cause stamp pre post delay =
      { s with capture := { s.capture with
        memory := storeCodes s.capture.memory s.capture.writePos (recentCycles s.channels[ch].ring pre).flatten
        writePos := (s.capture.writePos + 32 * (recentCycles s.channels[ch].ring pre).length) % 16384
        records := s.capture.records ++
          [startedRecord s.capture ch cause stamp (recentCycles s.channels[ch].ring pre).length post delay]
        nextNumber := if s.capture.nextNumber < 255 then s.capture.nextNumber + 1 else 1 } } := by
  have recent : ∀ cycle ∈ recentCycles s.channels[ch].ring pre, cycle.length = 32 := fun cycle hc =>
    whole cycle (List.mem_of_mem_drop hc)
  rw [State.startCapture, CaptureUnit.started, CaptureUnit.foldl_storeCycle s.capture recent hw, nextCaptureNumber_eq]
  rfl

end Sys2Proof.Machine
end

section
/-! A LEVEL trigger at the Capture Unit (R140, R143, R146). -/

namespace Sys2Proof.Machine

/-! ### The rows of R140 -/

/-- No capture of a channel is active that a row of its own would extend. -/
theorem State.NoActive.filter_eq_none {s : State} {ch : Fin 16} (h : s.NoActive fun other => other = ch) :
    (s.capture.activeRecord.filter fun r => r.channel == ch) = none := by
  refine Option.filter_eq_none_iff.mpr fun r active same => ?_
  exact h r (List.mem_of_find?_eq_some active) (List.find?_some active) (beq_iff_eq.mp same)

/-- What a capture needs to start at once: none is active, a place in the list, and room (R140). -/
theorem CaptureUnit.starts_iff {c : CaptureUnit} {pre : Nat} : (c.activeRecord.isNone && c.hasRoom pre) = true ↔
    (∀ r ∈ c.records, r.state = .done) ∧ c.records.length < 8 ∧ 32 * (pre + 1) ≤ c.freeSlots := by
  rw [Bool.and_eq_true, Option.isNone_iff_eq_none, CaptureUnit.activeRecord_eq_none, CaptureUnit.hasRoom_iff]

/-- What keeps it from starting at once. -/
theorem CaptureUnit.not_starts {c : CaptureUnit} {pre : Nat}
    (h : (∃ r ∈ c.records, r.state ≠ .done) ∨ 8 ≤ c.records.length ∨ c.freeSlots < 32 * (pre + 1)) :
    ¬ (c.activeRecord.isNone && c.hasRoom pre) = true := by
  rw [CaptureUnit.starts_iff]
  rintro ⟨done, list, room⟩
  rcases h with ⟨r, hr, active⟩ | full | short
  · exact active (done r hr)
  · exact Nat.not_lt.mpr full list
  · exact Nat.not_lt.mpr room short

/-- The one entry of a channel changes. -/
theorem map_entry_split {l front back : List PendingEntry} {e : PendingEntry} {ch : Fin 16} (f : PendingEntry → PendingEntry)
    (hl : l = front ++ e :: back) (he : e.channel = ch) (others : ∀ f ∈ front ++ back, f.channel ≠ ch) :
    (l.map fun e => if e.channel = ch then f e else e) = front ++ f e :: back := by
  have still {m : List PendingEntry} (hm : ∀ f ∈ m, f.channel ≠ ch) :
      (m.map fun e => if e.channel = ch then f e else e) = m := by
    have same : ∀ g ∈ m, (if g.channel = ch then f g else g) = id g := fun g hg => if_neg (hm g hg)
    rw [List.map_congr_left same, List.map_id]
  rw [hl, List.map_append, List.map_cons, still fun g hg => others g (List.mem_append_left _ hg),
    still fun g hg => others g (List.mem_append_right _ hg), if_pos he]

section
variable {s : State} {g : TriggerHandOff}

theorem State.levelTriggered_off (h : s.live[g.channel].service = .off) : s.levelTriggered g = s := if_pos h

/-- An active capture of the channel is extended (R143). -/
theorem State.levelTriggered_extends {r : CaptureRecord} (h : s.live[g.channel].service ≠ .off)
    (active : s.capture.activeRecord = some r) (same : r.channel = g.channel) :
    s.levelTriggered g = s.setCapture (s.capture.raiseTarget (retriggerTarget r g.post)) := by
  have own : (s.capture.activeRecord.filter fun r => r.channel == g.channel) = some r := by
    rw [active, Option.filter_some, if_pos (beq_iff_eq.mpr same)]
  simp only [State.levelTriggered, if_neg h, own]

theorem State.levelTriggered_merges (h : s.live[g.channel].service ≠ .off)
    (free : s.NoActive fun other => other = g.channel) (waits : (s.capture.entryOf g.channel).isSome = true) :
    s.levelTriggered g = s.setCapture (s.capture.mergePending g.channel g.pre g.post) := by
  simp only [State.levelTriggered, if_neg h, free.filter_eq_none, if_pos waits]

theorem State.levelTriggered_startsOrWaits (h : s.live[g.channel].service ≠ .off)
    (free : s.NoActive fun other => other = g.channel) (none_waits : ∀ e ∈ s.capture.waiting, e.channel ≠ g.channel) :
    s.levelTriggered g = s.startOrWait g.channel .level g.stamp g.pre g.post := by
  have no_entry : ¬ (s.capture.entryOf g.channel).isSome = true := fun waits => by
    obtain ⟨e, he, same⟩ := CaptureUnit.entryOf_isSome.mp waits
    exact none_waits e he same
  simp only [State.levelTriggered, if_neg h, free.filter_eq_none, if_neg no_entry]

theorem exec_levelTrigger {before after : List TriggerHandOff} (held : s.handOffs.triggers = before ++ g :: after)
    (first : ∀ h ∈ before, h.channel ≠ g.channel) : exec (.levelTrigger g.channel) s =
      .next ((s.setHandOffs { s.handOffs with triggers := before ++ after }).levelTriggered g) := by
  have taken := takeFirst_split (p := fun t : TriggerHandOff => t.channel == g.channel) held (by simp)
    (by simpa using first)
  show execLevelTrigger g.channel s = _
  simp only [execLevelTrigger, taken]

end

/-- Settles O45: codes stored read back; the rows of R140 in order; and what a start leaves. -/
theorem levelTriggersAndCaptureMemory : Obligations.LevelTriggersAndCaptureMemory := by
  refine ⟨fun m pos codes wf fits => ⟨readCodes_storeCodes pos wf fits, fun slot other =>
    slotRead_storeCodes_other m pos other, wf_storeCodes pos codes wf⟩, fun g before after s held first => ?_,
    fun ch cause stamp pre post delay s => State.startCapture_eq ch cause stamp pre post delay⟩
  intro taken cap
  rw [exec_levelTrigger held first]
  refine ⟨fun off => congrArg _ (State.levelTriggered_off (s := taken) off), fun on => ⟨?_, fun free => ⟨?_, ?_⟩⟩⟩
  · intro older r records done active same
    have isActive := CaptureUnit.activeRecord_split (u := cap) records (by simpa using done) active
    refine congrArg _ ((State.levelTriggered_extends (s := taken) on isActive same).trans ?_)
    rw [CaptureUnit.raiseTarget, CaptureUnit.updateActive_split (u := taken.capture) records (by simpa using done) active]
    rfl
  · intro e front back waiting same others
    have waits := (CaptureUnit.entryOf_isSome (c := cap)).mpr ⟨e, by rw [waiting]; simp, same⟩
    refine congrArg _ ((State.levelTriggered_merges (s := taken) on free waits).trans ?_)
    rw [CaptureUnit.mergePending, map_entry_split _ waiting same others]
    rfl
  · intro none_waits
    have handled := State.levelTriggered_startsOrWaits (s := taken) on free none_waits
    refine ⟨fun done list room => congrArg _ (handled.trans ?_), fun kept => congrArg _ (handled.trans ?_)⟩
    · exact if_pos (CaptureUnit.starts_iff.mpr ⟨done, list, room⟩)
    · exact if_neg (CaptureUnit.not_starts kept)

end Sys2Proof.Machine
end

section
/-! A cycle offered to the Capture Unit (R142, R144, R145, R154). -/

namespace Sys2Proof.Machine

section
variable {s : State} {a : CaptureRecord} {older newer : List CaptureRecord}

/-! ### An end, and a cycle taken -/

/-- The state with another record in the place of one of the list. -/
def State.withRecord (older newer : List CaptureRecord) (a : CaptureRecord) (s : State) : State :=
  { s with capture := { s.capture with records := older ++ a :: newer } }

/-- A change of the active record is one record in its place. -/
theorem State.setCapture_updateActive (records : s.capture.records = older ++ a :: newer)
    (done : ∀ q ∈ older ++ newer, q.state = .done) (active : a.state ≠ .done) (f : CaptureRecord → CaptureRecord) :
    s.setCapture (s.capture.updateActive f) = s.withRecord older newer (f a) := by
  rw [CaptureUnit.updateActive_split records done active]
  rfl

/-- The active capture ends: DONE, CAPTURE_DONE made, the pending set served (R145, R154). -/
theorem State.endCapture_eq (records : s.capture.records = older ++ a :: newer)
    (done : ∀ q ∈ older ++ newer, q.state = .done) (active : a.state ≠ .done) (truncated : Bool) (stamp : Stamp) :
    s.endCapture truncated stamp = State.serve
      { s.withRecord older newer { a with state := .done, truncated := truncated } with
        link := s.made [transformerRecord a.channel .captureDone none (some a.number) stamp s.live[a.channel]] } := by
  simp only [State.endCapture, CaptureUnit.activeRecord_split records done active]
  rw [State.setCapture_updateActive records done active, 
    State.emitTransformer_eq (u := s.withRecord older newer _) (l := s.live[a.channel]) rfl rfl]
  rfl

/-- A cycle's codes stored and counted by the active record (R142). -/
def State.cycleStored (codes : List Int) (s : State) : State :=
  s.setCapture ((s.capture.storeCycle codes).updateActive fun q => { q with postStored := q.postStored + 1 })

theorem State.fillCapture_stores (filling : a.state = .filling) (room : 32 ≤ s.capture.freeSlots)
    (more : a.postStored + 1 ≠ a.postTarget) (codes : List Int) : s.fillCapture a codes = s.cycleStored codes := by
  simp only [State.fillCapture, filling]
  exact (if_pos room).trans (if_neg more)

theorem State.fillCapture_completes (filling : a.state = .filling) (room : 32 ≤ s.capture.freeSlots)
    (last : a.postStored + 1 = a.postTarget) (codes : List Int) :
    s.fillCapture a codes = (s.cycleStored codes).endCapture false s.time.now := by
  simp only [State.fillCapture, filling]
  exact (if_pos room).trans (if_pos last)

theorem State.fillCapture_suspends (filling : a.state = .filling) (full : s.capture.freeSlots < 32) (gap : a.gap = none)
    (codes : List Int) : s.fillCapture a codes = s.setCapture (s.capture.updateActive fun q =>
      { q with state := .suspended, gap := some (q.preCount + q.postStored, 1) }) := by
  simp only [State.fillCapture, filling, gap]
  exact if_neg (Nat.not_le.mpr full)

theorem State.fillCapture_endsTruncated (filling : a.state = .filling) (full : s.capture.freeSlots < 32) (gap : a.gap ≠ none)
    (codes : List Int) : s.fillCapture a codes = s.endCapture true s.time.now := by
  obtain ⟨g, gap⟩ := Option.ne_none_iff_exists'.mp gap
  simp only [State.fillCapture, filling, gap]
  exact if_neg (Nat.not_le.mpr full)

theorem State.fillCapture_skips (suspended : a.state = .suspended) (codes : List Int) :
    s.fillCapture a codes = s.setCapture (s.capture.updateActive fun q =>
      { q with gap := q.gap.map fun g => (g.1, satSucc 65535 g.2) }) := by
  simp only [State.fillCapture, suspended]

/-! ### The offer -/

/-- The state once a cycle has counted towards the entry of its channel (R142). -/
def State.cycleCounted (ch : Fin 16) (s : State) : State := s.setCapture (s.capture.countCycle ch)

/-- The count reaches entries alone. -/
theorem State.offerCycle_of_active (records : s.capture.records = older ++ a :: newer)
    (done : ∀ q ∈ older ++ newer, q.state = .done) (active : a.state ≠ .done) (codes : List Int) :
    s.offerCycle a.channel codes = (s.cycleCounted a.channel).fillCapture a codes := by
  have isActive := CaptureUnit.activeRecord_split (u := (s.cycleCounted a.channel).capture) records done active
  rw [State.cycleCounted] at isActive
  simp only [State.offerCycle, isActive, if_true]
  rfl

theorem State.offerCycle_of_noActive {ch : Fin 16} (free : s.NoActive fun other => other = ch) (codes : List Int) :
    s.offerCycle ch codes = s.cycleCounted ch := by
  simp only [State.offerCycle]
  split
  · rfl
  · rename_i r isActive
    exact if_neg fun same => free r (List.mem_of_find?_eq_some isActive) (List.find?_some isActive) same

end

/-- Settles O46: the cycle counts towards the entries of its channel and then fills, skips, suspends or ends the capture. -/
theorem offeredCycle : Obligations.OfferedCycle := by
  refine ⟨fun ch codes s free => State.offerCycle_of_noActive free codes, fun r older newer codes s => ?_⟩
  intro cap stored kept ended records done
  let counted := s.cycleCounted r.channel
  have offered (active : r.state ≠ .done) : s.offerCycle r.channel codes = counted.fillCapture r codes :=
    State.offerCycle_of_active records done active codes
  refine ⟨fun filling => ?_, fun suspended at' n gap => ?_⟩
  · have active : r.state ≠ .done := by rw [filling]; exact CaptureState.noConfusion
    have taken : counted.cycleStored codes = kept stored { r with postStored := r.postStored + 1 } :=
      State.setCapture_updateActive (s := counted.setCapture (counted.capture.storeCycle codes)) records done active _
    rw [offered active]
    refine ⟨fun room more => ?_, fun room last => ?_, fun full gap => ?_, fun full gap => ?_⟩
    · exact (State.fillCapture_stores (s := counted) filling room more codes).trans taken
    · have completes := State.fillCapture_completes (s := counted) filling room last codes
      rw [taken] at completes
      exact completes.trans (State.endCapture_eq (a := { r with postStored := r.postStored + 1 }) rfl done active _ _)
    · exact (State.fillCapture_suspends (s := counted) filling full gap codes).trans
        (State.setCapture_updateActive (s := counted) records done active _)
    · exact (State.fillCapture_endsTruncated (s := counted) filling full gap codes).trans
        (State.endCapture_eq (s := counted) records done active true s.time.now)
  · have active : r.state ≠ .done := by rw [suspended]; exact CaptureState.noConfusion
    rw [offered active]
    refine (State.fillCapture_skips (s := counted) suspended codes).trans
      ((State.setCapture_updateActive (s := counted) records done active _).trans ?_)
    rw [gap]
    rfl

end Sys2Proof.Machine
end

section
/-! The pending set in its order, its service, and disables (R145, R148, R151). -/

namespace Sys2Proof.Machine

/-! ### The order of the pending set -/

theorem Stamp.le_iff {a b : Stamp} : a.le b = true ↔
    a.day < b.day ∨ a.day = b.day ∧ (a.second < b.second ∨ a.second = b.second ∧ a.tenth ≤ b.tenth) := by
  simp [Stamp.le]

theorem Stamp.eq_iff {a b : Stamp} : a = b ↔ a.day = b.day ∧ a.second = b.second ∧ a.tenth = b.tenth := by
  cases a
  cases b
  simp

/-- Entry `e` stands before entry `f` in the order of service, or beside it: the earlier trigger stamp, and among equal
stamps the lower channel (R145). -/
def PendingEntry.Precedes (e f : PendingEntry) : Prop :=
  e.stamp ≠ f.stamp ∧ e.stamp.le f.stamp = true ∨ e.stamp = f.stamp ∧ e.channel.val ≤ f.channel.val

section
variable {e f g : PendingEntry}

/-- The order of service is the lexicographic one of day, second, tenth and channel. -/
theorem PendingEntry.precedes_iff : e.Precedes f ↔
    e.stamp.day < f.stamp.day ∨ e.stamp.day = f.stamp.day ∧
      (e.stamp.second < f.stamp.second ∨ e.stamp.second = f.stamp.second ∧
        (e.stamp.tenth < f.stamp.tenth ∨ e.stamp.tenth = f.stamp.tenth ∧ e.channel.val ≤ f.channel.val)) := by
  rw [PendingEntry.Precedes, Stamp.le_iff, ne_eq, Stamp.eq_iff]
  omega

theorem PendingEntry.Precedes.trans (h : e.Precedes f) (k : f.Precedes g) : e.Precedes g := by
  rw [PendingEntry.precedes_iff] at h k ⊢
  omega

/-- What an insertion compares (R145). -/
theorem PendingEntry.before_iff : e.before f = true ↔
    e.stamp = f.stamp ∧ e.channel.val < f.channel.val ∨ e.stamp ≠ f.stamp ∧ e.stamp.le f.stamp = true := by
  unfold PendingEntry.before
  split
  · rename_i same
    simp [same]
  · rename_i other
    simp [other]

theorem PendingEntry.precedes_of_before (h : e.before f = true) : e.Precedes f := by
  rcases PendingEntry.before_iff.mp h with ⟨same, lower⟩ | earlier
  · exact .inr ⟨same, lower.le⟩
  · exact .inl earlier

theorem PendingEntry.precedes_of_not_before (h : ¬ e.before f = true) : f.Precedes e := by
  rw [PendingEntry.before_iff, Stamp.le_iff, ne_eq, Stamp.eq_iff] at h
  rw [PendingEntry.precedes_iff]
  omega

end

theorem insertPending_perm (e : PendingEntry) (l : List PendingEntry) : (insertPending e l).Perm (e :: l) := by
  induction l with
  | nil => exact .refl _
  | cons f rest ih =>
    unfold insertPending
    split
    · exact .refl _
    · exact (ih.cons f).trans (.swap e f rest)

/-- The order in which entries are served is an order of all of them (R145). -/
theorem servingOrder_perm (waiting : List PendingEntry) : (servingOrder waiting).Perm waiting := by
  induction waiting with
  | nil => exact .refl _
  | cons e rest ih => exact (insertPending_perm e _).trans (ih.cons e)

theorem insertPending_pairwise {e : PendingEntry} {l : List PendingEntry} (h : l.Pairwise PendingEntry.Precedes) :
    (insertPending e l).Pairwise PendingEntry.Precedes := by
  induction l with
  | nil => exact List.pairwise_singleton _ _
  | cons f rest ih =>
    obtain ⟨first, later⟩ := List.pairwise_cons.mp h
    unfold insertPending
    split
    · rename_i before
      have head := PendingEntry.precedes_of_before before
      refine List.pairwise_cons.mpr ⟨fun g hg => ?_, h⟩
      rcases List.mem_cons.mp hg with rfl | hg
      · exact head
      · exact head.trans (first g hg)
    · rename_i behind
      refine List.pairwise_cons.mpr ⟨fun g hg => ?_, ih later⟩
      rcases List.mem_cons.mp ((insertPending_perm e rest).mem_iff.mp hg) with rfl | hg
      · exact PendingEntry.precedes_of_not_before behind
      · exact first g hg

theorem servingOrder_pairwise (waiting : List PendingEntry) : (servingOrder waiting).Pairwise PendingEntry.Precedes := by
  induction waiting with
  | nil => exact .nil
  | cons e rest ih => exact insertPending_pairwise ih

/-- The entry that precedes every other one is served first (R145). -/
theorem servingOrder_head {waiting : List PendingEntry} {e : PendingEntry} (he : e ∈ waiting)
    (first : ∀ f ∈ waiting, f ≠ e → f.stamp ≠ e.stamp ∧ e.stamp.le f.stamp = true ∨
      f.stamp = e.stamp ∧ e.channel.val < f.channel.val) : ∃ rest, servingOrder waiting = e :: rest := by
  have perm := servingOrder_perm waiting
  have sorted := servingOrder_pairwise waiting
  cases order : servingOrder waiting with
  | nil =>
    rw [order] at perm
    exact absurd (perm.mem_iff.mpr he) List.not_mem_nil
  | cons f rest =>
    rw [order] at perm sorted
    refine ⟨rest, congrArg (· :: rest) (Classical.not_not.mp fun other => ?_)⟩
    have behind : e ∈ rest := (List.mem_cons.mp (perm.mem_iff.mpr he)).resolve_left fun same => other same.symm
    have precedes := PendingEntry.precedes_iff.mp ((List.pairwise_cons.mp sorted).1 e behind)
    have follows := first f (perm.mem_iff.mp List.mem_cons_self) other
    rw [Stamp.le_iff, ne_eq, Stamp.eq_iff] at follows
    omega

/-! ### Service -/

section
variable {s : State} {e : PendingEntry} {rest : List PendingEntry}

theorem State.serve_of_nil (h : s.capture.waiting = []) : s.serve = s := by
  rw [State.serve, h]
  rfl

theorem State.serve_starts (order : servingOrder s.capture.waiting = e :: rest) (room : s.capture.hasRoom e.pre = true) :
    s.serve = State.startCapture e.channel e.cause e.stamp e.pre e.post (some e.cycles)
      (s.setCapture { s.capture with waiting := s.capture.waiting.filter fun f => f.channel != e.channel }) := by
  rw [State.serve, order]
  exact if_pos room

theorem State.serve_waits (order : servingOrder s.capture.waiting = e :: rest) (full : ¬ s.capture.hasRoom e.pre = true) :
    s.serve = s := by
  rw [State.serve, order]
  exact if_neg full

end

/-- The entries of other channels. -/
theorem filter_other_channel (l : List PendingEntry) (ch : Fin 16) :
    (l.filter fun e => e.channel != ch) = l.filter fun e => decide (e.channel ≠ ch) :=
  List.filter_congr fun e _ => by
    by_cases same : e.channel = ch
    · simp [same]
    · simp [same]

/-! ### Disables -/

section
variable {s : State} {ch : Fin 16}

theorem State.captureNotice_spared {named : Fin 16 → Bool} (h : s.NoActive fun other => named other = true) :
    s.captureNotice named = s := by
  unfold State.captureNotice
  split
  · rfl
  · rename_i r isActive
    exact if_neg fun same => h r (List.mem_of_find?_eq_some isActive) (List.find?_some isActive) same

theorem State.captureNotice_ends {named : Fin 16 → Bool} {r : CaptureRecord} (isActive : s.capture.activeRecord = some r)
    (same : named r.channel = true) : s.captureNotice named = s.endCapture true s.time.now := by
  simp only [State.captureNotice, isActive]
  exact if_pos same

theorem exec_captureDisableReport {before after : List (Fin 16)} (held : s.handOffs.disables = before ++ ch :: after)
    (first : ch ∉ before) : exec (.captureDisableReport ch) s =
      .next ((s.setHandOffs { s.handOffs with disables := before ++ after }).captureDisabled ch) := by
  have taken := takeFirst_split (p := fun c : Fin 16 => c == ch) held (by simp)
    fun c hc => beq_false_of_ne fun same => first (same ▸ hc)
  show execCaptureDisableReport ch s = _
  simp only [execCaptureDisableReport, taken]

end

/-- Settles O47: insertion sorts the pending set; its head is served; and a disable drops the entry before it ends a capture. -/
theorem pendingSetAndDisables : Obligations.PendingSetAndDisables := by
  refine ⟨fun a b => Stamp.le_iff, fun waiting => ⟨servingOrder_perm waiting, servingOrder_pairwise waiting⟩,
    fun s => State.serve_of_nil, fun e s he _ first => ?_, fun ch before after s held notBefore => ?_⟩
  · obtain ⟨rest, order⟩ := servingOrder_head he first
    refine ⟨fun list room => ?_, fun full => State.serve_waits order fun room => ?_⟩
    · rw [State.serve_starts order (CaptureUnit.hasRoom_iff.mpr ⟨list, room⟩), filter_other_channel]
      rfl
    · obtain ⟨list, free⟩ := CaptureUnit.hasRoom_iff.mp room
      omega
  · intro taken left
    rw [exec_captureDisableReport held notBefore]
    let dropped := taken.setCapture (s.capture.dropPending ch)
    have waiting : (s.capture.dropPending ch).waiting = left := filter_other_channel _ _
    have unit : s.capture.dropPending ch = { s.capture with waiting := left } := by
      rw [← waiting]
      rfl
    refine ⟨fun free => congrArg _ ?_, fun r older newer records done active same => congrArg _ ?_⟩
    · refine (State.captureNotice_spared (s := dropped) fun r hr isActive named =>
        free r hr isActive (beq_iff_eq.mp named)).trans ?_
      rw [← unit]
      rfl
    · subst same
      have isActive := CaptureUnit.activeRecord_split (u := dropped.capture) records done active
      refine (State.captureNotice_ends (named := fun c => c == r.channel) isActive (beq_self_eq_true _)).trans
        ((State.endCapture_eq (s := dropped) records done active true s.time.now).trans ?_)
      rw [← waiting]
      rfl

end Sys2Proof.Machine
end

section
/-! Capture Now, Extend Capture and Release Capture (R143, R144, R149, R150, R153). -/

namespace Sys2Proof.Machine

theorem beBytes_one (n : Nat) : beBytes 1 n = [BitVec.ofNat 8 n] := by simp [beBytes]

/-- OK or CLAMPED, by whatever the clamping goes by. -/
theorem okOr_of_iff {b : Bool} {p : Prop} [Decidable p] (h : b = true ↔ p) : okOr b = if p then .clamped else .ok := by
  by_cases hp : p
  · rw [if_pos hp, h.mpr hp]
    rfl
  · rw [if_neg hp, Bool.eq_false_iff.mpr fun hb => hp (h.mp hb)]
    rfl

/-! ### Capture Now -/

/-- The pre and post cycles a Capture Now asks for, within their ranges (R149). -/
def Request.pre (r : Request) : Nat := min 4 (u8 r.body 1)

def Request.post (r : Request) : Nat := max 1 (min 250 (u8 r.body 2))

/-- One of the two was brought within range. -/
def Request.brought (r : Request) : Bool := r.pre != u8 r.body 1 || r.post != u8 r.body 2

section
variable {s : State} {r : Request} {ch : Fin 16}

theorem Request.brought_iff : r.brought = true ↔ r.pre ≠ u8 r.body 1 ∨ r.post ≠ u8 r.body 2 := by
  rw [Request.brought, Bool.or_eq_true, bne_iff_ne, bne_iff_ne]

theorem Request.okOr_brought :
    okOr r.brought = if r.pre ≠ u8 r.body 1 ∨ r.post ≠ u8 r.body 2 then .clamped else .ok :=
  okOr_of_iff Request.brought_iff

theorem handleCaptureNow_off (number : u8 r.body 0 = ch.val) (off : s.live[ch].service = .off) :
    handleCaptureNow r s = s.answer r .wrongState [] :=
  (withTransformer_val number _).trans (if_pos off)

theorem handleCaptureNow_on (number : u8 r.body 0 = ch.val) (on : s.live[ch].service ≠ .off) :
    handleCaptureNow r s = s.captureNow ch r := (withTransformer_val number _).trans (if_neg on)

theorem State.captureNow_refused (waits : (s.capture.entryOf ch).isSome = true) :
    s.captureNow ch r = s.answer r .wrongState [] := if_pos waits

/-- The active capture takes a larger target (R143). -/
theorem CaptureUnit.raiseTarget_split {u : CaptureUnit} {a : CaptureRecord} {older newer : List CaptureRecord}
    (records : u.records = older ++ a :: newer) (done : ∀ q ∈ older ++ newer, q.state = .done) (active : a.state ≠ .done)
    (target : Nat) : u.raiseTarget target = { u with records := older ++
      { a with postTarget := min 250 target, extensions := min 255 (a.extensions + 1) } :: newer } :=
  CaptureUnit.updateActive_split records done active _

/-- An active capture of the channel is extended (R143). -/
theorem State.captureNow_extends {a : CaptureRecord} (free : ¬ (s.capture.entryOf ch).isSome = true)
    (isActive : s.capture.activeRecord = some a) (same : a.channel = ch) : s.captureNow ch r =
      (s.setCapture (s.capture.raiseTarget (retriggerTarget a r.post))).answer r
        (if (r.pre ≠ u8 r.body 1 ∨ r.post ≠ u8 r.body 2) ∨ 250 < retriggerTarget a r.post then .clamped else .ok)
        [1, BitVec.ofNat 8 a.number] := by
  have own : (s.capture.activeRecord.filter fun a => a.channel == ch) = some a := by
    rw [isActive, Option.filter_some, if_pos (beq_iff_eq.mpr same)]
  have brought : (r.brought || decide (250 < retriggerTarget a r.post)) = true ↔
      (r.pre ≠ u8 r.body 1 ∨ r.post ≠ u8 r.body 2) ∨ 250 < retriggerTarget a r.post := by
    rw [Bool.or_eq_true, Request.brought_iff, decide_eq_true_iff]
  rw [← okOr_of_iff brought]
  simp only [State.captureNow, if_neg free, own, beBytes_one]
  rfl

theorem State.captureNow_starts (free : ¬ (s.capture.entryOf ch).isSome = true)
    (starts : (s.capture.activeRecord.isNone && s.capture.hasRoom r.pre) = true) : s.captureNow ch r =
      (s.startCapture ch .request s.time.now r.pre r.post none).answer r (okOr r.brought)
        [0, BitVec.ofNat 8 s.capture.nextNumber] := by
  have own : (s.capture.activeRecord.filter fun a => a.channel == ch) = none := by
    rw [Option.isNone_iff_eq_none.mp (Bool.and_eq_true_iff.mp starts).1]
    rfl
  have now : s.startOrWait ch .request s.time.now r.pre r.post =
    s.startCapture ch .request s.time.now r.pre r.post none := if_pos starts
  simp only [State.captureNow, if_neg free, own, beBytes_one]
  rw [← now]
  exact if_pos starts

theorem State.captureNow_waits (free : ¬ (s.capture.entryOf ch).isSome = true)
    (spared : s.NoActive fun other => other = ch)
    (kept : ¬ (s.capture.activeRecord.isNone && s.capture.hasRoom r.pre) = true) : s.captureNow ch r =
      (s.setCapture (s.capture.addPending ch .request s.time.now r.pre r.post)).answer r (okOr r.brought) [2, 0] := by
  have later : s.startOrWait ch .request s.time.now r.pre r.post =
    s.setCapture (s.capture.addPending ch .request s.time.now r.pre r.post) := if_neg kept
  simp only [State.captureNow, if_neg free, spared.filter_eq_none, beBytes_one]
  rw [← later]
  exact if_neg kept

/-! ### Extend Capture -/

theorem handleExtendCapture_done {a : CaptureRecord} (named : s.capture.recordOf (u8 r.body 0) = some a)
    (done : a.state = .done) : handleExtendCapture r s = s.answer r .wrongState [] := by
  simp only [handleExtendCapture, named]
  exact if_neg fun active => CaptureRecord.active_iff.mp active done

theorem handleExtendCapture_active {a : CaptureRecord} (named : s.capture.recordOf (u8 r.body 0) = some a)
    (active : a.state ≠ .done) : handleExtendCapture r s =
      (s.setCapture (s.capture.raiseTarget (a.postTarget + u8 r.body 1))).answer r
        (if 250 < a.postTarget + u8 r.body 1 then .clamped else .ok)
        [BitVec.ofNat 8 (min 250 (a.postTarget + u8 r.body 1)), BitVec.ofNat 8 a.postStored] := by
  simp only [handleExtendCapture, named, beBytes_one, okOr_of_iff decide_eq_true_iff]
  exact if_pos (CaptureRecord.active_iff.mpr active)

/-! ### Release Capture -/

theorem CaptureUnit.recordOf_oldest {u : CaptureUnit} {a : CaptureRecord} {rest : List CaptureRecord}
    (records : u.records = a :: rest) : u.recordOf a.number = some a :=
  CaptureUnit.recordOf_number (older := []) records (by rintro _ ⟨⟩)

theorem handleRelease_refused {a : CaptureRecord} (named : s.capture.recordOf (u8 r.body 0) = some a)
    (other : ¬ (s.capture.records.head? = some a ∧ a.state = .done)) : handleRelease r s = s.answer r .wrongState [] := by
  simp only [handleRelease, named]
  exact if_neg other

theorem handleRelease_oldest {a : CaptureRecord} (named : s.capture.recordOf (u8 r.body 0) = some a)
    (oldest : s.capture.records.head? = some a) (done : a.state = .done) : handleRelease r s =
      s.releaseOldest.answer r .ok (beBytes 2 (16384 - usedSlots s.releaseOldest.capture.records)) := by
  simp only [handleRelease, named]
  exact if_pos ⟨oldest, done⟩

/-- The records that a release leaves: a SUSPENDED capture resumes where 32 slots are free (R144, R153). -/
def resumedRecords (rest : List CaptureRecord) : List CaptureRecord :=
  if 32 ≤ 16384 - usedSlots rest then
    rest.map fun q => if q.state = .suspended then { q with state := .filling } else q
  else rest

theorem CaptureUnit.resumed_eq (c : CaptureUnit) : c.resumed = { c with records := resumedRecords c.records } := by
  unfold CaptureUnit.resumed resumedRecords
  by_cases room : 32 ≤ 16384 - usedSlots c.records
  · have each : ∀ q ∈ c.records,
        (if q.active then (if q.state = .suspended then { q with state := .filling } else q) else q) =
          if q.state = .suspended then { q with state := CaptureState.filling } else q := fun q _ => by
      by_cases active : q.active = true
      · rw [if_pos active]
      · rw [if_neg active, if_neg fun suspended => active (by rw [CaptureRecord.active_iff, suspended]; decide)]
    rw [if_pos room, CaptureUnit.updateActive, List.map_congr_left each]
    exact if_pos room
  · rw [if_neg room]
    exact if_neg room

/-- A capture that resumes stays active. -/
theorem done_resumedRecords {rest : List CaptureRecord} :
    (∀ q ∈ resumedRecords rest, q.state = .done) ↔ ∀ q ∈ rest, q.state = .done := by
  unfold resumedRecords
  split
  · rw [List.forall_mem_map]
    refine forall₂_congr fun q _ => ?_
    by_cases suspended : q.state = .suspended
    · simp [suspended]
    · rw [if_neg suspended]
  · rfl

theorem State.releaseOldest_eq {a : CaptureRecord} {rest : List CaptureRecord} (records : s.capture.records = a :: rest) :
    let left := s.setCapture { s.capture with records := resumedRecords rest }
    s.releaseOldest = if left.capture.activeRecord.isNone then left.serve else left := by
  simp only [State.releaseOldest, CaptureUnit.resumed_eq, records, List.tail_cons]

end

section
variable {s : State} {r : Request}

theorem exec_captureNow (h : s.Takes 0x18 r) (hl : r.body.length = 3) :
    exec .captureNow s = .next (handleCaptureNow r s.unarmed) := exec_of_takes rfl h (by rfl) hl

theorem exec_extendCapture (h : s.Takes 0x19 r) (hl : r.body.length = 2) :
    exec .extendCapture s = .next (handleExtendCapture r s.unarmed) := exec_of_takes rfl h (by rfl) hl

theorem exec_releaseCapture (h : s.Takes 0x1C r) (hl : r.body.length = 1) :
    exec .releaseCapture s = .next (handleRelease r s.unarmed) := exec_of_takes rfl h (by rfl) hl

/-- A number that another record has is not the oldest one's (R153). -/
theorem handleRelease_other {a : CaptureRecord} {rest : List CaptureRecord} (records : s.capture.records = a :: rest)
    (number : u8 r.body 0 ≠ a.number) (held : ∃ q ∈ rest, q.number = u8 r.body 0) :
    handleRelease r s = s.answer r .wrongState [] := by
  obtain ⟨q, hq, same⟩ := held
  have found : (s.capture.recordOf (u8 r.body 0)).isSome = true :=
    List.find?_isSome.mpr ⟨q, by rw [records]; exact List.mem_cons_of_mem _ hq, beq_iff_eq.mpr same⟩
  obtain ⟨b, named⟩ := Option.isSome_iff_exists.mp found
  have own : b.number = u8 r.body 0 :=
    beq_iff_eq.mp (List.find?_some (p := fun q : CaptureRecord => q.number == u8 r.body 0) named)
  refine handleRelease_refused named fun ⟨isHead, _⟩ => number ?_
  rw [records, List.head?_cons] at isHead
  rw [Option.some.inj isHead, own]

/-- What a release of the oldest record leaves, before it is answered (R153). -/
def State.released (rest : List CaptureRecord) (s : State) : State :=
  s.setCapture { s.capture with records := resumedRecords rest }

/-- The pending set is served where no capture is active then, and the reply carries the free slots (R153). -/
theorem handleRelease_unarmed {a : CaptureRecord} {rest : List CaptureRecord} (records : s.capture.records = a :: rest)
    (number : u8 r.body 0 = a.number) (done : a.state = .done) :
    let t := if (s.released rest).capture.activeRecord.isNone then (s.released rest).serve else s.released rest
    handleRelease r s.unarmed = t.replied r .ok (beBytes 2 (16384 - usedSlots t.capture.records)) := by
  have named : s.unarmed.capture.recordOf (u8 r.body 0) = some a := by
    rw [number]
    exact CaptureUnit.recordOf_oldest records
  have oldest : s.unarmed.capture.records.head? = some a := congrArg List.head? records
  have left : s.unarmed.releaseOldest =
      State.unarmed (if (s.released rest).capture.activeRecord.isNone then (s.released rest).serve else s.released rest) := by
    refine (State.releaseOldest_eq (s := s.unarmed) records).trans ?_
    rw [apply_ite State.unarmed, ← State.serve_unarmed]
    rfl
  rw [handleRelease_oldest named oldest done, left]
  rfl

end

/-- Settles O59: the rule of each of the three requests, in the state with the restart disarmed. -/
theorem captureRequests : Obligations.CaptureRequests := by
  refine ⟨fun r s => ⟨fun ch h hl number => ?_, fun older newer a h hl number records other => ?_⟩,
    fun r a rest s h hl records => ?_⟩
  · intro pre post clamped status
    rw [exec_captureNow h hl]
    refine ⟨fun refused => congrArg _ ?_, fun on free => ?_⟩
    · by_cases off : s.live[ch].service = .off
      · exact handleCaptureNow_off (s := s.unarmed) number off
      · exact (handleCaptureNow_on (s := s.unarmed) number off).trans
          (State.captureNow_refused (s := s.unarmed) (CaptureUnit.entryOf_isSome.mpr (refused.resolve_left off)))
    have no_entry : ¬ (s.capture.entryOf ch).isSome = true := fun waits => by
      obtain ⟨e, he, same⟩ := CaptureUnit.entryOf_isSome.mp waits
      exact free e he same
    rw [handleCaptureNow_on (s := s.unarmed) number on]
    refine ⟨fun older a records done active same => congrArg _ ?_, fun done list room => congrArg _ ?_,
      fun spared kept => congrArg _ ?_⟩
    · have others : ∀ q ∈ older ++ [], q.state = .done := by simpa using done
      have isActive := CaptureUnit.activeRecord_split records others active
      have raised := CaptureUnit.raiseTarget_split records others active (retriggerTarget a r.post)
      exact (State.captureNow_extends (s := s.unarmed) no_entry isActive same).trans
        (congrArg (fun u => State.answer r _ _ (s.unarmed.setCapture u)) raised)
    · have starts := CaptureUnit.starts_iff.mpr ⟨done, list, room⟩
      rw [State.captureNow_starts (s := s.unarmed) no_entry starts, Request.okOr_brought]
      rfl
    · rw [State.captureNow_waits (s := s.unarmed) no_entry spared (CaptureUnit.not_starts kept), Request.okOr_brought]
      rfl
  · have named : s.capture.recordOf (u8 r.body 0) = some a := by
      rw [number]
      exact CaptureUnit.recordOf_number records other
    rw [exec_extendCapture h hl]
    refine ⟨fun done => congrArg _ (handleExtendCapture_done (s := s.unarmed) named done), fun active others => ?_⟩
    intro target
    have raised := CaptureUnit.raiseTarget_split records others active target
    exact congrArg _ ((handleExtendCapture_active (s := s.unarmed) named active).trans
      (congrArg (fun u => State.answer r _ _ (s.unarmed.setCapture u)) raised))
  · rw [exec_releaseCapture h hl]
    refine ⟨fun number active => congrArg _ ?_, fun number held _ => congrArg _ ?_, fun number done => ?_⟩
    · have named : s.capture.recordOf (u8 r.body 0) = some a := by
        rw [number]
        exact CaptureUnit.recordOf_oldest records
      exact handleRelease_refused (s := s.unarmed) named fun ⟨_, done⟩ => active done
    · exact handleRelease_other (s := s.unarmed) records number held
    · intro left answer
      have answered := handleRelease_unarmed (s := s) records number done
      refine ⟨fun ⟨q, hq, active⟩ => congrArg _ ?_, fun all_done => congrArg _ ?_⟩
      · have some_active : ¬ (s.released rest).capture.activeRecord.isNone = true := fun none_active =>
          active (done_resumedRecords.mp
            (CaptureUnit.activeRecord_eq_none.mp (Option.isNone_iff_eq_none.mp none_active)) q hq)
        rw [if_neg some_active] at answered
        exact answered
      · have none_active : (s.released rest).capture.activeRecord.isNone = true :=
          Option.isNone_iff_eq_none.mpr (CaptureUnit.activeRecord_eq_none.mpr (done_resumedRecords.mpr all_done))
        rw [if_pos none_active] at answered
        exact answered

end Sys2Proof.Machine
end

section
/-! The laws of the Contact Driver (R158, R159, R161, R162, R164): what they read of a state, and the operations on contacts,
panel and link timer that keep them. -/

namespace Sys2Proof.Machine

/-! ### What the laws read of a state -/

/-- What the laws of the Contact Driver read of a state. -/
def State.contactView (s : State) : Vector ContactMap 4 × Nat × ContactDriver :=
  (s.cfg.maps, s.cfg.device.linkSilence, s.driver)

/-- The law of the contacts and the panel timer (R158, R159, R161, R164). -/
structure PanelLaw (s : State) : Prop where
  contacts : ∀ k : Fin 4, ContactOk s.driver.panel s.cfg.maps[k] s.driver.contacts[k]
  timer : s.driver.panelTimer = true ↔ s.driver.panel = .pressed ∨ s.driver.panel = .test

/-- The law of a link timer and a link-silence flag under a link silence time (R162). -/
structure LinkTimerOk (time : Nat) (timer : Option Nat) (silent : Bool) : Prop where
  off : time = 0 → timer = none ∧ silent = false
  on : time ≠ 0 → (timer = none ↔ silent = true)
  range : ∀ n, timer = some n → 1 ≤ n ∧ n ≤ time

/-- The law of a state's link timer (R162). -/
def LinkTimerLaw (s : State) : Prop :=
  LinkTimerOk s.cfg.device.linkSilence s.driver.linkTimer s.driver.linkSilent

/-- The laws of the Contact Driver are those of its contacts and panel, and that of its link timer. -/
theorem contactLaw_iff {s : State} : ContactLaw s ↔ PanelLaw s ∧ LinkTimerLaw s :=
  ⟨fun ⟨contacts, panelTimer, off, on, range⟩ => ⟨⟨contacts, panelTimer⟩, ⟨off, on, range⟩⟩,
    fun ⟨⟨contacts, panelTimer⟩, ⟨off, on, range⟩⟩ => ⟨contacts, panelTimer, off, on, range⟩⟩

section
variable {s t : State}

theorem PanelLaw.of_view (h : PanelLaw s) (hv : t.contactView = s.contactView) : PanelLaw t := by
  simp only [State.contactView, Prod.mk.injEq] at hv
  obtain ⟨maps, -, driver⟩ := hv
  exact ⟨by rw [maps, driver]; exact h.contacts, by rw [driver]; exact h.timer⟩

theorem LinkTimerLaw.of_view (h : LinkTimerLaw s) (hv : t.contactView = s.contactView) : LinkTimerLaw t := by
  simp only [State.contactView, Prod.mk.injEq] at hv
  obtain ⟨-, time, driver⟩ := hv
  rw [LinkTimerLaw, time, driver]
  exact h

/-- The laws go by `State.contactView` alone. -/
theorem ContactLaw.of_view (h : ContactLaw s) (hv : t.contactView = s.contactView) : ContactLaw t := by
  obtain ⟨panel, link⟩ := contactLaw_iff.mp h
  exact contactLaw_iff.mpr ⟨panel.of_view hv, link.of_view hv⟩

end

/-! ### The states a contact may stand in -/

/-- The state of a contact agrees with its mode and its source as last judged (R158, R159). -/
structure StateFits (mode : ContactMode) (source : Bool) (st : ContactState) : Prop where
  follow : mode = .follow → st = if source then .closed else .open
  latch : mode = .latch → st ≠ .closed

section
variable {mode : ContactMode} {source : Bool} {st : ContactState}

theorem latchJudged_ne_closed (source : Bool) (st : ContactState) : latchJudged source st ≠ .closed := by
  cases source <;> cases st <;> decide

/-- A contact that is judged fits its new source, whatever its state was. -/
theorem stateFits_judgedState : StateFits mode source (judgedState mode source st) := by
  cases mode with
  | follow => exact ⟨fun _ => rfl, nofun⟩
  | latch => exact ⟨nofun, fun _ => latchJudged_ne_closed source st⟩

/-- So does one whose map is replaced (R166). -/
theorem stateFits_rejudged {before : ContactMode} : StateFits mode source (rejudged before mode source st) := by
  unfold rejudged
  split
  · exact stateFits_judgedState
  · cases mode with
    | follow => exact ⟨fun _ => rfl, nofun⟩
    | latch => exact ⟨nofun, fun _ => by cases source <;> exact ContactState.noConfusion⟩

theorem acknowledgedState_ne_closed (h : st ≠ .closed) : acknowledgedState mode st ≠ .closed := by
  rw [acknowledgedState_eq]
  (repeat' split)
  · exact ContactState.noConfusion
  · exact ContactState.noConfusion
  · exact h

/-- An acknowledged contact goes on fitting its source (R159, R160). -/
theorem StateFits.acknowledged (h : StateFits mode source st) :
    StateFits mode source (acknowledgedState mode st) := by
  cases mode with
  | follow => exact h
  | latch => exact ⟨nofun, fun _ => acknowledgedState_ne_closed (h.latch rfl)⟩

end

theorem contactOk_iff {p : PanelState} {m : ContactMap} {c : Contact} :
    ContactOk p m c ↔ StateFits m.mode c.source c.state ∧ DriverFollows p m c :=
  ⟨fun ⟨follow, latch, driver⟩ => ⟨⟨follow, latch⟩, driver⟩,
    fun ⟨⟨follow, latch⟩, driver⟩ => ⟨follow, latch, driver⟩⟩

/-! ### Contacts and panel -/

section
variable {s t : State}

theorem PanelLaw.fits (h : PanelLaw s) (k : Fin 4) :
    StateFits s.cfg.maps[k].mode s.driver.contacts[k].source s.driver.contacts[k].state :=
  (contactOk_iff.mp (h.contacts k)).1

/-- Where the outputs are driven and the panel timer runs as it should, the states that fit their sources are left to show. -/
theorem PanelLaw.of_driven (driven : Driven t)
    (timer : t.driver.panelTimer = true ↔ t.driver.panel = .pressed ∨ t.driver.panel = .test)
    (fits : ∀ k : Fin 4, StateFits t.cfg.maps[k].mode t.driver.contacts[k].source t.driver.contacts[k].state) : PanelLaw t :=
  ⟨fun k => contactOk_iff.mpr ⟨fits k, driven.outputs k⟩, timer⟩

/-- The panel enters a state with the timer that goes with it (R164). -/
theorem ContactLaw.setPanel (h : ContactLaw s) {p : PanelState} {timer : Bool}
    (ht : timer = true ↔ p = .pressed ∨ p = .test) : ContactLaw (s.setPanel p timer) := by
  obtain ⟨panel, link⟩ := contactLaw_iff.mp h
  obtain ⟨-, contacts, driven, -⟩ := panelMoved_setPanel p timer s
  refine contactLaw_iff.mpr ⟨.of_driven driven ht fun k => ?_, link⟩
  obtain ⟨state, source⟩ := contacts k
  rw [state, source]
  exact panel.fits k

theorem ContactLaw.panelPressed (h : ContactLaw s) : ContactLaw s.panelPressed := by
  by_cases idle : s.driver.panel = .idle
  · rw [State.panelPressed_of_idle idle]
    split <;> exact h.setPanel (by simp)
  · rw [State.panelPressed_of_ne idle]
    exact h.setPanel h.panelTimer

/-- The contacts acknowledged (R160). -/
theorem ContactLaw.acknowledgeContacts (h : ContactLaw s) : ContactLaw s.acknowledgeContacts := by
  obtain ⟨panel, link⟩ := contactLaw_iff.mp h
  refine contactLaw_iff.mpr ⟨.of_driven (driven_acknowledgeContacts s) panel.timer fun k => ?_, link⟩
  obtain ⟨source, state⟩ := s.acknowledgeContacts_contact k
  rw [source, state]
  exact (panel.fits k).acknowledged

theorem ContactLaw.panelReleased (h : ContactLaw s) : ContactLaw s.panelReleased := by
  cases panel : s.driver.panel with
  | idle =>
    rw [State.panelReleased_of_idle panel]
    exact h.setPanel (panel ▸ h.panelTimer)
  | pressed =>
    rw [State.panelReleased_of_pressed panel]
    have released : ContactLaw (s.setPanel .idle false) := h.setPanel (by simp)
    exact (released.of_view (by simp [State.contactView])).acknowledgeContacts
  | test =>
    rw [State.panelReleased_of_test (.inl panel)]
    exact h.setPanel (by simp)
  | testEnded =>
    rw [State.panelReleased_of_test (.inr (.inl panel))]
    exact h.setPanel (by simp)
  | ignored =>
    rw [State.panelReleased_of_test (.inr (.inr panel))]
    exact h.setPanel (by simp)

theorem ContactLaw.panelLocked (h : ContactLaw s) : ContactLaw s.panelLocked := by
  simp only [State.panelLocked]
  split
  · exact h.setPanel (by simp)
  · exact h.setPanel (by simp)
  · exact h.setPanel (by simp)
  · exact h

/-- A contact judged has the source and the state that `State.judgedContact` gives it (R157). -/
theorem State.judgeContacts_contact (s : State) (k : Fin 4) :
    s.judgeContacts.driver.contacts[k].source = s.sourceOf s.cfg.maps[k] ∧
      s.judgeContacts.driver.contacts[k].state =
        judgedState s.cfg.maps[k].mode (s.sourceOf s.cfg.maps[k]) s.driver.contacts[k].state := by
  simp only [State.judgeContacts, State.driveOutputs_contact, State.setDriver_driver, get_ofFn, State.judgedContact, and_self]

theorem driven_judgeContacts (s : State) : Driven s.judgeContacts := driven_driveOutputs _

/-- A report taken (R157). -/
theorem ContactLaw.judgeContacts (h : ContactLaw s) : ContactLaw s.judgeContacts := by
  obtain ⟨panel, link⟩ := contactLaw_iff.mp h
  refine contactLaw_iff.mpr ⟨.of_driven (driven_judgeContacts s) panel.timer fun k => ?_, link⟩
  obtain ⟨source, state⟩ := s.judgeContacts_contact k
  rw [source, state]
  exact stateFits_judgedState

/-- A map written (R166): its own contact is judged afresh, and the others stand. -/
theorem ContactLaw.mapWritten (h : ContactLaw s) (k : Fin 4) (m : ContactMap) : ContactLaw (s.mapWritten k m) := by
  obtain ⟨panel, link⟩ := contactLaw_iff.mp h
  refine contactLaw_iff.mpr ⟨.of_driven driven_mapWritten panel.timer fun j => ?_, link⟩
  have maps : (s.mapWritten k m).cfg.maps = s.cfg.maps.set k m := rfl
  obtain ⟨state, source⟩ := State.mapWritten_contact (s := s) (k := k) (m := m) j
  rw [maps, state, source]
  by_cases own : j = k
  · rw [own, get_set_same, get_set_same]
    exact stateFits_rejudged
  · rw [get_set_of_ne _ own, get_set_of_ne _ own]
    exact panel.fits j

end

/-! ### The link timer -/

section
variable {s : State}

/-- A timer loaded with a time, or stopped with none, and the flag cleared (R162). -/
theorem linkTimerOk_loaded (time : Nat) : LinkTimerOk time (if time = 0 then none else some time) false := by
  by_cases off : time = 0
  · exact ⟨fun _ => by simp [off], fun on => absurd off on, by simp [off]⟩
  · exact ⟨fun zero => absurd zero off, fun _ => by simp [off], fun n hn => by simp [off] at hn; omega⟩

/-- Only the link timer and its flag have changed. -/
theorem ContactLaw.withLinkTimer (h : ContactLaw s) {timer : Option Nat} {silent : Bool}
    (ok : LinkTimerOk s.cfg.device.linkSilence timer silent) :
    ContactLaw (s.setDriver { s.driver with linkTimer := timer, linkSilent := silent }) :=
  contactLaw_iff.mpr ⟨⟨h.contacts, h.panelTimer⟩, ok⟩

theorem ContactLaw.reportIf (h : ContactLaw s) (b : Bool) (r : ContactReport) : ContactLaw (s.reportIf b r) :=
  h.of_view (by simp [State.contactView])

/-- A valid request frame is reported (R162). -/
theorem ContactLaw.linkHeard (h : ContactLaw s) : ContactLaw s.linkHeard := by
  simp only [State.linkHeard]
  split
  · exact h
  · rename_i on
    have loaded := linkTimerOk_loaded s.cfg.device.linkSilence
    rw [if_neg on] at loaded
    exact (h.withLinkTimer loaded).reportIf _ _

/-- A written link silence time makes the law of the link timer hold, whatever the timer was before (R162). -/
theorem PanelLaw.linkSilenceWritten (h : PanelLaw s) : ContactLaw s.linkSilenceWritten := by
  have loaded : ContactLaw (s.setDriver { s.driver with
      linkTimer := if s.cfg.device.linkSilence = 0 then none else some s.cfg.device.linkSilence, linkSilent := false }) :=
    contactLaw_iff.mpr ⟨⟨h.contacts, h.timer⟩, linkTimerOk_loaded _⟩
  exact loaded.reportIf _ _

/-- The link timer takes a clock second (R162): it counts down, or stops at its last and sets the flag. -/
theorem ContactLaw.linkSecond (h : ContactLaw s) (stamp : Stamp) : ContactLaw (s.linkSecond stamp) := by
  cases running : s.driver.linkTimer with
  | none => rw [State.linkSecond_stopped running]; exact h
  | some n =>
    obtain ⟨low, high⟩ := h.timer n running
    have on : s.cfg.device.linkSilence ≠ 0 := by omega
    by_cases more : 2 ≤ n
    · rw [State.linkSecond_runs running more]
      have sounds : s.driver.linkSilent = false := by
        simpa [running] using h.silenceOn on
      refine contactLaw_iff.mpr ⟨⟨h.contacts, h.panelTimer⟩, fun off => absurd off on, fun _ => by simp [sounds], ?_⟩
      rintro _ ⟨⟩
      show 1 ≤ n - 1 ∧ n - 1 ≤ s.cfg.device.linkSilence
      omega
    · have last : n = 1 := by omega
      subst last
      rw [State.linkSecond_last running]
      have stopped : LinkTimerOk s.cfg.device.linkSilence none true :=
        ⟨fun off => absurd off on, fun _ => by simp, nofun⟩
      exact (h.withLinkTimer stopped).of_view rfl

theorem ContactLaw.takeLinkTick (h : ContactLaw s) : ContactLaw s.takeLinkTick := by
  cases waits : s.handOffs.linkTick with
  | none => rw [State.takeLinkTick_of_none waits]; exact h
  | some stamp =>
    rw [State.takeLinkTick_of_some waits]
    have taken : ContactLaw (s.setHandOffs { s.handOffs with linkTick := none }) := h.of_view rfl
    exact taken.linkSecond stamp

theorem ContactLaw.linkClock (h : ContactLaw s) (stamp : Stamp) : ContactLaw (s.linkClock stamp) := by
  simp only [State.linkClock]
  split
  · exact h.takeLinkTick.of_view rfl
  · exact h.takeLinkTick.linkSecond stamp

end

end Sys2Proof.Machine
end

section
/-! Every step keeps the laws of the Contact Driver (R158, R159, R161, R162, R164). -/

namespace Sys2Proof.Machine

/-! ### Clock seconds -/

section
variable {s : State} (h : ContactLaw s)
include h

/-- Of the blocks that a clock second comes to, the link timer alone is the Contact Driver's (R175). -/
theorem ContactLaw.blocksClock (stamp : Stamp) : ContactLaw (s.blocksClock stamp) := by
  have records : (allSixteen.foldl (fun u i => u.recordClock stamp i) s).contactView = s.contactView :=
    foldl_same State.contactView _ (fun _ _ => by simp [State.contactView]) _ _
  refine ContactLaw.linkClock (h.of_view (Eq.trans ?_ records)) stamp
  simp [State.contactView]

/-- The silence timers and the Time Base are none of the Contact Driver's. -/
theorem ContactLaw.tenthPasses_setTime (time : TimeBase) : ContactLaw (s.tenthPasses.setTime time) := h.of_view rfl

theorem ContactLaw.oscillatorSecond : ContactLaw s.oscillatorSecond := (h.tenthPasses_setTime _).blocksClock _

theorem ContactLaw.supervisedSecond : ContactLaw s.supervisedSecond := by
  simp only [State.supervisedSecond]
  split
  · exact h.oscillatorSecond
  · have applied (time : TimeBase) (now : Stamp) :
        ContactLaw ((s.tenthPasses.setTime time).emitDevice .clockSet none now) :=
      (h.tenthPasses_setTime time).of_view rfl
    exact (applied _ _).blocksClock _

theorem ContactLaw.ppsEdgeAt (now : Nat) : ContactLaw (s.ppsEdgeAt now) := by
  simp only [State.ppsEdgeAt]
  repeat' split
  · exact h
  · exact h
  · exact ContactLaw.supervisedSecond (h.of_view rfl)
  · exact ContactLaw.oscillatorSecond (h.of_view rfl)

theorem ContactLaw.ppsFails : ContactLaw s.ppsFails := by
  simp only [State.ppsFails]
  split
  · exact ContactLaw.supervisedSecond (h.of_view rfl)
  · exact h

/-! ### Request frames -/

/-- Valid request frames reload the link timer, and the buffer is none of the Contact Driver's (R162, R168). -/
theorem ContactLaw.requestsIn (rs : List Request) : ContactLaw (s.requestsIn rs) := by
  induction rs generalizing s with
  | nil => exact h
  | cons r rs ih =>
    have offered : ContactLaw (s.linkHeard.offerRequest r) := h.linkHeard.of_view (by simp [State.contactView])
    exact ih offered

theorem ContactLaw.hostBytes (bytes : List Byte) : ContactLaw (s.hostBytes bytes) := by
  have received (l : MessageLink) : ContactLaw (s.setLink l) := h.of_view rfl
  exact (received _).requestsIn _

end

/-! ### Start-up -/

/-- A contact at start-up is OPEN with its source false, and its driver stands by its sense (R161). -/
theorem contactOk_initialContact (m : ContactMap) : ContactOk .idle m (initialContact m) where
  follow := fun _ => rfl
  latch := fun _ => ContactState.noConfusion
  driver := ⟨fun sense => by simp [initialContact, sense], fun sense => by simp [initialContact, sense]⟩

theorem contactLaw_startUp (cause : ResetCause) (rateHigh : Bool) (s : State) : ContactLaw (s.startUp cause rateHigh) := by
  refine contactLaw_iff.mpr ⟨⟨fun k => ?_, by simp [State.startUp, initialDriver]⟩, linkTimerOk_loaded _⟩
  have initial : (s.startUp cause rateHigh).driver.contacts[k] = initialContact (s.startUp cause rateHigh).cfg.maps[k] :=
    get_ofFn _ k
  rw [initial]
  exact contactOk_initialContact _

/-! ### Requests that leave contacts, panel and link timer alone -/

section
variable (r : Request) (s : State)

theorem State.withTransformer_contactView (n : Nat) (f : Fin 16 → State → State)
    (hf : ∀ i, (f i s).contactView = s.contactView) : (s.withTransformer n r f).contactView = s.contactView := by
  simp only [State.withTransformer]
  split
  · rfl
  · exact hf _

theorem handleSetClock_contactView : (handleSetClock r s).contactView = s.contactView := by
  simp only [handleSetClock]
  split <;> rfl

theorem handleWriteSettings_contactView : (handleWriteSettings r s).contactView = s.contactView := by
  simp only [handleWriteSettings]
  split
  · rfl
  · refine s.withTransformer_contactView r _ _ fun i => ?_
    simp only [State.writeSettings]
    split <;> simp [State.contactView]

theorem handleReadSnapshot_contactView : (handleReadSnapshot r s).contactView = s.contactView := by
  simp only [handleReadSnapshot]
  split
  · rfl
  · exact s.withTransformer_contactView r _ _ fun _ => rfl

theorem handleSuppress_contactView : (handleSuppress r s).contactView = s.contactView := by
  simp only [handleSuppress]
  split <;> rfl

theorem handleLoadResponse_contactView : (handleLoadResponse r s).contactView = s.contactView := by
  simp only [handleLoadResponse]
  (repeat' split) <;> rfl

theorem handleReadField_contactView : (handleReadField r s).contactView = s.contactView := by
  simp only [handleReadField]
  split <;> rfl

theorem handleReadMap_contactView : (handleReadMap r s).contactView = s.contactView := by
  simp only [handleReadMap]
  split <;> rfl

theorem handleChangeMask_contactView : (handleChangeMask r s).contactView = s.contactView := by
  simp only [handleChangeMask]
  split <;> rfl

theorem handleFetchTransitions_contactView : (handleFetchTransitions r s).contactView = s.contactView := by
  simp only [handleFetchTransitions]
  split <;> rfl

theorem handleReadEpisode_contactView : (handleReadEpisode r s).contactView = s.contactView := by
  simp only [handleReadEpisode]
  split <;> rfl

theorem handleReadEntry_contactView : (handleReadEntry r s).contactView = s.contactView := by
  simp only [handleReadEntry]
  split <;> rfl

theorem handleCloseEpisode_contactView : (handleCloseEpisode r s).contactView = s.contactView := by
  simp only [handleCloseEpisode]
  split <;> rfl

theorem handleCaptureNow_contactView : (handleCaptureNow r s).contactView = s.contactView := by
  refine s.withTransformer_contactView r _ _ fun ch => ?_
  split
  · rfl
  · simp only [State.captureNow]
    (repeat' split) <;> simp [State.contactView]

theorem handleExtendCapture_contactView : (handleExtendCapture r s).contactView = s.contactView := by
  simp only [handleExtendCapture]
  (repeat' split) <;> rfl

theorem handleListCaptures_contactView : (handleListCaptures r s).contactView = s.contactView := by
  simp only [handleListCaptures]
  (repeat' split) <;> rfl

theorem handleReadSamples_contactView : (handleReadSamples r s).contactView = s.contactView := by
  simp only [handleReadSamples]
  split <;> rfl

theorem handleRelease_contactView : (handleRelease r s).contactView = s.contactView := by
  simp only [handleRelease]
  (repeat' split) <;> simp [State.contactView]

theorem handleClearFault_contactView : (handleClearFault r s).contactView = s.contactView := by
  simp only [handleClearFault]
  (repeat' split) <;> simp [State.contactView]

theorem handleSave_contactView : (handleSave r s).contactView = s.contactView := by
  simp only [handleSave]
  split <;> rfl

theorem State.serveUnknown_contactView : s.serveUnknown.contactView = s.contactView := by
  simp only [State.serveUnknown]
  (repeat' split) <;> rfl

theorem State.serveRestart_contactView : s.serveRestart.contactView = s.contactView := by
  simp only [State.serveRestart]
  (repeat' split) <;> rfl

theorem State.saveEnds_contactView (agrees : Bool) : (s.saveEnds agrees).contactView = s.contactView := by
  simp only [State.saveEnds]
  (repeat' split) <;> rfl

end

/-! ### Requests that do not -/

section
variable {s : State} (h : ContactLaw s)
include h

omit h in
theorem State.whenChanged_contactView {f : State → State} (changed : Bool) (u : State)
    (hf : (f u).contactView = u.contactView) : (u.whenChanged changed f).contactView = u.contactView := by
  cases changed
  · rfl
  · exact hf

/-- An operation that keeps the laws keeps them where it runs only on a change. -/
theorem ContactLaw.whenChanged (changed : Bool) {f : State → State} (hf : ContactLaw (f s)) :
    ContactLaw (s.whenChanged changed f) := by
  cases changed
  · exact h
  · exact hf

/-- Contacts are acknowledged with the flags where the request asks for it (R113, R160). -/
theorem ContactLaw.handleAcknowledge (r : Request) : ContactLaw (handleAcknowledge r s) := by
  have flags (named : TransformerSet) : ContactLaw (s.acknowledgeTransformers named) :=
    h.of_view (by simp [State.contactView])
  exact ((flags _).whenChanged _ (flags _).acknowledgeContacts).of_view rfl

theorem ContactLaw.handleWriteMap (r : Request) : ContactLaw (handleWriteMap r s) := by
  simp only [Machine.handleWriteMap]
  repeat' split
  · exact h.of_view rfl
  · exact h.of_view rfl
  · exact (h.mapWritten _ _).of_view rfl

/-- Another link silence time loads or stops the timer at once, so that the law of the link timer holds again (R162, R179). -/
theorem ContactLaw.setDevice_linkSilence (d : DeviceSettings) {u : State}
    (hu : u.contactView = (s.setDevice d).contactView) :
    ContactLaw (u.whenChanged (s.cfg.device.linkSilence != d.linkSilence) State.linkSilenceWritten) := by
  by_cases same : s.cfg.device.linkSilence = d.linkSilence
  · rw [State.whenChanged, same, bne_self_eq_false]
    refine h.of_view (hu.trans ?_)
    simp [State.contactView, same]
  · rw [State.whenChanged, bne_iff_ne.mpr same]
    have stored : PanelLaw (s.setDevice d) := ⟨h.contacts, h.panelTimer⟩
    exact (stored.of_view hu).linkSilenceWritten

/-- The effects of written device settings that come before the link silence time's, and those that come after it (R179). -/
theorem ContactLaw.deviceEffects (d : DeviceSettings) (now : Nat) :
    ContactLaw ((s.setDevice d).deviceEffects s.cfg.device d now) := by
  have spared : (((s.setDevice d).whenChanged (s.cfg.device.mains != d.mains) (State.abandon fun _ => true)).whenChanged
      (s.cfg.device.debounce != d.debounce) (State.debounceWritten now)).contactView = (s.setDevice d).contactView :=
    (State.whenChanged_contactView _ _ (by simp [State.contactView])).trans
      (State.whenChanged_contactView _ _ (by simp [State.contactView]))
  have silence := h.setDevice_linkSilence d spared
  have locked := silence.whenChanged (!s.cfg.device.panelLock && d.panelLock) silence.panelLocked
  exact locked.whenChanged (s.cfg.device.ppsUse != d.ppsUse) (locked.of_view (by simp [State.contactView]))

theorem ContactLaw.handleWriteDevice (r : Request) (now : Nat) : ContactLaw (handleWriteDevice now r s) := by
  simp only [Machine.handleWriteDevice]
  split
  · exact h.of_view rfl
  · exact (h.deviceEffects _ now).of_view rfl

/-- A request row keeps the laws where its handler does. -/
theorem ContactLaw.serveRequest (k : Byte) {f : Request → State → State}
    (hf : ∀ r v, ContactLaw v → ContactLaw (f r v)) : ContactLaw (s.serveRequest k f) := by
  rcases serveRequest_cases k f s with same | ⟨r, -, bad | ⟨-, served⟩⟩
  · rw [same]; exact h
  · rw [bad]; exact h.of_view rfl
  · rw [served]; exact hf r _ (h.of_view rfl)

/-- So it does where its handler leaves contacts, panel and link timer alone. -/
theorem ContactLaw.served (k : Byte) {f : Request → State → State} (hf : ∀ r v, (f r v).contactView = v.contactView) :
    ContactLaw (s.serveRequest k f) := h.serveRequest k fun r v hv => hv.of_view (hf r v)

end

/-! ### Events that wait -/

section
variable {s u : State}

theorem execMeasuredSecond_contactView (i : Fin 16) (e : execMeasuredSecond i s = .next u) :
    u.contactView = s.contactView := by
  simp only [execMeasuredSecond] at e
  split at e <;> cases e <;> simp [State.contactView]

theorem execStandInSecond_contactView (i : Fin 16) (e : execStandInSecond i s = .next u) :
    u.contactView = s.contactView := by
  cases e
  split <;> simp [State.contactView]

theorem execFieldNone_contactView (e : execFieldNone s = .next u) : u.contactView = s.contactView := by
  cases e
  split <;> simp [State.contactView]

theorem execEpisodeHandoff_contactView (i : Fin 16) (e : execEpisodeHandoff i s = .next u) :
    u.contactView = s.contactView := by
  simp only [execEpisodeHandoff] at e
  split at e <;> cases e <;> simp [State.contactView]

theorem execEnergised_contactView (i : Fin 16) (e : execEnergised i s = .next u) : u.contactView = s.contactView := by
  simp only [execEnergised] at e
  split at e <;> cases e
  · rfl
  · split <;> simp [State.contactView]

theorem execDeenergised_contactView (i : Fin 16) (e : execDeenergised i s = .next u) :
    u.contactView = s.contactView := by
  simp only [execDeenergised] at e
  split at e <;> cases e
  · rfl
  · split <;> simp [State.contactView]

theorem execLevelTrigger_contactView (ch : Fin 16) (e : execLevelTrigger ch s = .next u) :
    u.contactView = s.contactView := by
  simp only [execLevelTrigger] at e
  split at e <;> cases e <;> simp [State.contactView]

theorem execCaptureDisableReport_contactView (ch : Fin 16) (e : execCaptureDisableReport ch s = .next u) :
    u.contactView = s.contactView := by
  simp only [execCaptureDisableReport] at e
  split at e <;> cases e <;> simp [State.contactView]

theorem execCaptureMissed_contactView (ch : Fin 16) (e : execCaptureMissed ch s = .next u) :
    u.contactView = s.contactView := by
  simp only [execCaptureMissed] at e
  split at e <;> cases e <;> simp [State.contactView]

theorem execTenthAdvance_contactView (e : execTenthAdvance s = .next u) : u.contactView = s.contactView := by
  cases e
  (repeat' split) <;> rfl

variable (h : ContactLaw s)
include h

theorem ContactLaw.execPanelPress (e : execPanelPress s = .next u) : ContactLaw u := by
  simp only [Machine.execPanelPress] at e
  split at e <;> cases e
  · exact ContactLaw.panelPressed (h.of_view rfl)
  · exact h

theorem ContactLaw.execPanelRelease (e : execPanelRelease s = .next u) : ContactLaw u := by
  simp only [Machine.execPanelRelease] at e
  split at e <;> cases e
  · exact ContactLaw.panelReleased (h.of_view rfl)
  · exact h

/-- The panel test starts with the timer running, and times out with it stopped (R164). -/
theorem ContactLaw.execPanelTestStart (e : execPanelTestStart s = .next u) : ContactLaw u := by
  cases e
  split
  · exact h.setPanel (by simp)
  · exact h

theorem ContactLaw.execPanelTestTimeout (e : execPanelTestTimeout s = .next u) : ContactLaw u := by
  cases e
  split
  · exact h.setPanel (by simp)
  · exact h

theorem ContactLaw.execContactReport (e : execContactReport s = .next u) : ContactLaw u := by
  simp only [Machine.execContactReport] at e
  split at e <;> cases e
  · exact h
  · exact ContactLaw.judgeContacts (h.of_view rfl)

theorem ContactLaw.execRestartReset (rateHigh : Bool) (e : execRestartReset rateHigh s = .next u) : ContactLaw u := by
  cases e
  split
  · exact contactLaw_startUp _ _ s
  · exact h

theorem ContactLaw.execClockSecond (e : execClockSecond s = .next u) : ContactLaw u := by
  cases e
  split
  · exact h
  · exact h.oscillatorSecond

/-! ### Every command -/

theorem ContactLaw.exec {c : Instr} (e : exec c s = .next u) : ContactLaw u := by
  cases c with
  | powerOnReset rateHigh => cases e; exact contactLaw_startUp _ _ s
  | pinReset rateHigh => cases e; exact contactLaw_startUp _ _ s
  | restartReset rateHigh => exact h.execRestartReset rateHigh e
  | sampleFrame bytes => cases e; exact h.of_view (by simp [State.contactView])
  | sampleLineIdle bytes => cases e; exact h.of_view (by simp [State.contactView])
  | takeCurrentFrame => cases e; exact h.of_view (by simp [State.contactView])
  | takeFieldFrame => cases e; exact h.of_view (by simp [State.contactView])
  | measuredSecond i => exact h.of_view (execMeasuredSecond_contactView i e)
  | clockSecond => exact h.execClockSecond e
  | standInSecond i => exact h.of_view (execStandInSecond_contactView i e)
  | fieldNone => exact h.of_view (execFieldNone_contactView e)
  | episodeQuietClose => cases e; exact h.of_view (by simp [State.contactView])
  | episodeHandoff i => exact h.of_view (execEpisodeHandoff_contactView i e)
  | captureMissed ch => exact h.of_view (execCaptureMissed_contactView ch e)
  | linkSilent => cases e; exact h.takeLinkTick
  | silenceTimerExpiry c => cases e; exact h.of_view (by simp [State.contactView])
  | ppsEdge now => cases e; exact h.ppsEdgeAt now
  | ppsLost => cases e; exact h.ppsFails
  | inputLevelChange pin level now => cases e; exact h.of_view rfl
  | debounceComplete pin => cases e; exact h.of_view (by simp [State.contactView])
  | energised i => exact h.of_view (execEnergised_contactView i e)
  | deenergised i => exact h.of_view (execDeenergised_contactView i e)
  | panelPress => exact h.execPanelPress e
  | panelRelease => exact h.execPanelRelease e
  | panelTestStart => exact h.execPanelTestStart e
  | panelTestTimeout => exact h.execPanelTestTimeout e
  | contactReport => exact h.execContactReport e
  | levelTrigger ch => exact h.of_view (execLevelTrigger_contactView ch e)
  | captureDisableReport ch => exact h.of_view (execCaptureDisableReport_contactView ch e)
  | requestFrame bytes => cases e; exact h.hostBytes bytes
  | hostFrameGap bytes => cases e; exact (h.hostBytes bytes).of_view rfl
  | unknownKindRequest => cases e; exact h.of_view s.serveUnknown_contactView
  | identify => cases e; exact h.served _ fun r v => rfl
  | readClock => cases e; exact h.served _ fun r v => rfl
  | setClock => cases e; exact h.served _ handleSetClock_contactView
  | readDeviceSettings => cases e; exact h.served _ fun r v => rfl
  | writeDeviceSettings now => cases e; exact h.serveRequest _ fun r v hv => hv.handleWriteDevice r now
  | readTransformerSettings => cases e; exact h.served _ fun r v => v.withTransformer_contactView r _ _ fun _ => rfl
  | writeTransformerSettings => cases e; exact h.served _ handleWriteSettings_contactView
  | readLive => cases e; exact h.served _ fun r v => v.withTransformer_contactView r _ _ fun _ => rfl
  | snapshot => cases e; exact h.served _ fun r v => rfl
  | readSnapshot => cases e; exact h.served _ handleReadSnapshot_contactView
  | acknowledge => cases e; exact h.serveRequest _ fun r v hv => hv.handleAcknowledge r
  | suppress => cases e; exact h.served _ handleSuppress_contactView
  | loadGroundResponse => cases e; exact h.served _ handleLoadResponse_contactView
  | readGroundResponse => cases e; exact h.served _ fun r v => rfl
  | readField => cases e; exact h.served _ handleReadField_contactView
  | readContactMap => cases e; exact h.served _ handleReadMap_contactView
  | writeContactMap => cases e; exact h.serveRequest _ fun r v hv => hv.handleWriteMap r
  | fetchSummary => cases e; exact h.served _ fun r v => rfl
  | changeNoticeMask => cases e; exact h.served _ handleChangeMask_contactView
  | fetchTransitions => cases e; exact h.served _ handleFetchTransitions_contactView
  | readEpisode => cases e; exact h.served _ handleReadEpisode_contactView
  | readEpisodeEntry => cases e; exact h.served _ handleReadEntry_contactView
  | closeEpisode => cases e; exact h.served _ handleCloseEpisode_contactView
  | captureNow => cases e; exact h.served _ handleCaptureNow_contactView
  | extendCapture => cases e; exact h.served _ handleExtendCapture_contactView
  | listCaptures => cases e; exact h.served _ handleListCaptures_contactView
  | readCaptureSamples => cases e; exact h.served _ handleReadSamples_contactView
  | releaseCapture => cases e; exact h.served _ handleRelease_contactView
  | readIntakeStatus => cases e; exact h.served _ fun r v => rfl
  | clearConverterFault => cases e; exact h.served _ handleClearFault_contactView
  | saveSettings => cases e; exact h.served _ handleSave_contactView
  | saveCompletion agrees => cases e; exact h.of_view (s.saveEnds_contactView agrees)
  | restart => cases e; exact h.of_view s.serveRestart_contactView
  | tenthAdvance => exact h.of_view (execTenthAdvance_contactView e)
  | replySent => cases e; exact h.of_view (by simp [State.contactView])
  | sampleDamagedByte bytes => cases e; exact h.of_view (by simp [State.contactView])
  | sampleFrameDiscard bytes => cases e; exact h.of_view (by simp [State.contactView])
  | hostDamagedByte bytes => cases e; exact (h.hostBytes bytes).of_view rfl
  | hostFrameDiscard bytes => cases e; exact h.hostBytes bytes

end

/-- Settles O13: a step is a command on the state without it, and every command keeps the laws. -/
theorem stepKeepsContactLaw : Obligations.StepKeepsContactLaw := by
  intro s t h e
  simp only [step] at e
  split at e
  · cases e; exact h
  · rename_i c rest _
    have taken : ContactLaw { s with pending := rest } := h.of_view rfl
    exact taken.exec e

end Sys2Proof.Machine
end

section
/-! Sources, outputs and drivers of contacts, the table of a LATCH contact, and a contact report (R156 to R161, R163, R165). -/

namespace Sys2Proof.Machine

/-! ### Sources -/

section
variable {s : State}

/-- Transformers that count for a source: IN_SERVICE and not suppressed (R156). -/
def State.Counts (i : Fin 16) (s : State) : Prop := s.live[i].service = .inService ∧ s.live[i].suppressed = false

theorem State.transformerPart_iff {m : ContactMap} : s.transformerPart m = true ↔
    ∃ i : Fin 16, m.transformers.getLsbD i = true ∧ s.Counts i ∧ m.minLevel.rank ≤ s.live[i].level.rank := by
  simp only [State.transformerPart, State.Counts, any_allSixteen, Bool.and_eq_true, beq_iff_eq, Bool.not_eq_true',
    decide_eq_true_eq, and_assoc]

theorem State.anyDoubt_iff : s.anyDoubt = true ↔ ∃ i, s.Counts i ∧ s.live[i].doubt = true := by
  simp only [State.anyDoubt, State.Counts, any_allSixteen, Bool.and_eq_true, beq_iff_eq, Bool.not_eq_true']

theorem State.anyLost_iff : s.anyLost = true ↔ ∃ i, s.Counts i ∧ s.live[i].lost = true := by
  simp only [State.anyLost, State.Counts, any_allSixteen, Bool.and_eq_true, beq_iff_eq, Bool.not_eq_true']

theorem mem_fiveConverters (c : Fin 5) : c ∈ ([0, 1, 2, 3, 4] : List (Fin 5)) := by revert c; decide

theorem State.anyFaulted_iff :
    s.anyFaulted = true ↔ ∃ (c : Fin 5) (r : Byte), s.intake.converters[c].state = .faulted r := by
  simp only [State.anyFaulted, List.any_eq_true, mem_fiveConverters, true_and, ConverterState.isFaulted_iff]
  rfl

/-- A source holds by its transformer part or by one of its device sources (R156). -/
theorem State.sourceOf_iff {m : ContactMap} : s.sourceOf m = true ↔
    s.transformerPart m = true ∨ (m.sources.getLsbD 0 = true ∧ s.anyDoubt = true) ∨
      (m.sources.getLsbD 1 = true ∧ s.anyLost = true) ∨ (m.sources.getLsbD 2 = true ∧ s.anyFaulted = true) ∨
      (m.sources.getLsbD 3 = true ∧ s.driver.linkSilent = true) ∨
      (m.sources.getLsbD 4 = true ∧ s.tracker.openEpisode ≠ none) := by
  simp only [State.sourceOf, State.devicePart, Bool.or_eq_true, Bool.and_eq_true, Option.isSome_iff_ne_none, or_assoc]

end

/-! ### Outputs and LATCH contacts -/

/-- A contact is in alarm in every state but OPEN, and under a panel test that its map enables (R158, R165). -/
theorem outputInAlarm_iff {p : PanelState} {m : ContactMap} {st : ContactState} :
    outputInAlarm p m st = true ↔ st ≠ .open ∨ p = .test ∧ m.testEnable = true := by
  simp only [outputInAlarm, Bool.or_eq_true, Bool.and_eq_true, bne_iff_ne, beq_iff_eq]

/-- The columns of R159 for a source judged true and judged false. -/
theorem latchJudged_eq {source : Bool} {st : ContactState} (h : st ≠ .closed) : latchJudged source st =
    if source then (if st = .open ∨ st = .closedHeld then .closedActive else st)
    else if st = .closedActive then .closedHeld else if st = .closedAcked then .open else st :=
  match source, st with
  | _, .closed => absurd rfl h
  | true, .open | true, .closedActive | true, .closedHeld | true, .closedAcked => rfl
  | false, .open | false, .closedActive | false, .closedHeld | false, .closedAcked => rfl

/-- Settles O44: every cell of R159 is computed, and outside a panel test the output goes by the state alone. -/
theorem latchTable : Obligations.LatchTable := by
  refine ⟨⟨rfl, rfl, rfl⟩, ⟨rfl, rfl, rfl⟩, ⟨rfl, rfl, rfl⟩, ⟨rfl, rfl, rfl⟩, fun m p st untested => ?_⟩
  rw [outputInAlarm_iff]
  exact or_iff_left fun ⟨test, _⟩ => untested test

/-! ### A report taken -/

theorem exec_contactReport {s : State} {r : ContactReport} {rest : List ContactReport} (h : s.handOffs.reports = r :: rest) :
    exec .contactReport s = .next (s.setHandOffs { s.handOffs with reports := rest }).judgeContacts := by
  show execContactReport s = _
  simp only [execContactReport, h]

/-- Settles O43: the sources (`State.sourceOf_iff`), the outputs (`outputInAlarm_iff`), and of a report taken each contact
(`State.judgeContacts_contact`) with its outputs driven. -/
theorem contactReportTaken : Obligations.ContactReportTaken := by
  refine ⟨fun m s => ?_, fun p m st => ⟨outputInAlarm_iff, fun _ => ⟨rfl, rfl⟩⟩, fun r rest s reported => ?_⟩
  · intro counted
    rw [State.sourceOf_iff, State.transformerPart_iff, State.anyDoubt_iff, State.anyLost_iff, State.anyFaulted_iff]
    rfl
  · refine ⟨_, exec_contactReport reported, driven_judgeContacts _, fun k => ?_, rfl⟩
    obtain ⟨source, state⟩ := (s.setHandOffs { s.handOffs with reports := rest }).judgeContacts_contact k
    refine ⟨source, fun follow => ?_, fun latch reachable => ?_⟩
    · rw [state, State.setHandOffs_cfg, follow]
      rfl
    · rw [state, State.setHandOffs_cfg, latch]
      exact latchJudged_eq reachable

end Sys2Proof.Machine
end

section
/-! Request frames on HRX (R162, R168, R169, R182): what hunting and assembly make of a whole frame, of noise, of frames cut
short and of discards. -/

namespace Sys2Proof.Machine

/-! ### Hunting and assembly -/

section
variable {fuel : Nat} {len : Byte} {more : List Byte}

theorem scanHost_nil (fuel : Nat) : scanHost fuel [] = ([], []) := by cases fuel <;> rfl

/-- A byte other than SYN is passed over while hunting (R168). -/
theorem scanHost_skip {b : Byte} (hb : b ≠ 0xE7) (rest : List Byte) :
    scanHost (fuel + 1) (b :: rest) = scanHost fuel rest := if_pos hb

theorem scanHost_noise {noise : List Byte} (quiet : (0xE7 : Byte) ∉ noise) :
    scanHost noise.length noise = ([], []) := by
  induction noise with
  | nil => rfl
  | cons b noise ih =>
    obtain ⟨hb, hn⟩ := not_or.mp (List.mem_cons.not.mp quiet)
    exact (scanHost_skip (Ne.symm hb) _).trans (ih hn)

/-- A LEN out of its range discards the frame, and is hunted from itself (R168). -/
theorem scanHost_badLen (out : len.toNat < 2 ∨ 238 < len.toNat) (rest : List Byte) :
    scanHost (fuel + 1) (0xE7 :: len :: rest) = scanHost fuel (len :: rest) :=
  (if_neg (not_not.mpr rfl)).trans (if_pos out)

section
variable (low : 2 ≤ len.toNat) (high : len.toNat ≤ 238)
include low high

/-- A frame without its check byte stays in assembly. -/
theorem scanHost_short (short : more.length ≤ len.toNat) :
    scanHost (fuel + 1) (0xE7 :: len :: more) = ([], 0xE7 :: len :: more) := by
  refine ((if_neg (not_not.mpr rfl)).trans (if_neg (by omega))).trans ?_
  simp only [List.drop_eq_nil_of_le short]

/-- A whole frame: valid where its check byte agrees, and else hunted again from the byte after SYN (R168). -/
theorem scanHost_whole (whole : more.length = len.toNat) (check : Byte) :
    scanHost (fuel + 1) (0xE7 :: len :: (more ++ [check])) =
      if crc8 (len :: more) = check then ([⟨more.getD 0 0, more.getD 1 0, more.drop 2⟩], [])
      else scanHost fuel (len :: (more ++ [check])) := by
  have left : (more ++ [check]).drop len.toNat = [check] := List.drop_left' whole
  have payload : (more ++ [check]).take len.toNat = more := List.take_left' whole
  refine ((if_neg (not_not.mpr rfl)).trans (if_neg (by omega))).trans ?_
  simp only [left, payload, scanHost_nil]

end

end

/-! ### What the link does with what was found -/

section
variable {s : State} (hunting : s.link.line = [])
include hunting

theorem State.setLink_line_nil : s.setLink { s.link with line := [] } = s := by
  rw [← hunting]
  rfl

/-- Any number of looks that is enough for the bytes received will do. -/
theorem State.hostBytes_of_scan {bytes l : List Byte} {rs : List Request} (fuel : Nat) (enough : bytes.length ≤ fuel)
    (scanned : scanHost fuel bytes = (rs, l)) :
    s.hostBytes bytes = (s.setLink { s.link with line := l }).requestsIn rs := by
  have received : receiveHost s.link.line bytes = (rs, l) := by
    rw [receiveHost, hunting, ← scanned]
    exact scanHost_fuel _ _ _ (Nat.le_succ _) enough
  simp only [State.hostBytes, received]

/-- Bytes that leave nothing in assembly. -/
theorem State.hostBytes_done {bytes : List Byte} {rs : List Request} (fuel : Nat) (enough : bytes.length ≤ fuel)
    (scanned : scanHost fuel bytes = (rs, [])) : s.hostBytes bytes = s.requestsIn rs := by
  rw [State.hostBytes_of_scan hunting fuel enough scanned, State.setLink_line_nil hunting]

theorem State.hostBytes_noise {noise : List Byte} (quiet : (0xE7 : Byte) ∉ noise) : s.hostBytes noise = s :=
  State.hostBytes_done hunting _ le_rfl (scanHost_noise quiet)

/-- A frame in assembly is abandoned with nothing else done (R168). -/
theorem State.hostAbandon_short {len : Byte} {more : List Byte} (low : 2 ≤ len.toNat) (high : len.toNat ≤ 238)
    (short : more.length ≤ len.toNat) : (s.hostBytes (0xE7 :: len :: more)).hostAbandon = s := by
  rw [State.hostBytes_of_scan hunting (more.length + 1 + 1) (by simp) (scanHost_short low high short)]
  exact State.setLink_line_nil hunting

/-- A damaged byte is passed over while hunting (assumption 28). -/
theorem State.hostAbandon_noise {noise : List Byte} (quiet : (0xE7 : Byte) ∉ noise) :
    (s.hostBytes noise).hostAbandon = s := by
  rw [State.hostBytes_noise hunting quiet]
  exact State.setLink_line_nil hunting

/-- A LEN out of its range discards the frame (R168). -/
theorem State.hostBytes_badLen {len : Byte} (out : len.toNat < 2 ∨ 238 < len.toNat) : s.hostBytes [0xE7, len] = s := by
  have other : len ≠ 0xE7 := by
    rintro rfl
    revert out
    decide
  refine State.hostBytes_done (rs := []) hunting 2 le_rfl ?_
  rw [scanHost_badLen out, scanHost_skip other, scanHost_nil]

/-- Behind a check byte that fails the bytes from the one after SYN are looked at afresh (R168). -/
theorem State.hostBytes_rewound {len check : Byte} {more : List Byte} (low : 2 ≤ len.toNat) (high : len.toNat ≤ 238)
    (whole : more.length = len.toNat) (differs : crc8 (len :: more) ≠ check) :
    s.hostBytes (0xE7 :: len :: (more ++ [check])) = s.hostBytes (len :: (more ++ [check])) := by
  have scanned := scanHost_whole (fuel := (len :: (more ++ [check])).length) low high whole check
  rw [if_neg differs] at scanned
  rw [State.hostBytes_of_scan hunting ((len :: (more ++ [check])).length + 1) le_rfl scanned,
    State.hostBytes_of_scan hunting (len :: (more ++ [check])).length le_rfl rfl]

/-- A whole frame whose check byte agrees is reported for link silence and offered to the buffer (R162, R168, R169). -/
theorem State.hostBytes_valid {len kind tag : Byte} {body : List Byte} (whole : len.toNat = body.length + 2)
    (fits : body.length ≤ 236) :
    s.hostBytes (0xE7 :: (len :: kind :: tag :: body ++ [crc8 (len :: kind :: tag :: body)])) =
      s.linkHeard.offerRequest ⟨kind, tag, body⟩ := by
  have scanned := scanHost_whole (len := len) (more := kind :: tag :: body) (fuel := body.length + 4) (by omega) (by omega)
    whole.symm (crc8 (len :: kind :: tag :: body))
  rw [if_pos rfl] at scanned
  exact State.hostBytes_done hunting _ (by simp) scanned

end

/-- A request reported for link silence (R162): with a link silence time the timer is loaded and the flag cleared. -/
theorem State.linkHeard_eq (s : State) : s.linkHeard =
    if s.cfg.device.linkSilence = 0 then s
    else { s with
      driver := { s.driver with linkTimer := some s.cfg.device.linkSilence, linkSilent := false }
      handOffs := if s.driver.linkSilent then { s.handOffs with reports := s.handOffs.reports ++ [.linkSilence] }
        else s.handOffs } := by
  simp only [State.linkHeard, State.reportIf]
  cases s.driver.linkSilent <;> rfl

/-- A request joins the buffer where there is room, and else disarms the restart (R169, R182). -/
theorem State.offerRequest_eq (r : Request) (s : State) : s.offerRequest r =
    if s.link.buffer.length < 2 then { s with link := { s.link with buffer := s.link.buffer ++ [r] } }
    else if s.link.restart = .due then s else { s with link := { s.link with restart := .disarmed } } := by
  by_cases due : s.link.restart = .due
  · have still : s.disarm = s := by
      rw [State.disarm, due]
      show s.setLink { s.link with restart := .due } = s
      rw [← due]
      rfl
    rw [if_pos due, State.offerRequest, still]
    rfl
  · rw [if_neg due, State.offerRequest, disarm_eq due]
    rfl

/-- Settles O48: a valid frame (`State.hostBytes_valid`), noise, and frames cut short or discarded. -/
theorem requestFramesArrive : Obligations.RequestFramesArrive := by
  refine ⟨fun kind tag body s fits hunting => ?_, fun noise s hunting quiet => ?_,
    fun len more s hunting => ⟨fun low high short => ?_, fun out => ?_, fun check low high whole differs => ?_⟩⟩
  · intro counted heard
    have heard_eq : s.linkHeard = heard := s.linkHeard_eq
    have len : (BitVec.ofNat 8 (body.length + 2)).toNat = body.length + 2 := by
      rw [BitVec.toNat_ofNat, Nat.mod_eq_of_lt (by omega)]
    have offered := State.offerRequest_eq ⟨kind, tag, body⟩ s.linkHeard
    obtain ⟨-, -, -, -, -, -, -, -, -, -, link, -⟩ := s.linkHeard_frame
    rw [link, heard_eq] at offered
    refine congrArg Host.Outcome.next ((State.hostBytes_valid hunting len fits).trans ?_)
    rw [heard_eq]
    exact offered
  · exact congrArg Host.Outcome.next (State.hostAbandon_noise hunting quiet)
  · have abandoned := State.hostAbandon_short hunting low high short
    exact ⟨congrArg Host.Outcome.next abandoned, congrArg Host.Outcome.next abandoned⟩
  · exact congrArg Host.Outcome.next (State.hostBytes_badLen hunting out)
  · have rewound := State.hostBytes_rewound hunting low high whole differs
    exact ⟨congrArg Host.Outcome.next rewound, fun quiet =>
      congrArg Host.Outcome.next (rewound.trans (State.hostBytes_noise hunting quiet))⟩

end Sys2Proof.Machine
end

section
/-! The laws of the Message Link (R169, R171, R172) and of the Time Base (R175 to R177): what they read of a state, and what
the operations that change it do to them. -/

namespace Sys2Proof.Machine

/-! ### What the laws read of a state -/

/-- The law of a link under a notice mask (R169, R171, R172). -/
structure LinkOk (mask : CategorySet) (l : MessageLink) : Prop where
  queue : l.transitions.length ≤ 64
  attn : l.attn = true ↔ l.summary &&& mask ≠ 0
  buffer : l.buffer.length ≤ 2
  answering : l.sending ≠ none → l.buffer ≠ []

/-- The law of a time under a pps use (R175 to R177). -/
structure TimeOk (use : Bool) (b : TimeBase) : Prop where
  day : b.now.day ≤ 65535
  second : b.now.second ≤ 86399
  tenth : b.now.tenth ≤ 9
  staged : ∀ p, b.pendingSet = some p → p.1 ≤ 65535 ∧ p.2 ≤ 86399 ∧ b.pps = .tracking
  pps : b.pps = .unused ↔ use = false

theorem linkLaw_iff {s : State} : LinkLaw s ↔ LinkOk s.cfg.device.noticeMask s.link :=
  ⟨fun ⟨queue, attn, buffer, answering⟩ => ⟨queue, attn, buffer, answering⟩,
    fun ⟨queue, attn, buffer, answering⟩ => ⟨queue, attn, buffer, answering⟩⟩

theorem timeLaw_iff {s : State} : TimeLaw s ↔ TimeOk s.cfg.device.ppsUse s.time :=
  ⟨fun ⟨day, second, tenth, staged, pps⟩ => ⟨day, second, tenth, staged, pps⟩,
    fun ⟨day, second, tenth, staged, pps⟩ => ⟨day, second, tenth, staged, pps⟩⟩

/-! ### Transitions -/

theorem attnOf_iff {summary mask : CategorySet} : attnOf summary mask = true ↔ summary &&& mask ≠ 0 := bne_iff_ne

section
variable {mask : CategorySet} {l l' : MessageLink}

/-- A transition joins a queue that has room, and ATTN is judged (R171, R172). -/
theorem LinkOk.withTransition (h : LinkOk mask l) (t : Transition) : LinkOk mask (l.withTransition mask t) where
  queue := by
    rw [MessageLink.withTransition_transitions, queueWith]
    split
    · rename_i room
      rw [List.length_append]
      exact room
    · exact h.queue
  attn := attnOf_iff
  buffer := h.buffer
  answering := h.answering

theorem LinkOk.emitted (h : LinkOk mask l) (made : Emitted mask l l') : LinkOk mask l' := by
  obtain ⟨ts, rfl⟩ := made
  induction ts generalizing l with
  | nil => exact h
  | cons t ts ih => exact ih (h.withTransition t)

/-- A reply's sending begins while its request waits in the buffer (R169). -/
theorem LinkOk.withSending (h : LinkOk mask l) (asked : l.buffer ≠ []) (reply : List Byte) :
    LinkOk mask { l with sending := some reply } := ⟨h.queue, h.attn, h.buffer, fun _ => asked⟩

end

/-! ### The time -/

section
variable {use : Bool} {b : TimeBase}

/-- The next second is in range (R175). -/
theorem TimeOk.nextSecond (h : TimeOk use b) (edge : Option Nat) :
    TimeOk use { b with now := b.now.nextSecond, lastEdge := edge } := by
  obtain ⟨day, second, -, staged, pps⟩ := h
  have range : b.now.nextSecond.day ≤ 65535 ∧ b.now.nextSecond.second ≤ 86399 ∧ b.now.nextSecond.tenth ≤ 9 := by
    rcases Nat.lt_or_eq_of_le second with before | midnight
    · rw [Stamp.nextSecond_of_lt before]
      exact ⟨day, before, Nat.zero_le 9⟩
    · rw [Stamp.nextSecond_midnight midnight]
      split
      · rename_i more
        exact ⟨more, Nat.zero_le _, Nat.zero_le 9⟩
      · exact ⟨Nat.zero_le _, Nat.zero_le _, Nat.zero_le 9⟩
  obtain ⟨dayOk, secondOk, tenthOk⟩ := range
  exact ⟨dayOk, secondOk, tenthOk, staged, pps⟩

/-- A staged set applies (R177); the tenth is one within range. -/
theorem TimeOk.applied (h : TimeOk use b) {p : Nat × Nat} (set : b.pendingSet = some p) {tenth : Nat} (tenthOk : tenth ≤ 9) :
    TimeOk use { b with now := ⟨p.1, p.2, tenth⟩, pendingSet := none } := by
  obtain ⟨day, second, -⟩ := h.staged p set
  exact ⟨day, second, tenthOk, nofun, h.pps⟩

/-- Pps use turned off: UNUSED, with nothing staged any more (R176, R177). -/
theorem TimeOk.unused (h : TimeOk use b) (unset : b.pendingSet = none) : TimeOk false { b with pps := .unused } where
  day := h.day
  second := h.second
  tenth := h.tenth
  staged := fun _ staged => nomatch unset.symm.trans staged
  pps := ⟨fun _ => rfl, fun _ => rfl⟩

/-- Pps use turned on, and the pulse lost: LOST, with nothing staged (R176). -/
theorem TimeOk.lost (h : TimeOk use b) (unset : b.pendingSet = none) : TimeOk true { b with pps := .lost } where
  day := h.day
  second := h.second
  tenth := h.tenth
  staged := fun _ staged => nomatch unset.symm.trans staged
  pps := ⟨nofun, nofun⟩

end

end Sys2Proof.Machine
end

section
/-! Commands that keep the laws of the Message Link and of the Time Base: transitions, replies, clock seconds, request frames. -/

namespace Sys2Proof.Machine

/-- From `s` to `t` the laws of the link and of the time are kept. -/
structure KeepsLinkTime (s t : State) : Prop where
  link : LinkLaw s → LinkLaw t
  time : TimeLaw s → TimeLaw t

/-- From `s` to `t` transitions may have been made, and nothing else that the two laws read has changed. -/
structure OnlyMakes (s t : State) : Prop where
  time : t.time = s.time
  device : t.cfg.device = s.cfg.device
  link : Emitted s.cfg.device.noticeMask s.link t.link

/-- From `s` to `t` the same, and the sending of a reply has begun. -/
structure Answers (s t : State) : Prop where
  time : t.time = s.time
  device : t.cfg.device = s.cfg.device
  link : ∃ l reply, Emitted s.cfg.device.noticeMask s.link l ∧ t.link = { l with sending := some reply }

section
variable {s u t : State}

theorem KeepsLinkTime.refl (s : State) : KeepsLinkTime s s := ⟨id, id⟩

theorem KeepsLinkTime.trans (h : KeepsLinkTime s u) (k : KeepsLinkTime u t) : KeepsLinkTime s t :=
  ⟨k.link ∘ h.link, k.time ∘ h.time⟩

theorem OnlyMakes.refl (s : State) : OnlyMakes s s := ⟨rfl, rfl, .refl _ _⟩

theorem OnlyMakes.of_eq (time : t.time = s.time) (device : t.cfg.device = s.cfg.device) (link : t.link = s.link) :
    OnlyMakes s t := ⟨time, device, by rw [link]; exact .refl _ _⟩

theorem OnlyMakes.trans (h : OnlyMakes s u) (k : OnlyMakes u t) : OnlyMakes s t :=
  ⟨k.time.trans h.time, k.device.trans h.device, h.link.trans (h.device ▸ k.link)⟩

theorem Emits.onlyMakes (h : Emits s t) (time : t.time = s.time) : OnlyMakes s t := ⟨time, by rw [h.1], h.2⟩

theorem OnlyMakes.answers (h : OnlyMakes s u) (r : Request) (st : Status) (body : List Byte) :
    Answers s (u.answer r st body) := ⟨h.time, h.device, u.link, _, h.link, rfl⟩

/-- A reply with nothing done before it. -/
theorem answers_answer (r : Request) (st : Status) (body : List Byte) (s : State) : Answers s (s.answer r st body) :=
  (OnlyMakes.refl s).answers r st body

theorem TimeLaw.of_eq (h : TimeLaw s) (time : t.time = s.time) (device : t.cfg.device = s.cfg.device) : TimeLaw t := by
  rw [timeLaw_iff, time, device]
  exact timeLaw_iff.mp h

theorem LinkLaw.of_emits (h : LinkLaw s) (made : Emits s t) : LinkLaw t := by
  rw [linkLaw_iff, made.1]
  exact (linkLaw_iff.mp h).emitted made.2

theorem OnlyMakes.keeps (h : OnlyMakes s t) : KeepsLinkTime s t where
  link := fun law => by
    rw [linkLaw_iff, h.device]
    exact (linkLaw_iff.mp law).emitted h.link
  time := fun law => law.of_eq h.time h.device

/-- A reply keeps the laws where its request waits in the buffer (R169). -/
theorem Answers.keeps (h : Answers s t) (asked : s.link.buffer ≠ []) : KeepsLinkTime s t where
  link := fun law => by
    obtain ⟨l, reply, made, link⟩ := h.link
    obtain ⟨-, -, buffer, -⟩ := made.frame
    have waits : l.buffer ≠ [] := buffer ▸ asked
    rw [linkLaw_iff, h.device, link]
    exact ((linkLaw_iff.mp law).emitted made).withSending waits reply
  time := fun law => law.of_eq h.time h.device

/-! ### The clock -/

theorem TimeLaw.oscillatorSecond (h : TimeLaw s) : TimeLaw s.oscillatorSecond := by
  have next : TimeLaw (s.tenthPasses.setTime { s.time with now := s.time.now.nextSecond }) :=
    timeLaw_iff.mpr ((timeLaw_iff.mp h).nextSecond s.time.lastEdge)
  exact next.of_eq (by simp [State.oscillatorSecond]) (by simp [State.oscillatorSecond])

/-- A set applies in place of the advance; before, the pps state need not yet go with what is staged (R176, R177). -/
theorem timeLaw_supervisedSecond_of_some {p : Nat × Nat} (set : s.time.pendingSet = some p)
    (applied : TimeOk s.cfg.device.ppsUse { s.time with now := ⟨p.1, p.2, 0⟩, pendingSet := none }) :
    TimeLaw s.supervisedSecond := by
  rw [State.supervisedSecond_of_some set]
  refine TimeLaw.of_eq (s := s.setTime { s.time with now := ⟨p.1, p.2, 0⟩, pendingSet := none }) (timeLaw_iff.mpr applied)
    ?_ ?_ <;> simp

theorem TimeLaw.supervisedSecond (h : TimeLaw s) : TimeLaw s.supervisedSecond := by
  cases set : s.time.pendingSet with
  | none =>
    rw [State.supervisedSecond_of_none set]
    exact h.oscillatorSecond
  | some p => exact timeLaw_supervisedSecond_of_some set ((timeLaw_iff.mp h).applied set (Nat.zero_le 9))

/-- An edge is taken (R176): TRACKING then, if the pulse was lost, and the clock second that it brings. -/
theorem TimeLaw.ppsEdgeAt (h : TimeLaw s) (now : Nat) : TimeLaw (s.ppsEdgeAt now) := by
  obtain ⟨day, second, tenth, staged, pps⟩ := h
  simp only [State.ppsEdgeAt]
  repeat' split
  · exact ⟨day, second, tenth, staged, pps⟩
  · exact ⟨day, second, tenth, staged, pps⟩
  · exact TimeLaw.supervisedSecond ⟨day, second, tenth, staged, pps⟩
  · rename_i lost
    have used : PpsState.tracking = .unused ↔ s.cfg.device.ppsUse = false :=
      ⟨nofun, fun off => nomatch lost.symm.trans (pps.mpr off)⟩
    exact TimeLaw.oscillatorSecond ⟨day, second, tenth, fun p set => ⟨(staged p set).1, (staged p set).2.1, rfl⟩, used⟩

/-- The pulse is lost (R176): LOST, and the held clock second, with which a staged set applies. -/
theorem TimeLaw.ppsFails (h : TimeLaw s) : TimeLaw s.ppsFails := by
  by_cases tracking : s.time.pps = .tracking
  · have ok := timeLaw_iff.mp h
    have used : s.cfg.device.ppsUse = true := by
      rw [← Bool.not_eq_false, ← ok.pps, tracking]
      exact PpsState.noConfusion
    rw [State.ppsFails_tracking tracking]
    cases set : s.time.pendingSet with
    | none =>
      refine TimeLaw.supervisedSecond (timeLaw_iff.mpr ?_)
      show TimeOk s.cfg.device.ppsUse _
      rw [used]
      exact ok.lost set
    | some p =>
      refine timeLaw_supervisedSecond_of_some set ?_
      show TimeOk s.cfg.device.ppsUse _
      rw [used]
      exact (ok.applied set (Nat.zero_le 9)).lost rfl
  · rw [State.ppsFails_of_ne tracking]
    exact h

/-- Pps use is turned on or off (R176, R177). -/
theorem timeOk_ppsUseWritten {use : Bool} (h : TimeOk (!use) s.time) : TimeOk use (s.ppsUseWritten use).time := by
  cases use with
  | true =>
    have unused : s.time.pps = .unused := h.pps.mpr rfl
    have unset : s.time.pendingSet = none := by
      rw [Option.eq_none_iff_forall_not_mem]
      intro p staged
      have tracking := (h.staged p staged).2.2
      rw [unused] at tracking
      cases tracking
    exact h.lost unset
  | false =>
    simp only [State.ppsUseWritten, Bool.false_eq_true, if_false]
    split
    · rename_i unset
      exact h.unused unset
    · rename_i staged
      exact (h.applied staged h.tenth).unused rfl

/-- A tenth passes, and not from 9 (R175). -/
theorem keepsLinkTime_tenthAdvance (e : execTenthAdvance s = .next t) : KeepsLinkTime s t := by
  cases e
  split
  · rename_i early
    refine ⟨fun law => law.of_emits (by simp), fun ⟨day, second, _, staged, pps⟩ => ⟨day, second, early, staged, pps⟩⟩
  · split
    · exact OnlyMakes.keeps (.of_eq rfl rfl rfl)
    · exact .refl s

theorem keepsLinkTime_clockSecond (e : execClockSecond s = .next t) : KeepsLinkTime s t := by
  cases e
  split
  · exact .refl s
  · exact ⟨fun law => law.of_emits (by simp), TimeLaw.oscillatorSecond⟩

theorem keepsLinkTime_ppsEdge (now : Nat) (s : State) : KeepsLinkTime s (s.ppsEdgeAt now) :=
  ⟨fun law => law.of_emits (by simp), fun law => law.ppsEdgeAt now⟩

theorem keepsLinkTime_ppsFails (s : State) : KeepsLinkTime s s.ppsFails :=
  ⟨fun law => law.of_emits (by simp), TimeLaw.ppsFails⟩

/-! ### Start-up and the host line -/

/-- After start-up RESTARTED alone is queued, and ATTN goes by the mask that was loaded (R181). -/
theorem linkLaw_startUp (cause : ResetCause) (rateHigh : Bool) (s : State) : LinkLaw (s.startUp cause rateHigh) :=
  ⟨Nat.le_add_left 1 63, attnOf_iff, Nat.zero_le 2, fun sends => absurd rfl sends⟩

/-- After start-up the time is day 0, and the pps state goes by the pps use that was loaded (R175). -/
theorem timeLaw_startUp (cause : ResetCause) (rateHigh : Bool) (s : State) : TimeLaw (s.startUp cause rateHigh) := by
  refine ⟨Nat.zero_le _, Nat.zero_le _, Nat.zero_le _, nofun, ?_⟩
  show (if s.store.loaded.device.ppsUse then PpsState.lost else .unused) = .unused ↔ s.store.loaded.device.ppsUse = false
  cases s.store.loaded.device.ppsUse <;> simp

theorem keepsLinkTime_startUp (cause : ResetCause) (rateHigh : Bool) (s : State) :
    KeepsLinkTime s (s.startUp cause rateHigh) :=
  ⟨fun _ => linkLaw_startUp cause rateHigh s, fun _ => timeLaw_startUp cause rateHigh s⟩

theorem keepsLinkTime_restartReset (rateHigh : Bool) (e : execRestartReset rateHigh s = .next t) : KeepsLinkTime s t := by
  cases e
  split
  · exact keepsLinkTime_startUp _ _ s
  · exact .refl s

/-- A request frame joins a buffer that has room (R169). -/
theorem keepsLinkTime_offerRequest (r : Request) (s : State) : KeepsLinkTime s (s.offerRequest r) where
  link := fun ⟨queue, attn, buffer, answering⟩ => by
    unfold State.offerRequest
    split
    · rename_i room
      refine ⟨queue, attn, ?_, fun _ => by simp⟩
      show (s.link.buffer ++ [r]).length ≤ 2
      rw [List.length_append]
      exact room
    · exact ⟨queue, attn, buffer, answering⟩
  time := fun law => law.of_eq (by simp) (by simp)

theorem keepsLinkTime_requestsIn (rs : List Request) (s : State) : KeepsLinkTime s (s.requestsIn rs) := by
  induction rs generalizing s with
  | nil => exact .refl s
  | cons r rs ih =>
    have heard : KeepsLinkTime s s.linkHeard := (OnlyMakes.of_eq (by simp) (by simp) (by simp)).keeps
    exact (heard.trans (keepsLinkTime_offerRequest r _)).trans (ih _)

/-- The bytes of the frame in assembly are none of the laws'. -/
theorem keepsLinkTime_line (line : List Byte) (s : State) : KeepsLinkTime s (s.setLink { s.link with line := line }) :=
  ⟨fun ⟨queue, attn, buffer, answering⟩ => ⟨queue, attn, buffer, answering⟩, fun law => law.of_eq rfl rfl⟩

theorem keepsLinkTime_hostBytes (bytes : List Byte) (s : State) : KeepsLinkTime s (s.hostBytes bytes) :=
  (keepsLinkTime_line _ s).trans (keepsLinkTime_requestsIn _ _)

theorem keepsLinkTime_hostAbandon (bytes : List Byte) (s : State) : KeepsLinkTime s (s.hostBytes bytes).hostAbandon :=
  (keepsLinkTime_hostBytes bytes s).trans (keepsLinkTime_line [] _)

/-- The request whose reply has been sent leaves the buffer (R169). -/
theorem keepsLinkTime_replySentOut (s : State) : KeepsLinkTime s s.replySentOut where
  link := fun ⟨queue, attn, buffer, answering⟩ => by
    unfold State.replySentOut
    split
    · refine ⟨queue, attn, ?_, fun sends => absurd rfl sends⟩
      show s.link.buffer.tail.length ≤ 2
      rw [List.length_tail]
      omega
    · exact ⟨queue, attn, buffer, answering⟩
  time := fun law => law.of_eq (by simp) (by simp)

end

end Sys2Proof.Machine
end

section
/-! Requests keep the laws of the Message Link and of the Time Base (R169 to R174, R176, R177). -/

namespace Sys2Proof.Machine

/-! ### Requests that only answer, with transitions at most -/

section
variable (r : Request) (s : State)

theorem answers_withTransformer (n : Nat) {f : Fin 16 → State → State} (hf : ∀ i, Answers s (f i s)) :
    Answers s (s.withTransformer n r f) := by
  simp only [State.withTransformer]
  split
  · exact answers_answer r _ _ s
  · exact hf _

/-- A settings part taken changes no device setting (R2). -/
theorem onlyMakes_settingsEffects (i : Fin 16) (before after : Settings) :
    OnlyMakes s ((s.setSettings i after).settingsEffects i before after) :=
  OnlyMakes.trans (u := s.setSettings i after) (.of_eq rfl rfl rfl) (Emits.onlyMakes (by simp) (by simp))

theorem answers_handleWriteSettings : Answers s (handleWriteSettings r s) := by
  simp only [handleWriteSettings]
  split
  · exact answers_answer r _ _ s
  · refine answers_withTransformer r s _ fun i => ?_
    simp only [State.writeSettings]
    split
    · exact answers_answer r _ _ s
    · exact (onlyMakes_settingsEffects s i _ _).answers r _ _

theorem answers_handleReadSnapshot : Answers s (handleReadSnapshot r s) := by
  simp only [handleReadSnapshot]
  split
  · exact answers_answer r _ _ s
  · exact answers_withTransformer r s _ fun _ => answers_answer r _ _ s

theorem answers_handleAcknowledge : Answers s (handleAcknowledge r s) := by
  refine OnlyMakes.answers (Emits.onlyMakes (Emits.whenChanged (by simp) _ _ fun v => by simp) ?_) r _ _
  cases yesOf (u8 r.body 2) <;> simp [State.whenChanged]

theorem answers_handleSuppress : Answers s (handleSuppress r s) := by
  simp only [handleSuppress]
  split
  · exact answers_answer r _ _ s
  · exact OnlyMakes.answers (.of_eq (by simp) (by simp) (by simp)) r _ _

theorem answers_handleLoadResponse : Answers s (handleLoadResponse r s) := by
  simp only [handleLoadResponse]
  repeat' split
  · exact answers_answer r _ _ s
  · exact answers_answer r _ _ s
  · exact OnlyMakes.answers (.of_eq (by rfl) (by rfl) (by rfl)) r _ _

theorem answers_handleReadField : Answers s (handleReadField r s) := by
  simp only [handleReadField]
  split <;> exact answers_answer r _ _ s

theorem answers_handleReadMap : Answers s (handleReadMap r s) := by
  simp only [handleReadMap]
  split <;> exact answers_answer r _ _ s

theorem answers_handleWriteMap : Answers s (handleWriteMap r s) := by
  simp only [handleWriteMap]
  repeat' split
  · exact answers_answer r _ _ s
  · exact answers_answer r _ _ s
  · exact OnlyMakes.answers (.of_eq (by simp) (by rfl) (by simp)) r _ _

theorem answers_handleReadEpisode : Answers s (handleReadEpisode r s) := by
  simp only [handleReadEpisode]
  split <;> exact answers_answer r _ _ s

theorem answers_handleReadEntry : Answers s (handleReadEntry r s) := by
  simp only [handleReadEntry]
  split <;> exact answers_answer r _ _ s

theorem answers_handleCloseEpisode : Answers s (handleCloseEpisode r s) := by
  simp only [handleCloseEpisode]
  split
  · exact answers_answer r _ _ s
  · exact OnlyMakes.answers (Emits.onlyMakes (by simp) (by simp)) r _ _

theorem answers_handleCaptureNow : Answers s (handleCaptureNow r s) := by
  refine answers_withTransformer r s _ fun ch => ?_
  split
  · exact answers_answer r _ _ s
  · simp only [State.captureNow]
    repeat' split
    · exact answers_answer r _ _ s
    · exact OnlyMakes.answers (.of_eq (by rfl) (by rfl) (by rfl)) r _ _
    · exact OnlyMakes.answers (.of_eq (by simp) (by simp) (by simp)) r _ _
    · exact OnlyMakes.answers (.of_eq (by simp) (by simp) (by simp)) r _ _

theorem answers_handleExtendCapture : Answers s (handleExtendCapture r s) := by
  simp only [handleExtendCapture]
  repeat' split
  · exact answers_answer r _ _ s
  · exact OnlyMakes.answers (.of_eq (by rfl) (by rfl) (by rfl)) r _ _
  · exact answers_answer r _ _ s

theorem answers_handleListCaptures : Answers s (handleListCaptures r s) := by
  simp only [handleListCaptures]
  (repeat' split) <;> exact answers_answer r _ _ s

theorem answers_handleReadSamples : Answers s (handleReadSamples r s) := by
  simp only [handleReadSamples]
  split <;> exact answers_answer r _ _ s

theorem answers_handleRelease : Answers s (handleRelease r s) := by
  simp only [handleRelease]
  repeat' split
  · exact answers_answer r _ _ s
  · exact OnlyMakes.answers (.of_eq (by simp) (by simp) (by simp)) r _ _
  · exact answers_answer r _ _ s

theorem answers_handleReadIntake : Answers s (handleReadIntake r s) := OnlyMakes.answers (.of_eq (by rfl) (by rfl) (by rfl)) r _ _

theorem answers_handleClearFault : Answers s (handleClearFault r s) := by
  simp only [handleClearFault]
  repeat' split
  · exact answers_answer r _ _ s
  · exact OnlyMakes.answers (.of_eq (by simp) (by simp) (by simp)) r _ _
  · exact answers_answer r _ _ s

theorem answers_handleSave : Answers s (handleSave r s) := by
  simp only [handleSave]
  split
  · exact answers_answer r _ _ s
  · exact OnlyMakes.answers (.of_eq (by rfl) (by rfl) (by rfl)) r _ _

end

/-! ### Requests that do more -/

section
variable {s t : State}

/-- A reply's sending keeps the laws while its request waits. -/
theorem keepsLinkTime_answer (asked : s.link.buffer ≠ []) (r : Request) (st : Status) (body : List Byte) :
    KeepsLinkTime s (s.answer r st body) := (answers_answer r st body s).keeps asked

section
variable (asked : s.link.buffer ≠ []) (r : Request)
include asked

/-- Set Clock sets or stages a time within range (R177). -/
theorem keepsLinkTime_handleSetClock : KeepsLinkTime s (handleSetClock r s) := by
  have dayOk : u16 r.body 0 ≤ 65535 := Nat.le_of_lt_succ (u16_lt r.body 0)
  have secondOk : min 86399 (u24 r.body 2) ≤ 86399 := Nat.min_le_left _ _
  simp only [handleSetClock]
  split
  · rename_i tracking
    have staged : KeepsLinkTime s
        (s.setTime { s.time with pendingSet := some (u16 r.body 0, min 86399 (u24 r.body 2)) }) := by
      refine ⟨fun law => law.of_emits (by simp), fun ⟨day, second, tenth, _, pps⟩ => ⟨day, second, tenth, ?_, pps⟩⟩
      rintro _ ⟨⟩
      exact ⟨dayOk, secondOk, tracking⟩
    exact staged.trans (keepsLinkTime_answer (by exact asked) r _ _)
  · have set (now : Stamp) (day : now.day ≤ 65535) (second : now.second ≤ 86399) (tenth : now.tenth ≤ 9) :
        KeepsLinkTime s ((s.setTime { s.time with now := now }).emitDevice .clockSet none now) :=
      ⟨fun law => law.of_emits (by simp), fun ⟨_, _, _, staged, pps⟩ => ⟨day, second, tenth, staged, pps⟩⟩
    exact (set _ dayOk secondOk (Nat.min_le_left _ _)).trans (keepsLinkTime_answer (by simpa using asked) r _ _)

/-- Fetch Summary empties the summary set, and ATTN follows (R173). -/
theorem keepsLinkTime_handleFetchSummary : KeepsLinkTime s (handleFetchSummary r s) where
  link := fun ⟨queue, _, buffer, _⟩ => ⟨queue, attnOf_iff, buffer, fun _ => asked⟩
  time := fun law => law.of_eq rfl rfl

/-- Change Notice Mask: ATTN follows the new mask (R173). -/
theorem keepsLinkTime_handleChangeMask : KeepsLinkTime s (handleChangeMask r s) := by
  simp only [handleChangeMask]
  split
  · exact keepsLinkTime_answer asked r _ _
  · exact ⟨fun ⟨queue, _, buffer, _⟩ => ⟨queue, attnOf_iff, buffer, fun _ => asked⟩,
      fun ⟨day, second, tenth, staged, pps⟩ => ⟨day, second, tenth, staged, pps⟩⟩

/-- Fetch Transitions takes records out of the queue, or sends the kept reply (R174). -/
theorem keepsLinkTime_handleFetchTransitions : KeepsLinkTime s (handleFetchTransitions r s) := by
  simp only [handleFetchTransitions]
  split
  · exact ⟨fun ⟨queue, attn, buffer, _⟩ => ⟨queue, attn, buffer, fun _ => asked⟩, fun law => law.of_eq rfl rfl⟩
  · refine ⟨fun ⟨queue, attn, buffer, _⟩ => ⟨?_, attn, buffer, fun _ => asked⟩, fun law => law.of_eq rfl rfl⟩
    show (s.link.transitions.drop 8).length ≤ 64
    rw [List.length_drop]
    omega

end

/-- Of the effects of written device settings only pps use's touches the time (R179). -/
theorem State.deviceEffects_time (a b : DeviceSettings) (now : Nat) (s : State) :
    ∃ u : State, u.time = s.time ∧
      s.deviceEffects a b now = u.whenChanged (a.ppsUse != b.ppsUse) (State.ppsUseWritten b.ppsUse) := by
  refine ⟨_, ?_, rfl⟩
  simp only [State.whenChanged]
  (repeat' split) <;> simp

/-- A written pps use brings the pps state with it (R176, R179). -/
theorem TimeLaw.deviceEffects (h : TimeLaw s) (d : DeviceSettings) (now : Nat) :
    TimeLaw ((s.setDevice d).deviceEffects s.cfg.device d now) := by
  have stored : ((s.setDevice d).deviceEffects s.cfg.device d now).cfg.device = d := by simp [State.setDevice]
  obtain ⟨u, time, effects⟩ := State.deviceEffects_time s.cfg.device d now (s.setDevice d)
  have ok : TimeOk s.cfg.device.ppsUse u.time := time ▸ timeLaw_iff.mp h
  rw [timeLaw_iff, stored, effects]
  by_cases same : s.cfg.device.ppsUse = d.ppsUse
  · rw [State.whenChanged, same, bne_self_eq_false]
    exact same ▸ ok
  · rw [State.whenChanged, bne_iff_ne.mpr same]
    exact timeOk_ppsUseWritten (Bool.eq_not.mpr same ▸ ok)

/-- The effects of written device settings that leave the notice mask alone (R179). -/
theorem LinkLaw.deviceEffects (h : LinkLaw s) {d : DeviceSettings} (mask : d.noticeMask = s.cfg.device.noticeMask)
    (now : Nat) : LinkLaw ((s.setDevice d).deviceEffects s.cfg.device d now) := by
  have stored : LinkLaw (s.setDevice d) := by
    rw [linkLaw_iff]
    show LinkOk d.noticeMask s.link
    exact mask ▸ linkLaw_iff.mp h
  exact stored.of_emits (by simp)

theorem keepsLinkTime_handleWriteDevice (asked : s.link.buffer ≠ []) (now : Nat) (r : Request) :
    KeepsLinkTime s (handleWriteDevice now r s) := by
  simp only [handleWriteDevice]
  split
  · exact keepsLinkTime_answer asked r _ _
  · have taken (d : DeviceSettings) (mask : d.noticeMask = s.cfg.device.noticeMask) :
        KeepsLinkTime s ((s.setDevice d).deviceEffects s.cfg.device d now) :=
      ⟨fun law => law.deviceEffects mask now, fun law => law.deviceEffects d now⟩
    have waits (d : DeviceSettings) : ((s.setDevice d).deviceEffects s.cfg.device d now).link.buffer ≠ [] := by
      obtain ⟨-, made⟩ := Emits.deviceEffects (Emits.refl (s.setDevice d)) s.cfg.device d now
      obtain ⟨-, -, buffer, -⟩ := made.frame
      rw [buffer]
      exact asked
    exact (taken _ (by rfl)).trans (keepsLinkTime_answer (waits _) r _ _)

/-! ### Request rows -/

/-- The arming of a restart is none of the laws'. -/
theorem keepsLinkTime_setRestart (v : RestartState) (s : State) :
    KeepsLinkTime s (s.setLink { s.link with restart := v }) :=
  ⟨fun ⟨queue, attn, buffer, answering⟩ => ⟨queue, attn, buffer, answering⟩, fun law => law.of_eq rfl rfl⟩

theorem buffer_of_takeable {r : Request} (h : s.takeable = some r) : s.link.buffer ≠ [] := by
  obtain ⟨-, -, head⟩ := takeable_eq_some.mp h
  intro empty
  rw [empty] at head
  cases head

/-- A request taken is answered, and a restart armed or disarmed (R169, R182). -/
theorem keepsLinkTime_setRestart_answer {r : Request} (taken : s.takeable = some r) (v : RestartState) (st : Status)
    (body : List Byte) : KeepsLinkTime s (State.answer r st body (s.setLink { s.link with restart := v })) := by
  have asked := buffer_of_takeable taken
  exact (keepsLinkTime_setRestart v s).trans (keepsLinkTime_answer (by exact asked) r st body)

/-- A request row keeps the laws where its handler keeps them while the request waits. -/
theorem keepsLinkTime_serveRequest (k : Byte) {f : Request → State → State} (s : State)
    (hf : ∀ r v, v.link.buffer ≠ [] → KeepsLinkTime v (f r v)) : KeepsLinkTime s (s.serveRequest k f) := by
  rcases serveRequest_cases k f s with same | ⟨r, takes, bad | ⟨-, served⟩⟩
  · rw [same]
    exact .refl s
  · rw [bad, ← disarm_answer takes.2.1]
    exact keepsLinkTime_setRestart_answer takes.takeable _ _ _
  · have asked := buffer_of_takeable takes.takeable
    rw [served]
    exact (keepsLinkTime_setRestart _ s).trans (hf r s.disarm (by exact asked))

theorem keepsLinkTime_served (k : Byte) {f : Request → State → State} (s : State) (hf : ∀ r v, Answers v (f r v)) :
    KeepsLinkTime s (s.serveRequest k f) := keepsLinkTime_serveRequest k s fun r v asked => (hf r v).keeps asked

theorem keepsLinkTime_serveUnknown (s : State) : KeepsLinkTime s s.serveUnknown := by
  simp only [State.serveUnknown]
  repeat' split
  · exact .refl s
  · exact .refl s
  · rename_i taken _
    exact keepsLinkTime_setRestart_answer taken _ _ _

theorem keepsLinkTime_serveRestart (s : State) : KeepsLinkTime s s.serveRestart := by
  simp only [State.serveRestart]
  split
  · exact .refl s
  · rename_i taken
    repeat' split
    · exact keepsLinkTime_setRestart_answer taken _ _ _
    · exact keepsLinkTime_setRestart_answer taken _ _ _
    · exact keepsLinkTime_setRestart_answer taken _ _ _
    · exact .refl s

theorem onlyMakes_saveEnds (agrees : Bool) (s : State) : OnlyMakes s (s.saveEnds agrees) := by
  simp only [State.saveEnds]
  repeat' split
  · exact .refl s
  · exact Emits.onlyMakes (.emitDevice (.of_eq rfl rfl) _ _ _) rfl
  · exact Emits.onlyMakes (.emitDevice (.of_eq rfl rfl) _ _ _) rfl

end

end Sys2Proof.Machine
end

section
/-! Every step keeps the laws of the Message Link (R169, R171, R172) and of the Time Base (R175 to R177). -/

namespace Sys2Proof.Machine

/-! ### Events that wait -/

section
variable {s t : State}

theorem onlyMakes_measuredSecond (i : Fin 16) (e : execMeasuredSecond i s = .next t) : OnlyMakes s t := by
  simp only [execMeasuredSecond] at e
  split at e <;> cases e
  · exact .refl s
  · exact Emits.onlyMakes (by simp) (by simp)

theorem onlyMakes_standInSecond (i : Fin 16) (e : execStandInSecond i s = .next t) : OnlyMakes s t := by
  cases e
  split
  · exact Emits.onlyMakes (by simp) (by simp)
  · exact .refl s

theorem onlyMakes_fieldNone (e : execFieldNone s = .next t) : OnlyMakes s t := by
  cases e
  split
  · exact Emits.onlyMakes (by simp) (by simp)
  · exact .refl s

theorem onlyMakes_episodeHandoff (i : Fin 16) (e : execEpisodeHandoff i s = .next t) : OnlyMakes s t := by
  simp only [execEpisodeHandoff] at e
  split at e <;> cases e
  · exact .refl s
  · exact Emits.onlyMakes (by simp) (by simp)

theorem onlyMakes_energised (i : Fin 16) (e : execEnergised i s = .next t) : OnlyMakes s t := by
  simp only [execEnergised] at e
  split at e <;> cases e
  · exact .refl s
  · split
    · exact Emits.onlyMakes (by simp) (by simp)
    · exact .refl s

theorem onlyMakes_deenergised (i : Fin 16) (e : execDeenergised i s = .next t) : OnlyMakes s t := by
  simp only [execDeenergised] at e
  split at e <;> cases e
  · exact .refl s
  · split
    · exact .refl s
    · exact Emits.onlyMakes (by simp) (by simp)

theorem onlyMakes_panelPress (e : execPanelPress s = .next t) : OnlyMakes s t := by
  simp only [execPanelPress] at e
  split at e <;> cases e
  · exact Emits.onlyMakes (by simp) (by simp)
  · exact .refl s

theorem onlyMakes_panelRelease (e : execPanelRelease s = .next t) : OnlyMakes s t := by
  simp only [execPanelRelease] at e
  split at e <;> cases e
  · exact Emits.onlyMakes (by simp) (by simp)
  · exact .refl s

theorem onlyMakes_panelTestStart (e : execPanelTestStart s = .next t) : OnlyMakes s t := by
  cases e
  split
  · exact Emits.onlyMakes (by simp) (by simp)
  · exact .refl s

theorem onlyMakes_panelTestTimeout (e : execPanelTestTimeout s = .next t) : OnlyMakes s t := by
  cases e
  split
  · exact Emits.onlyMakes (by simp) (by simp)
  · exact .refl s

theorem onlyMakes_contactReport (e : execContactReport s = .next t) : OnlyMakes s t := by
  simp only [execContactReport] at e
  split at e <;> cases e
  · exact .refl s
  · exact Emits.onlyMakes (by simp) (by simp)

theorem onlyMakes_levelTrigger (ch : Fin 16) (e : execLevelTrigger ch s = .next t) : OnlyMakes s t := by
  simp only [execLevelTrigger] at e
  split at e <;> cases e
  · exact .refl s
  · exact Emits.onlyMakes (by simp) (by simp)

theorem onlyMakes_captureDisableReport (ch : Fin 16) (e : execCaptureDisableReport ch s = .next t) : OnlyMakes s t := by
  simp only [execCaptureDisableReport] at e
  split at e <;> cases e
  · exact .refl s
  · exact Emits.onlyMakes (by simp) (by simp)

theorem onlyMakes_captureMissed (ch : Fin 16) (e : execCaptureMissed ch s = .next t) : OnlyMakes s t := by
  simp only [execCaptureMissed] at e
  split at e <;> cases e
  · exact .refl s
  · exact Emits.onlyMakes (by simp) (by simp)

/-! ### Every command -/

/-- What keeps the laws by making transitions at most. -/
theorem Emits.keeps (h : Emits s t) (time : t.time = s.time) : KeepsLinkTime s t := (h.onlyMakes time).keeps

theorem exec_keepsLinkTime {c : Instr} (e : exec c s = .next t) : KeepsLinkTime s t := by
  cases c with
  | powerOnReset rateHigh => cases e; exact keepsLinkTime_startUp _ _ s
  | pinReset rateHigh => cases e; exact keepsLinkTime_startUp _ _ s
  | restartReset rateHigh => exact keepsLinkTime_restartReset rateHigh e
  | sampleFrame bytes => cases e; exact Emits.keeps (by simp) (by simp)
  | sampleLineIdle bytes => cases e; exact Emits.keeps (by simp) (by simp)
  | takeCurrentFrame => cases e; exact Emits.keeps (by simp) (by simp)
  | takeFieldFrame => cases e; exact Emits.keeps (by simp) (by simp)
  | measuredSecond i => exact (onlyMakes_measuredSecond i e).keeps
  | clockSecond => exact keepsLinkTime_clockSecond e
  | standInSecond i => exact (onlyMakes_standInSecond i e).keeps
  | fieldNone => exact (onlyMakes_fieldNone e).keeps
  | episodeQuietClose => cases e; exact Emits.keeps (by simp) (by simp)
  | episodeHandoff i => exact (onlyMakes_episodeHandoff i e).keeps
  | captureMissed ch => exact (onlyMakes_captureMissed ch e).keeps
  | linkSilent => cases e; exact Emits.keeps (by simp) (by simp)
  | silenceTimerExpiry c => cases e; exact Emits.keeps (by simp) (by simp)
  | ppsEdge now => cases e; exact keepsLinkTime_ppsEdge now s
  | ppsLost => cases e; exact keepsLinkTime_ppsFails s
  | inputLevelChange pin level now => cases e; exact OnlyMakes.keeps (.of_eq rfl rfl rfl)
  | debounceComplete pin => cases e; exact Emits.keeps (by simp) (by simp)
  | energised i => exact (onlyMakes_energised i e).keeps
  | deenergised i => exact (onlyMakes_deenergised i e).keeps
  | panelPress => exact (onlyMakes_panelPress e).keeps
  | panelRelease => exact (onlyMakes_panelRelease e).keeps
  | panelTestStart => exact (onlyMakes_panelTestStart e).keeps
  | panelTestTimeout => exact (onlyMakes_panelTestTimeout e).keeps
  | contactReport => exact (onlyMakes_contactReport e).keeps
  | levelTrigger ch => exact (onlyMakes_levelTrigger ch e).keeps
  | captureDisableReport ch => exact (onlyMakes_captureDisableReport ch e).keeps
  | requestFrame bytes => cases e; exact keepsLinkTime_hostBytes bytes s
  | hostFrameGap bytes => cases e; exact keepsLinkTime_hostAbandon bytes s
  | unknownKindRequest => cases e; exact keepsLinkTime_serveUnknown s
  | identify => cases e; exact keepsLinkTime_served _ s fun r v => answers_answer r _ _ v
  | readClock => cases e; exact keepsLinkTime_served _ s fun r v => answers_answer r _ _ v
  | setClock => cases e; exact keepsLinkTime_serveRequest _ s fun r _ asked => keepsLinkTime_handleSetClock asked r
  | readDeviceSettings => cases e; exact keepsLinkTime_served _ s fun r v => answers_answer r _ _ v
  | writeDeviceSettings now =>
    cases e; exact keepsLinkTime_serveRequest _ s fun r _ asked => keepsLinkTime_handleWriteDevice asked now r
  | readTransformerSettings =>
    cases e; exact keepsLinkTime_served _ s fun r v => answers_withTransformer r v _ fun _ => answers_answer r _ _ v
  | writeTransformerSettings => cases e; exact keepsLinkTime_served _ s answers_handleWriteSettings
  | readLive =>
    cases e; exact keepsLinkTime_served _ s fun r v => answers_withTransformer r v _ fun _ => answers_answer r _ _ v
  | snapshot => cases e; exact keepsLinkTime_served _ s fun r _ => OnlyMakes.answers (.of_eq (by rfl) (by rfl) (by rfl)) r _ _
  | readSnapshot => cases e; exact keepsLinkTime_served _ s answers_handleReadSnapshot
  | acknowledge => cases e; exact keepsLinkTime_served _ s answers_handleAcknowledge
  | suppress => cases e; exact keepsLinkTime_served _ s answers_handleSuppress
  | loadGroundResponse => cases e; exact keepsLinkTime_served _ s answers_handleLoadResponse
  | readGroundResponse => cases e; exact keepsLinkTime_served _ s fun r v => answers_answer r _ _ v
  | readField => cases e; exact keepsLinkTime_served _ s answers_handleReadField
  | readContactMap => cases e; exact keepsLinkTime_served _ s answers_handleReadMap
  | writeContactMap => cases e; exact keepsLinkTime_served _ s answers_handleWriteMap
  | fetchSummary => cases e; exact keepsLinkTime_serveRequest _ s fun r _ asked => keepsLinkTime_handleFetchSummary asked r
  | changeNoticeMask =>
    cases e; exact keepsLinkTime_serveRequest _ s fun r _ asked => keepsLinkTime_handleChangeMask asked r
  | fetchTransitions =>
    cases e; exact keepsLinkTime_serveRequest _ s fun r _ asked => keepsLinkTime_handleFetchTransitions asked r
  | readEpisode => cases e; exact keepsLinkTime_served _ s answers_handleReadEpisode
  | readEpisodeEntry => cases e; exact keepsLinkTime_served _ s answers_handleReadEntry
  | closeEpisode => cases e; exact keepsLinkTime_served _ s answers_handleCloseEpisode
  | captureNow => cases e; exact keepsLinkTime_served _ s answers_handleCaptureNow
  | extendCapture => cases e; exact keepsLinkTime_served _ s answers_handleExtendCapture
  | listCaptures => cases e; exact keepsLinkTime_served _ s answers_handleListCaptures
  | readCaptureSamples => cases e; exact keepsLinkTime_served _ s answers_handleReadSamples
  | releaseCapture => cases e; exact keepsLinkTime_served _ s answers_handleRelease
  | readIntakeStatus => cases e; exact keepsLinkTime_served _ s answers_handleReadIntake
  | clearConverterFault => cases e; exact keepsLinkTime_served _ s answers_handleClearFault
  | saveSettings => cases e; exact keepsLinkTime_served _ s answers_handleSave
  | saveCompletion agrees => cases e; exact (onlyMakes_saveEnds agrees s).keeps
  | restart => cases e; exact keepsLinkTime_serveRestart s
  | tenthAdvance => exact keepsLinkTime_tenthAdvance e
  | replySent => cases e; exact keepsLinkTime_replySentOut s
  | sampleDamagedByte bytes => cases e; exact Emits.keeps (by simp) (by simp)
  | sampleFrameDiscard bytes => cases e; exact Emits.keeps (by simp) (by simp)
  | hostDamagedByte bytes => cases e; exact keepsLinkTime_hostAbandon bytes s
  | hostFrameDiscard bytes => cases e; exact keepsLinkTime_hostBytes bytes s

/-- A step is a command on the state without it, or idles. -/
theorem step_keepsLinkTime (e : step s = .next t) : KeepsLinkTime s t := by
  simp only [step] at e
  split at e
  · cases e
    exact .refl s
  · rename_i rest _
    have taken : OnlyMakes s { s with pending := rest } := .of_eq rfl rfl rfl
    exact taken.keeps.trans (exec_keepsLinkTime e)

end

/-- Settles O6: every command keeps the queue, ATTN and the buffer. -/
theorem stepKeepsLinkLaw : Obligations.StepKeepsLinkLaw := fun _ _ h e => (step_keepsLinkTime e).link h

/-- Settles O14: every command keeps the time in range, and the pps state with pps use. -/
theorem stepKeepsTimeLaw : Obligations.StepKeepsTimeLaw := fun _ _ h e => (step_keepsLinkTime e).time h

end Sys2Proof.Machine
end

section
/-! Start-up (R181, R182), and the reset state. -/

namespace Sys2Proof.Machine

theorem attnOf_eq_decide (summary mask : CategorySet) : attnOf summary mask = decide (summary &&& mask ≠ 0) := by
  rw [Bool.eq_iff_iff, attnOf_iff, decide_eq_true_iff]

/-- Start-up leaves what R181 says: every field is read off its definition. -/
theorem startedUp_startUp (why : ResetCause) (rateHigh : Bool) (s : State) :
    StartedUp why rateHigh s (s.startUp why rateHigh) where
  stored := fun valid idle => by
    have loads : s.store.validAtReset = true := by simp [Store.validAtReset, valid, idle]
    simp [State.startUp, Store.loaded, loads]
  defaults := fun lost => by
    have fails : s.store.validAtReset = false := by
      rcases lost with invalid | saving
      · simp [Store.validAtReset, invalid]
      · simp [Store.validAtReset, Option.isNone_eq_false_iff.mpr (Option.isSome_iff_ne_none.mpr saving)]
    simp [State.startUp, Store.loaded, fails]
  image := ⟨rfl, rfl, by simp [State.startUp, Store.validAtReset]⟩
  cause := rfl
  inputs := fun p => by cases p <;> simp [State.startUp, Inputs.get, Input.sampled]
  service := fun i => by rw [State.startUp_live]; rfl
  live := fun i => by rw [State.startUp_live]; rfl
  snapshots := rfl
  intake := ⟨rfl, rfl, rfl⟩
  converters := fun c => by simp [State.startUp, initialIntake, initialConverter]
  held := ⟨fun ch => get_ofFn _ ch, rfl, rfl⟩
  channels := fun ch => by simp [State.startUp, initialChannel, emptyBlock, emptySecond, emptyLearning]
  field := rfl
  tracker := rfl
  capture := rfl
  contacts := fun k => get_ofFn _ k
  panel := ⟨rfl, rfl, rfl, rfl⟩
  linkTimer := rfl
  link := by
    rw [← attnOf_eq_decide]
    rfl
  time := rfl
  handOffs := rfl
  queue := rfl

/-- A Restart's reset begins once it is due and its reply has been sent (R182). -/
theorem State.restartReady_iff {s : State} :
    s.restartReady = true ↔ s.link.restart = .due ∧ s.link.sending = none := by
  simp [State.restartReady]

/-- Settles O4: the defaults stand in their definitions, and each reset command runs start-up (`startedUp_startUp`). -/
theorem resetsRunStartUp : Obligations.ResetsRunStartUp := by
  refine ⟨⟨fun i => ?_, rfl, rfl, fun k => ?_⟩, fun rateHigh s => ⟨⟨_, rfl, startedUp_startUp _ _ s⟩,
    ⟨_, rfl, startedUp_startUp _ _ s⟩, fun due sent => ⟨_, ?_, startedUp_startUp _ _ s⟩, fun idle => ?_⟩⟩
  · simp only [defaultSet, Fin.getElem_fin, Vector.getElem_replicate]
    rfl
  · simp only [defaultSet, Fin.getElem_fin, Vector.getElem_replicate]
    rfl
  · exact congrArg Host.Outcome.next (if_pos (State.restartReady_iff.mpr ⟨due, sent⟩))
  · refine congrArg Host.Outcome.next (if_neg fun ready => ?_)
    obtain ⟨due, sent⟩ := State.restartReady_iff.mp ready
    exact idle.elim (absurd due) (absurd sent)

/-! ### The reset state -/

/-- A power-on leaves the reset state as it is (assumption 4): both sides compute to the same state. -/
theorem startUp_reset : State.reset.startUp .powerOn false = State.reset := rfl

theorem settingsLaw_reset : SettingsLaw State.reset := ⟨defaultSet_ok, nofun, nofun⟩

theorem thermalLaw_startUp {s : State} (h : SettingsLaw s) (cause : ResetCause) (rateHigh : Bool) :
    ThermalLaw (s.startUp cause rateHigh) :=
  thermalLaw_iff.mpr ⟨h.startUp cause rateHigh, fun i => by
    rw [State.startUp_live]
    exact ⟨Nat.zero_le _, Nat.zero_le _⟩⟩

theorem transformerLaw_startUp {s : State} (h : SettingsLaw s) (cause : ResetCause) (rateHigh : Bool) :
    TransformerLaw (s.startUp cause rateHigh) := by
  have settings := h.startUp cause rateHigh
  refine ⟨settings, fun i => ?_⟩
  have started : (s.startUp cause rateHigh).channels[i] = initialChannel := by simp [State.startUp]
  rw [State.startUp_live, started]
  exact transformerOk_initial (settings.inUse.transformers i) _

/-- Settles O5: the reset state is what a start-up leaves, and every law holds after a start-up. -/
theorem lawsHoldAtReset : Obligations.LawsHoldAtReset := by
  refine ⟨congrArg Host.Outcome.next startUp_reset, ?_⟩
  rw [← startUp_reset]
  have intake := intakeLaw_startUp .powerOn false State.reset
  exact ⟨linkLaw_startUp _ _ _, captureLaw_startUp _ _ _, transformerLaw_startUp settingsLaw_reset _ _,
    thermalLaw_startUp settingsLaw_reset _ _, intake, currentsLaw_iff.mpr ⟨intake, currentsBounded_startUp _ _ _⟩,
    .startUp _ _ _, contactLaw_startUp _ _ _, timeLaw_startUp _ _ _⟩

end Sys2Proof.Machine
end

section
/-! Malformed requests and the ends of replies (R169, R170), LOCKED and BUSY (R170), Save Settings and Restart (R180, R182). -/

namespace Sys2Proof.Machine

/-! ### Restart -/

section
variable {r : Request} {s : State} (h : s.Takes 0x20 r)
include h

/-- A Restart with a body disarms (R170, R182; assumption 27). -/
theorem exec_restart_badLength (long : r.body.length ≠ 0) : exec .restart s = .next (s.replied r .badLength []) := by
  have taken := h.takeable
  obtain ⟨-, due, -, kind⟩ := h
  have other : lengthOk r = false := by simpa [lengthOk, kind, bodyLength] using long
  show Host.Outcome.next s.serveRestart = _
  simp only [State.serveRestart, taken, kind, other, if_true, Bool.false_eq_true, if_false, disarm_answer due]

section
variable (empty : r.body = [])
include empty

/-- A Restart while a save is in progress disarms (R170, R182). -/
theorem exec_restart_busy (saving : s.store.save ≠ none) : exec .restart s = .next (s.replied r .busy []) := by
  have taken := h.takeable
  obtain ⟨-, due, -, kind⟩ := h
  have fits : lengthOk r = true := by simp [lengthOk, kind, bodyLength, empty]
  have busy : s.saving = true := Option.isSome_iff_ne_none.mpr saving
  show Host.Outcome.next s.serveRestart = _
  simp only [State.serveRestart, taken, kind, fits, busy, if_true, disarm_answer due]

/-- A Restart arms, and a second one in a row makes the reset due (R182). -/
theorem exec_restart_arms (idle : s.store.save = none) : exec .restart s = .next { s with link := { s.link with
    restart := if s.link.restart = .disarmed then .armed else .due
    sending := some (replyFrame r .ok []) } } := by
  have taken := h.takeable
  obtain ⟨-, -, -, kind⟩ := h
  have fits : lengthOk r = true := by simp [lengthOk, kind, bodyLength, empty]
  have free : s.saving = false := by simp [State.saving, idle]
  have arms : rearmed s.link.restart = if s.link.restart = .disarmed then .armed else .due := by
    cases s.link.restart <;> rfl
  show Host.Outcome.next s.serveRestart = _
  simp only [State.serveRestart, taken, kind, fits, free, if_true, Bool.false_eq_true, if_false, arms]
  rfl

end
end

/-! ### Replies and malformed requests -/

section
variable {c : Instr} {k : Byte} {n : Nat} {f : Request → State → State} {r : Request} {s : State}

/-- A body of another length than its kind's is answered with the status alone (R170). -/
theorem exec_badLength (row : exec c s = .next (s.serveRequest k f)) (h : s.Takes k r)
    (hk : bodyLength k.toNat = some n) (hl : r.body.length ≠ n) : exec c s = .next (s.replied r .badLength []) := by
  have other : lengthOk r = false := by
    obtain ⟨-, -, -, kind⟩ := h
    simp [lengthOk, kind, hk, hl]
  rw [row, serveRequest_badLength h other]

theorem exec_unknownKindRequest (h : s.Takes r.kind r) (unknown : r.kind.toNat = 0 ∨ 0x20 < r.kind.toNat) :
    exec .unknownKindRequest s = .next (s.replied r .unknownKind []) := by
  have kind : knownKind r.kind = false := by
    simp only [knownKind, Bool.and_eq_false_iff, decide_eq_false_iff_not]
    omega
  have taken := h.takeable
  obtain ⟨-, due, -⟩ := h
  show Host.Outcome.next s.serveUnknown = _
  simp only [State.serveUnknown, taken, kind, Bool.false_eq_true, if_false, disarm_answer due]

/-- The end of a reply frees the place of its request (R169). -/
theorem exec_replySent (s : State) : exec .replySent s = .next
    (if s.link.sending = none then s
    else { s with link := { s.link with sending := none, buffer := s.link.buffer.tail } }) := by
  refine congrArg Host.Outcome.next ?_
  unfold State.replySentOut
  cases s.link.sending <;> rfl

end

/-- Settles O49: the frame and the end of a reply, an unknown kind, and of each kind a body of another length
(`exec_badLength`, `exec_restart_badLength`). -/
theorem repliesAndMalformedRequests : Obligations.RepliesAndMalformedRequests := by
  refine ⟨fun r st body => rfl, fun s => ⟨fun idle => ?_, fun sends => ?_⟩, fun r s h unknown => ?_, fun now => ?_⟩
  · rw [exec_replySent, if_pos idle]
  · rw [exec_replySent, if_neg sends]
  · exact exec_unknownKindRequest h unknown
  · simp only [List.forall_mem_cons, List.not_mem_nil, false_imp_iff, implies_true, and_true]
    iterate 30 refine ⟨fun r s h hl => exec_badLength rfl h (by rfl) hl, ?_⟩
    exact fun r s h hl => exec_restart_badLength h hl

/-! ### LOCKED and BUSY -/

theorem State.settingsBar_locked {s : State} (locked : s.inputs.lock.debounced = true) : s.settingsBar = some .locked :=
  if_pos locked

theorem State.settingsBar_busy {s : State} (unlocked : s.inputs.lock.debounced = false) (saving : s.store.save ≠ none) :
    s.settingsBar = some .busy := by
  have open_ : ¬ s.lockAsserted = true := by simp [State.lockAsserted, unlocked]
  rw [State.settingsBar, if_neg open_]
  exact if_pos (Option.isSome_iff_ne_none.mpr saving)

section
variable {r : Request} {s : State} {st : Status} (bar : s.settingsBar = some st)
include bar

/-! The record in force goes with the status where the kind's rule says so (R2, R166, R179). -/

theorem handleWriteSettings_barred : handleWriteSettings r s = s.answer r st
    (if h : u8 r.body 0 < 16 then (s.cfg.transformers[u8 r.body 0]).bytes else []) := by
  have record : s.settingsRecord (u8 r.body 0) =
      if h : u8 r.body 0 < 16 then (s.cfg.transformers[u8 r.body 0]).bytes else [] := by
    by_cases named : u8 r.body 0 < 16 <;> simp [State.settingsRecord, transformerOf, named]
  simp only [handleWriteSettings, bar, record]

theorem handleWriteMap_barred : handleWriteMap r s = s.answer r st
    (if h : 1 ≤ u8 r.body 0 ∧ u8 r.body 0 ≤ 4 then (s.cfg.maps[u8 r.body 0 - 1]).bytes else []) := by
  have record : s.mapRecord (u8 r.body 0) =
      if h : 1 ≤ u8 r.body 0 ∧ u8 r.body 0 ≤ 4 then (s.cfg.maps[u8 r.body 0 - 1]).bytes else [] := by
    by_cases named : 1 ≤ u8 r.body 0 ∧ u8 r.body 0 ≤ 4 <;> simp [State.mapRecord, contactOf, named]
  simp only [handleWriteMap, bar, record]

theorem handleLoadResponse_barred : handleLoadResponse r s = s.answer r st [] := by
  simp only [handleLoadResponse, bar]

theorem handleWriteDevice_barred (now : Nat) : handleWriteDevice now r s = s.answer r st s.cfg.device.bytes := by
  simp only [handleWriteDevice, bar]

theorem handleChangeMask_barred : handleChangeMask r s = s.answer r st [] := by
  simp only [handleChangeMask, bar]

theorem handleSave_barred : handleSave r s = s.answer r st [] := by
  simp only [handleSave, bar]

end

theorem exec_suppress_locked {r : Request} {s : State} (h : s.Takes 0x0C r) (hl : r.body.length = 3)
    (locked : s.inputs.lock.debounced = true) : exec .suppress s = .next (s.replied r .locked []) :=
  exec_replies (f := handleSuppress) rfl h (by rfl) hl (if_pos locked)

/-- Settles O50: LOCKED comes before BUSY (`State.settingsBar`), and each of the six kinds answers so before all else. -/
theorem lockedAndBusy : Obligations.LockedAndBusy := by
  intro now r s first kinds
  have barred {st : Status} (bar : s.settingsBar = some st) :
      ∀ k ∈ kinds, s.Takes k.2.1 r → r.body.length = k.2.2.1 → exec k.1 s = .next (s.replied r st k.2.2.2) := by
    have bar : s.unarmed.settingsBar = some st := bar
    simp only [kinds, List.forall_mem_cons, List.not_mem_nil, false_imp_iff, implies_true, and_true]
    refine ⟨fun h hl => ?_, fun h _ => ?_, fun h hl => ?_, fun h hl => ?_, fun h hl => ?_, fun h hl => ?_⟩
    · exact exec_replies (f := handleWriteSettings) rfl h (by rfl) hl (handleWriteSettings_barred bar)
    · rw [exec_loadGroundResponse h, handleLoadResponse_barred bar]
      rfl
    · exact exec_replies (f := handleWriteMap) rfl h (by rfl) hl (handleWriteMap_barred bar)
    · exact exec_replies (f := handleWriteDevice now) rfl h (by rfl) hl (handleWriteDevice_barred bar now)
    · exact exec_replies (f := handleChangeMask) rfl h (by rfl) hl (handleChangeMask_barred bar)
    · exact exec_replies (f := handleSave) rfl h (by rfl) hl (handleSave_barred bar)
  refine ⟨fun locked => ⟨barred (State.settingsBar_locked locked), fun h hl => exec_suppress_locked h hl locked⟩,
    fun saving => ⟨fun unlocked => barred (State.settingsBar_busy unlocked saving), fun h empty => ?_⟩⟩
  exact exec_restart_busy h empty saving

/-! ### Save Settings -/

/-- A save that is begun copies the settings as they stand (R180). -/
theorem handleSave_of_free {r : Request} {s : State} (bar : s.settingsBar = none) :
    handleSave r s = State.answer r .ok [] { s with store := { s.store with save := some s.cfg } } := by
  simp only [handleSave, bar]

/-- Settles O60: the save's copy, its two completions, and the arming. -/
theorem saveAndRestart : Obligations.SaveAndRestart := by
  refine fun r s => ⟨fun h empty unlocked idle => ?_, fun copy saving => ⟨?_, ?_⟩, fun agrees idle => ?_,
    fun h empty idle => exec_restart_arms h empty idle⟩
  · have bar : s.unarmed.settingsBar = none := State.settingsBar_of_free unlocked idle
    rw [exec_of_takes (f := handleSave) rfl h (n := 0) (by rfl) (by simp [empty])]
    exact congrArg Host.Outcome.next (handleSave_of_free bar)
  · show Host.Outcome.next (s.saveEnds true) = _
    simp only [State.saveEnds, saving]
    rfl
  · show Host.Outcome.next (s.saveEnds false) = _
    simp only [State.saveEnds, saving]
    rfl
  · show Host.Outcome.next (s.saveEnds agrees) = _
    simp only [State.saveEnds, idle]

end Sys2Proof.Machine
end

section
/-! Set Clock (R177), transitions and ATTN (R171, R172), and the requests on notices (R173, R174). -/

namespace Sys2Proof.Machine

/-! ### Transitions -/

section
variable {mask : CategorySet} {t : Transition} {l : MessageLink}

/-- A queue that has room takes a transition (R171). -/
theorem MessageLink.withTransition_room (room : l.transitions.length < 64) :
    (l.withTransition mask t).transitions = l.transitions ++ [t] ∧
      (l.withTransition mask t).summary = l.summary ||| t.kind.category.bit := ⟨if_pos room, if_pos room⟩

/-- At a full queue it is discarded, and QUEUE_FULL joins the summary set (R171). -/
theorem MessageLink.withTransition_full (full : 64 ≤ l.transitions.length) :
    (l.withTransition mask t).transitions = l.transitions ∧
      (l.withTransition mask t).summary = l.summary ||| t.kind.category.bit ||| 0x20 :=
  ⟨if_neg (Nat.not_lt.mpr full), if_neg (Nat.not_lt.mpr full)⟩

end

/-! ### Set Clock -/

section
variable {r : Request} {s : State}

/-- OK, or CLAMPED where the second or the tenth sent is out of range (R177). -/
theorem okOr_clock (second tenth : Nat) : okOr (min 86399 second != second || min 9 tenth != tenth) =
    if 86399 < second ∨ 9 < tenth then .clamped else .ok := by
  have clamped : (min 86399 second != second || min 9 tenth != tenth) = true ↔ 86399 < second ∨ 9 < tenth := by
    rw [Bool.or_eq_true, bne_iff_ne, bne_iff_ne]
    omega
  simp only [okOr, clamped]

theorem handleSetClock_tracking (tracking : s.time.pps = .tracking) : handleSetClock r s =
    State.answer r (if 86399 < u24 r.body 2 ∨ 9 < u8 r.body 5 then .clamped else .ok) [1]
      { s with time := { s.time with pendingSet := some (u16 r.body 0, min 86399 (u24 r.body 2)) } } := by
  simp only [handleSetClock, tracking, okOr_clock]
  rfl

theorem handleSetClock_free (free : s.time.pps ≠ .tracking) : handleSetClock r s =
    let now : Stamp := ⟨u16 r.body 0, min 86399 (u24 r.body 2), min 9 (u8 r.body 5)⟩
    State.answer r (if 86399 < u24 r.body 2 ∨ 9 < u8 r.body 5 then .clamped else .ok) [0]
      { s with time := { s.time with now := now }, link := s.made [deviceRecord .clockSet none now] } := by
  cases pps : s.time.pps with
  | tracking => exact absurd pps free
  | unused | lost =>
    simp only [handleSetClock, pps, okOr_clock]
    rfl

/-! ### Summary and mask -/

theorem handleFetchSummary_eq : handleFetchSummary r s =
    State.answer r .ok [s.link.summary.setWidth 8, BitVec.ofNat 8 s.link.transitions.length]
      { s with link := { s.link with summary := 0, attn := false } } := by
  have quiet : attnOf 0 s.cfg.device.noticeMask = false := by simp [attnOf]
  simp only [handleFetchSummary, quiet, beBytes_one]
  rfl

/-- CLEAR takes categories out of the mask, and any other action adds them; a code beyond the six is CLAMPED (R173). -/
theorem handleChangeMask_eq (bar : s.settingsBar = none) {action code : Byte} (hb : r.body = [action, code]) :
    handleChangeMask r s =
      let named : CategorySet := code.setWidth 6
      let mask := if action = 1 then s.cfg.device.noticeMask &&& ~~~named else s.cfg.device.noticeMask ||| named
      State.answer r (if code.toNat < 64 then .ok else .clamped) [mask.setWidth 8]
        { s with
          cfg := { s.cfg with device := { s.cfg.device with noticeMask := mask } }
          link := { s.link with attn := decide (s.link.summary &&& mask ≠ 0) } } := by
  have first : u8 r.body 0 = action.toNat := by rw [hb]; rfl
  have second : u8 r.body 1 = code.toNat := by rw [hb]; rfl
  have after (named mask : CategorySet) :
      maskAfter action.toNat named mask = if action = 1 then mask &&& ~~~named else mask ||| named := by
    have clear : action.toNat = 1 ↔ action = 1 := (BitVec.toNat_inj (x := action) (y := 1))
    simp only [maskAfter, clear]
  have status : okOr (decide (64 ≤ code.toNat)) = if code.toNat < 64 then .ok else .clamped := by
    rcases Nat.lt_or_ge code.toNat 64 with low | high
    · simp [okOr, low, Nat.not_le.mpr low]
    · simp [okOr, high, Nat.not_lt.mpr high]
  simp only [handleChangeMask, bar, first, second, after, status, attnOf_eq_decide]
  rfl

/-! ### Fetch Transitions -/

/-- A repeated TAG gets the kept reply (R174). -/
theorem handleFetchTransitions_kept {frame : List Byte} (kept : s.link.kept = some (r.tag, frame)) :
    handleFetchTransitions r s = s.setLink { s.link with sending := some frame } := by
  have repeated : (s.link.kept.filter fun k => k.1 == r.tag) = some (r.tag, frame) := by simp [kept]
  simp only [handleFetchTransitions, repeated]

/-- Another TAG takes up to eight records out of the queue (R174). -/
theorem handleFetchTransitions_new (other : ∀ k, s.link.kept = some k → k.1 ≠ r.tag) : handleFetchTransitions r s =
    let frame := replyFrame r .ok (BitVec.ofNat 8 (s.link.transitions.take 8).length ::
      BitVec.ofNat 8 (s.link.transitions.drop 8).length :: (s.link.transitions.take 8).flatMap Transition.bytes)
    s.setLink { s.link with
      transitions := s.link.transitions.drop 8, kept := some (r.tag, frame), sending := some frame } := by
  have fresh : (s.link.kept.filter fun k => k.1 == r.tag) = none :=
    Option.filter_eq_none_iff.mpr fun k kept => by simpa using other k kept
  simp only [handleFetchTransitions, fresh, transitionsBody, beBytes_one]
  rfl

end

/-- Settles O56: Set Clock by the pps state, the categories, a transition by the room in the queue, and the three requests. -/
theorem clockTransitionsAndNotices : Obligations.ClockTransitionsAndNotices := by
  refine ⟨fun r s h hl => ⟨fun tracking => ?_, fun free => ?_⟩, by decide,
    fun t s => ⟨MessageLink.withTransition_room, MessageLink.withTransition_full, attnOf_iff, rfl⟩,
    fun r s => ⟨fun h empty => ?_, fun action code hb h unlocked idle => ?_, fun h empty => ⟨fun frame kept => ?_, fun other => ?_⟩⟩⟩
  · rw [exec_of_takes (f := handleSetClock) rfl h (by rfl) hl]
    exact congrArg Host.Outcome.next (handleSetClock_tracking tracking)
  · rw [exec_of_takes (f := handleSetClock) rfl h (by rfl) hl]
    refine congrArg Host.Outcome.next ((handleSetClock_free (s := s.unarmed) free).trans ?_)
    simp only [State.unarmed_made]
    rfl
  · rw [exec_of_takes (f := handleFetchSummary) rfl h (n := 0) (by rfl) (by simp [empty])]
    exact congrArg Host.Outcome.next handleFetchSummary_eq
  · rw [exec_of_takes (f := handleChangeMask) rfl h (n := 2) (by rfl) (by simp [hb])]
    exact congrArg Host.Outcome.next (handleChangeMask_eq (s := s.unarmed) (State.settingsBar_of_free unlocked idle) hb)
  · rw [exec_of_takes (f := handleFetchTransitions) rfl h (n := 0) (by rfl) (by simp [empty])]
    exact congrArg Host.Outcome.next (handleFetchTransitions_kept kept)
  · rw [exec_of_takes (f := handleFetchTransitions) rfl h (n := 0) (by rfl) (by simp [empty])]
    exact congrArg Host.Outcome.next (handleFetchTransitions_new other)

end Sys2Proof.Machine
end

section
/-! The oscillator's clock second where no block does more than count (R17, R48, R64, R82, R146, R162, R175). -/

namespace Sys2Proof.Machine

/-! ### The records -/

/-- One element of a vector changed and then others, each once, are all of them changed. -/
theorem changed_mem_cons {α : Type} {n : Nat} {i : Fin n} {l : List (Fin n)} (later : i ∉ l) (v : Vector α n)
    {f g : Fin n → α} {x : α} (own : f i = x) (others : ∀ j, j ≠ i → g j = f j) (j : Fin n) :
    (if j ∈ l then g j else (v.set i x)[j]) = if j ∈ i :: l then f j else v[j] := by
  by_cases same : j = i
  · subst same
    simp only [later, if_false, get_set_same, List.mem_cons_self, if_true, own]
  · simp only [get_set_of_ne _ same, others j same, List.mem_cons, same, false_or]

/-- A live part after a clock second that does no more than count (R17, R82). -/
def Live.counted (c : Settings) (l : Live) : Live :=
  match l.service with
  | .off => l
  | .outOfService => { l with steady := 0, heat := heatTowards c l.heat 0 }
  | .inService => { l with age := l.age + 1 }

/-- The channel of a transformer out of service counts its de-energised time (R48). -/
def Channel.counted (l : Live) (c : Channel) : Channel :=
  if l.service = .outOfService then { c with deenergisedTime := min 65535 (c.deenergisedTime + 1) } else c

/-- The state after the records that `p` names have counted. -/
def State.recordsCounted (p : Fin 16 → Prop) [DecidablePred p] (s : State) : State :=
  { s with
    live := Vector.ofFn fun i => if p i then s.live[i].counted s.cfg.transformers[i] else s.live[i]
    channels := Vector.ofFn fun ch => if p ch then s.channels[ch].counted s.live[ch] else s.channels[ch] }

/-- Counting changes neither service state nor level, so no activity (R125). -/
theorem Live.counted_activeLevel (c : Settings) (l : Live) : (l.counted c).activeLevel = l.activeLevel := by
  unfold Live.counted
  split <;> rfl

section
variable {s : State} {stamp : Stamp}

theorem State.recordsCounted_activitySecond (p : Fin 16 → Prop) [DecidablePred p] (s : State) :
    (s.recordsCounted p).activitySecond = s.activitySecond := by
  have level (i : Fin 16) : (s.recordsCounted p).live[i].activeLevel = s.live[i].activeLevel := by
    simp only [State.recordsCounted, get_ofFn]
    split
    · exact Live.counted_activeLevel _ _
    · rfl
  simp only [State.activitySecond, level]
  rfl

/-- With no episode open a record that needs no stand-in second counts, and that is all (R15, R17, R48, R134). -/
theorem State.recordSecond_counts {i : Fin 16} (quiet : s.tracker.openEpisode = none)
    (young : s.live[i].service = .inService → s.live[i].age < 2) : s.recordSecond i stamp =
      { s with
        live := s.live.set i (s.live[i].counted s.cfg.transformers[i])
        channels := s.channels.set i (s.channels[i].counted s.live[i]) } := by
  cases service : s.live[i].service with
  | off =>
    rw [State.recordSecond_off service]
    simp only [Live.counted, Channel.counted, service, reduceCtorEq, if_false, set_get_same]
  | outOfService =>
    have tracker : { s.tracker with openEpisode := none } = s.tracker := by rw [← quiet]
    rw [State.recordSecond_outOfService service, State.trackCooling_eq]
    simp only [Live.counted, Channel.counted, service, if_true, quiet, Option.map_none, tracker, ite_self]
  | inService =>
    rw [State.recordSecond_young service (young service)]
    simp only [Live.counted, Channel.counted, service, reduceCtorEq, if_false, set_get_same]

/-- One record after another, each once, the records count. -/
theorem State.foldl_recordClock_counts {l : List (Fin 16)} (once : l.Nodup)
    (none_waits : ∀ i : Fin 16, s.handOffs.recordTicks[i] = none) (quiet : s.tracker.openEpisode = none)
    (young : ∀ i ∈ l, s.live[i].service = .inService → s.live[i].age < 2) :
    l.foldl (fun u i => u.recordClock stamp i) s = s.recordsCounted (· ∈ l) := by
  induction l generalizing s with
  | nil => simp [State.recordsCounted]
  | cons i l ih =>
    obtain ⟨later, once⟩ := List.nodup_cons.mp once
    have first : s.recordClock stamp i = s.recordSecond i stamp :=
      State.recordClock_takes (none_waits i) fun ⟨service, old⟩ =>
        absurd (young i List.mem_cons_self service) (Nat.not_lt.mpr old)
    have others : ∀ j ∈ l, (s.live.set i (s.live[i].counted s.cfg.transformers[i]))[j] = s.live[j] :=
      fun j hj => get_set_of_ne _ (by rintro rfl; exact later hj) _
    rw [List.foldl_cons, first, State.recordSecond_counts quiet (young i List.mem_cons_self)]
    refine (ih once (by exact none_waits) (by exact quiet) fun j hj => ?_).trans ?_
    · simp only [others j hj]
      exact young j (List.mem_cons_of_mem i hj)
    · simp only [State.recordsCounted, State.mk.injEq, true_and, and_true]
      refine ⟨congrArg Vector.ofFn (funext fun j => ?_), congrArg Vector.ofFn (funext fun j => ?_)⟩
      · refine changed_mem_cons (f := fun j => s.live[j].counted s.cfg.transformers[j])
          (g := fun j => Live.counted s.cfg.transformers[j] (s.live.set i (s.live[i].counted s.cfg.transformers[i]))[j])
          later s.live rfl (fun k other => ?_) j
        simp only [get_set_of_ne _ other]
      · refine changed_mem_cons (f := fun j => s.channels[j].counted s.live[j])
          (g := fun j => Channel.counted (s.live.set i (s.live[i].counted s.cfg.transformers[i]))[j]
            (s.channels.set i (s.channels[i].counted s.live[i]))[j])
          later s.channels rfl (fun k other => ?_) j
        simp only [get_set_of_ne _ other]

/-! ### The blocks after the records -/

/-- E ages and the Episode Tracker, with no episode open and no activity, takes nothing from the clock second (R64, R125). -/
theorem State.fieldClock_trackerClock_ages (idle : NoTickWaits s) (keeps : ¬ LosesGrade s)
    (quiet : s.tracker.openEpisode = none) (calm : s.activitySecond = false) :
    (s.fieldClock stamp).trackerClock stamp =
      { s with field := { s.field with age := min 65535 (s.field.age + 1) } } := by
  have taken : ¬ RecordWaits s := fun ⟨i, waits⟩ => waits (idle.records i)
  rw [State.fieldClock_takes idle.field keeps taken, State.fieldSecond_ages keeps]
  refine (State.trackerClock_takes (by exact idle.tracker) ?_).trans (State.trackerSecond_of_none stamp quiet calm)
  rintro (⟨opened, -⟩ | waits | waits)
  · exact opened quiet
  · exact taken waits
  · exact waits idle.field

/-- Entries short of their 60th second count, and that is all (R146). -/
theorem State.captureSecond_waits (none_waits : ∀ e ∈ s.capture.waiting, e.expiry = none)
    (short : ∀ e ∈ s.capture.waiting, e.wait < 59) : s.captureSecond stamp =
      { s with capture :=
          { s.capture with waiting := s.capture.waiting.map fun e => { e with wait := e.wait + 1 } } } := by
  have waits : (s.capture.waiting.map fun e =>
      if e.wait < 59 then { e with wait := e.wait + 1 } else { e with expiry := some stamp }) =
      s.capture.waiting.map fun e => { e with wait := e.wait + 1 } :=
    List.map_congr_left fun e he => if_pos (short e he)
  rw [State.captureSecond_counts none_waits, waits]
  rfl

/-- The link-silence timer steps down short of its last second, and stays stopped (R162). -/
theorem State.linkClock_steps (idle : s.handOffs.linkTick = none)
    (heard : ∀ n, s.driver.linkTimer = some n → 2 ≤ n) : s.linkClock stamp =
      { s with driver := { s.driver with linkTimer := s.driver.linkTimer.map (· - 1) } } := by
  cases timer : s.driver.linkTimer with
  | none =>
    have driver : { s.driver with linkTimer := none } = s.driver := by rw [← timer]
    rw [State.linkClock_stopped idle timer, Option.map_none, driver]
  | some n => exact State.linkClock_runs idle timer (heard n timer)

/-- The blocks after the records, where each does no more than count. -/
theorem State.laterClocks_count (idle : NoTickWaits s) (keeps : ¬ LosesGrade s) (quiet : s.tracker.openEpisode = none)
    (calm : s.activitySecond = false) (short : ∀ e ∈ s.capture.waiting, e.wait < 59)
    (heard : ∀ n, s.driver.linkTimer = some n → 2 ≤ n) :
    (((s.fieldClock stamp).trackerClock stamp).captureSecond stamp).linkClock stamp =
      { s with
        field := { s.field with age := min 65535 (s.field.age + 1) }
        capture := { s.capture with waiting := s.capture.waiting.map fun e => { e with wait := e.wait + 1 } }
        driver := { s.driver with linkTimer := s.driver.linkTimer.map (· - 1) } } := by
  rw [State.fieldClock_trackerClock_ages idle keeps quiet calm]
  refine (congrArg (State.linkClock stamp) (State.captureSecond_waits (by exact idle.captures) (by exact short))).trans ?_
  exact State.linkClock_steps (by exact idle.link) (by exact heard)

/-- What `State.laterClocks_count` asks for does not depend on what the records count. -/
theorem NoTickWaits.recordsCounted (idle : NoTickWaits s) (p : Fin 16 → Prop) [DecidablePred p] :
    NoTickWaits (s.recordsCounted p) :=
  ⟨idle.records, idle.field, idle.tracker, idle.link, idle.captures⟩

end

/-! ### The obligation -/

theorem nodup_allSixteen : allSixteen.Nodup := by
  rw [allSixteen_eq]
  exact List.nodup_finRange 16

theorem exec_clockSecond_eq (s : State) : exec .clockSecond s =
    .next (if s.time.pps = .tracking ∨ s.time.now.tenth ≠ 9 then s else s.oscillatorSecond) := by
  rfl

/-- Settles O36: the records one after another, then the blocks in the order in which the clock second comes to them. -/
theorem clockSecondCounts : Obligations.ClockSecondCounts := by
  unfold Obligations.ClockSecondCounts
  refine ⟨fun s => ⟨fun held => ?_, fun free last => ?_⟩, fun stamp s idle young graded quiet calm short heard => ?_⟩
  · rw [exec_clockSecond_eq, if_pos held]
  · rw [exec_clockSecond_eq, if_neg (not_or.mpr ⟨free, not_not.mpr last⟩), State.oscillatorSecond_eq]
  · have keeps : ¬ LosesGrade s := fun ⟨old, grade⟩ => graded.elim (fun new => by omega) grade
    have records := State.foldl_recordClock_counts (stamp := stamp) nodup_allSixteen idle.records quiet
      fun i _ => young i
    have others := State.laterClocks_count (stamp := stamp) (idle.recordsCounted (· ∈ allSixteen)) keeps quiet
      ((State.recordsCounted_activitySecond _ s).trans calm) short heard
    rw [State.blocksClock, records, others]
    simp only [State.recordsCounted, mem_allSixteen, if_true]
    rfl

end Sys2Proof.Machine
end

section
/-! Records as bytes (R184): reading back what was written, the lengths, the codes, and the layouts byte by byte. -/

namespace Sys2Proof.Machine

/-! ### Fields of several bytes -/

theorem beBytes_two (n : Nat) : beBytes 2 n = [BitVec.ofNat 8 (n / 256)] ++ [BitVec.ofNat 8 n] := by simp [beBytes]

theorem beBytes_three (n : Nat) :
    beBytes 3 n = [BitVec.ofNat 8 (n / 65536)] ++ ([BitVec.ofNat 8 (n / 256)] ++ [BitVec.ofNat 8 n]) := by simp [beBytes]

/-- Four bytes are two halves of two bytes each. -/
theorem beBytes_four (n : Nat) : beBytes 4 n = beBytes 2 (n / 65536) ++ beBytes 2 n := by
  simp [beBytes, Nat.div_div_eq_div_mul]

theorem beInt_two (v : Int) : beInt 2 v = beBytes 2 (v % 65536).toNat := rfl

theorem beInt_three (v : Int) : beInt 3 v = beBytes 3 (v % 16777216).toNat := rfl

@[simp] theorem length_beBytes (n v : Nat) : (beBytes n v).length = n := by
  induction n with
  | zero => rfl
  | succ n ih => rw [beBytes, List.length_cons, ih]

@[simp] theorem length_beInt (n : Nat) (v : Int) : (beInt n v).length = n := length_beBytes n _

/-! ### Flags and sets -/

/-- A flag's place among packed bits. -/
theorem flagByte_eq (b : Bool) : flagByte b = BitVec.ofNat 8 (if b = true then 2 ^ 0 else 0) := by
  cases b <;> rfl

theorem packBits_one (a : Bool) : packBits [a] = if a = true then 2 ^ 0 else 0 := by
  simp [packBits]

theorem packBits_two (a b : Bool) :
    packBits [a, b] = (if a = true then 2 ^ 0 else 0) + if b = true then 2 ^ 1 else 0 := by
  simp [packBits]

theorem packBits_three (a b c : Bool) : packBits [a, b, c] =
    (if a = true then 2 ^ 0 else 0) + (if b = true then 2 ^ 1 else 0) + if c = true then 2 ^ 2 else 0 := by
  simp [packBits, Nat.mul_add, Nat.add_assoc]

theorem packBits_five (a b c d e : Bool) : packBits [a, b, c, d, e] =
    (if a = true then 2 ^ 0 else 0) + (if b = true then 2 ^ 1 else 0) + (if c = true then 2 ^ 2 else 0)
      + (if d = true then 2 ^ 3 else 0) + if e = true then 2 ^ 4 else 0 := by
  simp [packBits, Nat.mul_add, Nat.add_assoc]

theorem setWidth_eight {w : Nat} (v : BitVec w) : v.setWidth 8 = BitVec.ofNat 8 v.toNat :=
  BitVec.eq_of_toNat_eq (by simp)

/-! ### Vectors and lists element by element -/

theorem toList_eq_finRange {α : Type} {n : Nat} (v : Vector α n) : v.toList = (List.finRange n).map fun i => v[i] := by
  refine List.ext_getElem (by simp) fun k hk hk' => ?_
  simp

/-- Codes are read from one slot after another, wrapping behind slot 16383 (R139). -/
theorem readCodes_eq (m : SlotMemory) (pos n : Nat) :
    readCodes m pos n = (List.range n).map fun j => slotRead m ((pos + j) % 16384) := by
  induction n generalizing pos with
  | zero => rfl
  | succ n ih =>
    rw [readCodes, ih, List.range_succ_eq_map, List.map_cons, List.map_map]
    refine congrArg₂ List.cons rfl (List.map_congr_left fun j _ => ?_)
    simp only [Function.comp, Nat.succ_eq_add_one, Nat.add_assoc, Nat.add_comm 1 j]

/-- The entries of the used history that carry a mark, none while no estimate has been formed (R70). -/
theorem FieldEstimator.marked_eq (mark : RateEntry → Bool) (f : FieldEstimator) : f.marked mark =
    ((f.history.toList.take ((f.latest.formed.map Prod.fst).getD 0)).filter mark).length := by
  unfold FieldEstimator.marked
  cases f.latest.formed with
  | none => rfl
  | some l => rfl

/-! ### The lengths of the records -/

@[simp] theorem Stamp.length_bytes (t : Stamp) : t.bytes.length = 6 := by simp [Stamp.bytes]

/-- The fields of a settings record before its breakpoints. -/
def Settings.headBytes (c : Settings) : List Byte :=
  [[flagByte c.enabled], beBytes 2 c.gain, beInt 2 c.offsetSet, [flagByte c.learning], beBytes 2 c.iWatch,
    beBytes 2 c.iWarn, beBytes 2 c.iAlarm, beBytes 2 c.hyst, beBytes 2 c.dWatch, beBytes 2 c.dWarn, beBytes 2 c.dAlarm,
    beBytes 2 c.dFall].flatten

def Breakpoint.bytes (b : Breakpoint) : List Byte := beBytes 2 b.x ++ beBytes 2 b.r

/-- The fields of a settings record after its breakpoints. -/
def Settings.tailBytes (c : Settings) : List Byte :=
  [beBytes 2 c.tauHeat, beBytes 2 c.tauCool, beBytes 2 c.tWarn, beBytes 2 c.tAlarm, beBytes 2 c.tHys,
    beBytes 1 c.checkMode.code, beInt 2 c.coefA, beInt 2 c.coefB, beBytes 2 c.wAbs, beBytes 1 c.wPct,
    beBytes 2 c.doubtD, beBytes 2 c.reminder, [flagByte c.latched], beBytes 1 c.captureLevel.code,
    beBytes 1 c.capturePre, beBytes 1 c.capturePost].flatten

section
variable (c : Settings)

theorem Settings.bytes_eq :
    c.bytes = c.headBytes ++ (c.breakpoints.toList.flatMap Breakpoint.bytes ++ c.tailBytes) := by
  unfold Settings.bytes Settings.headBytes Settings.tailBytes Breakpoint.bytes
  simp only [List.flatten_cons, List.flatten_nil, List.append_nil, List.append_assoc]

theorem Settings.length_headBytes : c.headBytes.length = 22 := rfl

theorem Settings.length_tailBytes : c.tailBytes.length = 26 := rfl

theorem Settings.length_pointBytes : (c.breakpoints.toList.flatMap Breakpoint.bytes).length = 32 := by
  simp [Breakpoint.bytes, List.length_flatMap]

theorem Settings.length_bytes : c.bytes.length = 80 := by
  rw [Settings.bytes_eq, List.length_append, List.length_append, Settings.length_headBytes,
    Settings.length_pointBytes, Settings.length_tailBytes]

end

theorem DeviceSettings.length_writtenBytes (d : DeviceSettings) : d.writtenBytes.length = 15 := by
  simp [DeviceSettings.writtenBytes]

theorem tapBytes_length (taps : List Int) : (tapBytes taps).length = 1 + 2 * taps.length := by
  simp [tapBytes, List.length_flatMap]
  omega

/-! ### Reading back -/

section
variable {b rest : List Byte} {k n : Nat}

/-- A field that begins before the end of `b` is read from `b`, one that begins behind it from what follows. -/
theorem u8_append_left (h : k < b.length) : u8 (b ++ rest) k = u8 b k := by
  rw [u8, List.getD_append _ _ _ _ h, u8]

theorem u8_append_right (b rest : List Byte) (k : Nat) : u8 (b ++ rest) (b.length + k) = u8 rest k := by
  rw [u8, List.getD_append_right _ _ _ _ (Nat.le_add_right _ _), Nat.add_sub_cancel_left, u8]

theorem u16_append_right (b rest : List Byte) (k : Nat) : u16 (b ++ rest) (b.length + k) = u16 rest k := by
  simp only [u16, Nat.add_assoc, u8_append_right]

theorem u16_append_left (h : k + 1 < b.length) : u16 (b ++ rest) k = u16 b k := by
  simp only [u16, u8_append_left h, u8_append_left (Nat.lt_of_succ_lt h)]

theorem u8_drop (b : List Byte) (k j : Nat) : u8 (b.drop k) j = u8 b (k + j) := by
  simp [u8]

/-- A field is read from the bytes at its place. -/
theorem u8_of_drop (stands : b.drop k = beBytes 1 n ++ rest) : u8 b k = u8 (beBytes 1 n) 0 := by
  have first := u8_drop b k 0
  rw [stands] at first
  exact first.symm

theorem u16_of_drop (stands : b.drop k = beBytes 2 n ++ rest) : u16 b k = u16 (beBytes 2 n) 0 := by
  have first := u8_drop b k 0
  have second := u8_drop b k 1
  rw [stands] at first second
  exact congrArg₂ (fun high low => high * 256 + low) first.symm second.symm

/-- What a field of one, two or three bytes reads as, where it stands whole. -/
theorem u8_beBytes (h : n < 256) : u8 (beBytes 1 n) 0 = n := by
  rw [beBytes_one, u8_ofNat h]

theorem u16_beBytes (h : n < 65536) : u16 (beBytes 2 n) 0 = n := by
  simp [u16, u8, beBytes]
  omega

theorem u24_beBytes (h : n < 16777216) : u24 (beBytes 3 n) 0 = n := by
  simp [u24, u16, u8, beBytes]
  omega

theorem s16_beInt {v : Int} (low : -32768 ≤ v) (high : v ≤ 32767) : s16 (beInt 2 v) 0 = v := by
  have whole : u16 (beInt 2 v) 0 = (v % 65536).toNat := by
    rw [beInt_two]
    exact u16_beBytes (by omega)
  rw [s16, (signed_eq _).1, whole]
  split <;> omega

/-- A field read from where it stands, within a range it keeps, is not clamped. -/
theorem clampNat_u16 {lo hi : Nat} (stands : u16 b k = u16 (beBytes 2 n) 0) (low : lo ≤ n) (high : n ≤ hi)
    (fits : hi < 65536 := by decide) : clampNat lo hi (u16 b k) = n := by
  rw [stands, u16_beBytes (by omega), clampNat_of_mem low high]

theorem clampNat_u8 {lo hi : Nat} (stands : u8 b k = u8 (beBytes 1 n) 0) (low : lo ≤ n) (high : n ≤ hi)
    (fits : hi < 256 := by decide) : clampNat lo hi (u8 b k) = n := by
  rw [stands, u8_beBytes (by omega), clampNat_of_mem low high]

theorem yesOf_u8 {y : Bool} (stands : u8 b k = u8 [flagByte y] 0) : yesOf (u8 b k) = y := by
  rw [stands]
  cases y <;> rfl

/-- Breakpoints are read one after another, each from its four bytes. -/
theorem u16_points (l : List Breakpoint) (rest : List Byte) (k : Nat) (h : k < l.length) :
    u16 (l.flatMap Breakpoint.bytes ++ rest) (4 * k) = u16 (beBytes 2 l[k].x) 0 ∧
      u16 (l.flatMap Breakpoint.bytes ++ rest) (2 + 4 * k) = u16 (beBytes 2 l[k].r) 0 := by
  induction l generalizing k with
  | nil => simp at h
  | cons p l ih =>
    rw [List.flatMap_cons, List.append_assoc]
    cases k with
    | zero => exact ⟨rfl, rfl⟩
    | succ k =>
      have four (j : Nat) : u16 (p.bytes ++ (l.flatMap Breakpoint.bytes ++ rest)) (4 + j) =
          u16 (l.flatMap Breakpoint.bytes ++ rest) j := u16_append_right p.bytes _ j
      rw [show 4 * (k + 1) = 4 + 4 * k by omega, show 2 + (4 + 4 * k) = 4 + (2 + 4 * k) by omega, four, four]
      exact ih k (Nat.lt_of_succ_lt_succ h)

end

/-! ### Settings -/

section
variable (c : Settings)

theorem Settings.u8_head {k : Nat} (h : k < 22) : u8 c.bytes k = u8 c.headBytes k := by
  rw [Settings.bytes_eq, u8_append_left h]

theorem Settings.u16_head {k : Nat} (h : k + 1 < 22) : u16 c.bytes k = u16 c.headBytes k := by
  rw [Settings.bytes_eq, u16_append_left h]

theorem Settings.u16_point (k : Fin 8) : u16 c.bytes (22 + 4 * k.val) = u16 (beBytes 2 c.breakpoints[k].x) 0 ∧
    u16 c.bytes (24 + 4 * k.val) = u16 (beBytes 2 c.breakpoints[k].r) 0 := by
  have points := u16_points c.breakpoints.toList c.tailBytes k.val (by simp)
  have past (j : Nat) := u16_append_right c.headBytes (c.breakpoints.toList.flatMap Breakpoint.bytes ++ c.tailBytes) j
  rw [Settings.bytes_eq, show 24 + 4 * k.val = 22 + (2 + 4 * k.val) by omega, ← c.length_headBytes, past, past]
  simpa using points

/-- The bytes before the tail, as one part. -/
theorem Settings.bytes_eq_tail : ∃ before : List Byte, before.length = 54 ∧ c.bytes = before ++ c.tailBytes :=
  ⟨c.headBytes ++ c.breakpoints.toList.flatMap Breakpoint.bytes,
    by rw [List.length_append, c.length_headBytes, c.length_pointBytes], by rw [List.append_assoc, c.bytes_eq]⟩

theorem Settings.u8_tail (k : Nat) : u8 c.bytes (54 + k) = u8 c.tailBytes k := by
  obtain ⟨before, length, split⟩ := c.bytes_eq_tail
  rw [split, ← length, u8_append_right]

theorem Settings.u16_tail (k : Nat) : u16 c.bytes (54 + k) = u16 c.tailBytes k := by
  obtain ⟨before, length, split⟩ := c.bytes_eq_tail
  rw [split, ← length, u16_append_right]

end

end Sys2Proof.Machine
end

section
/-! Settings, device and map records read back from their bytes (R184). -/

namespace Sys2Proof.Machine

/-! ### Codes -/

theorem checkModeOf_code (m : CheckMode) : checkModeOf m.code = m := by cases m <;> rfl

theorem captureLevelOf_code (l : CaptureLevel) : captureLevelOf l.code = l := by cases l <;> rfl

theorem mainsOf_code (m : Mains) : mainsOf m.code = m := by cases m <;> rfl

theorem fillModeOf_code (m : FillMode) : fillModeOf m.code = m := by cases m <;> rfl

theorem contactModeOf_code (m : ContactMode) : contactModeOf m.code = m := by cases m <;> rfl

theorem senseOf_code (s : Sense) : senseOf s.code = s := by cases s <;> rfl

theorem minLevelOf_rank {l : Level} (h : l ≠ .normal) : minLevelOf l.rank = l := by
  cases l
  case normal => exact absurd rfl h
  all_goals rfl

theorem CheckMode.code_lt (m : CheckMode) : m.code < 256 := by cases m <;> decide

theorem CaptureLevel.code_lt (l : CaptureLevel) : l.code < 256 := by cases l <;> decide

/-! ### Settings -/

section
variable {c : Settings} {rest : List Byte} {lo hi n k : Nat}

/-- A field before the breakpoints, in its range, is taken as it is. -/
theorem Settings.clampNat_head (stands : c.headBytes.drop k = beBytes 2 n ++ rest) (low : lo ≤ n) (high : n ≤ hi)
    (place : k + 1 < 22 := by decide) (fits : hi < 65536 := by decide) : clampNat lo hi (u16 c.bytes k) = n :=
  clampNat_u16 ((c.u16_head place).trans (u16_of_drop stands)) low high fits

/-- A field behind the breakpoints, in its range, is taken as it is. -/
theorem Settings.u16_field (stands : c.tailBytes.drop k = beBytes 2 n ++ rest) (fits : n < 65536) :
    u16 c.bytes (54 + k) = n := by
  rw [c.u16_tail, u16_of_drop stands, u16_beBytes fits]

theorem Settings.u8_field (stands : c.tailBytes.drop k = beBytes 1 n ++ rest) (fits : n < 256) :
    u8 c.bytes (54 + k) = n := by
  rw [c.u8_tail, u8_of_drop stands, u8_beBytes fits]

theorem Settings.clampNat_tail (stands : c.tailBytes.drop k = beBytes 2 n ++ rest) (low : lo ≤ n) (high : n ≤ hi)
    (fits : hi < 65536 := by decide) : clampNat lo hi (u16 c.bytes (54 + k)) = n := by
  rw [Settings.u16_field stands (by omega), clampNat_of_mem low high]

theorem Settings.clampNat_tail_byte (stands : c.tailBytes.drop k = beBytes 1 n ++ rest) (low : lo ≤ n) (high : n ≤ hi)
    (fits : hi < 256 := by decide) : clampNat lo hi (u8 c.bytes (54 + k)) = n := by
  rw [Settings.u8_field stands (by omega), clampNat_of_mem low high]

theorem Settings.s16_tail {v : Int} (stands : c.tailBytes.drop k = beInt 2 v ++ rest) (low : -32768 ≤ v)
    (high : v ≤ 32767) : s16 c.bytes (54 + k) = v :=
  (congrArg (signed 16) ((c.u16_tail k).trans (u16_of_drop stands))).trans (s16_beInt low high)

end

section
variable {c : Settings} (ok : SettingsOk c)
include ok

theorem SettingsOk.reads_offset : clampInt (-2047) 2047 (s16 c.bytes 3) = c.offsetSet := by
  obtain ⟨low, high⟩ := ok.offset
  have stands : u16 c.bytes 3 = u16 (beInt 2 c.offsetSet) 0 := (c.u16_head (by decide)).trans (u16_of_drop rfl)
  have read : s16 c.bytes 3 = c.offsetSet := (congrArg (signed 16) stands).trans (s16_beInt (by omega) (by omega))
  rw [read, clampInt_of_mem low high]

theorem SettingsOk.reads_points : (Vector.ofFn fun k : Fin 8 =>
    (⟨clampNat 1 30000 (u16 c.bytes (22 + 4 * k.val)), clampNat 0 20000 (u16 c.bytes (24 + 4 * k.val))⟩ : Breakpoint)) =
      c.breakpoints := by
  refine Vector.ext fun k hk => ?_
  obtain ⟨x, r⟩ := c.u16_point ⟨k, hk⟩
  obtain ⟨low, high, resistance⟩ := ok.points ⟨k, hk⟩
  rw [Vector.getElem_ofFn]
  exact congrArg₂ Breakpoint.mk (clampNat_u16 x low high) (clampNat_u16 r (Nat.zero_le _) resistance)

theorem SettingsOk.reads_reminder : reminderOf (u16 c.bytes 74) = c.reminder := by
  have read : u16 c.bytes 74 = c.reminder :=
    Settings.u16_field (k := 20) rfl (by rcases ok.reminder with off | ⟨-, high⟩ <;> omega)
  rcases ok.reminder with off | ⟨low, high⟩
  · rw [read, off]
    rfl
  · rw [read, reminderOf, if_neg (by omega), clampNat_of_mem low high]

/-- Every field of a settings part in its ranges is read from where it was written. -/
theorem SettingsOk.settingsOf_bytes : settingsOf c.bytes = c := by
  obtain ⟨iWatchLow, watchWarn, warnAlarm, iAlarmHigh⟩ := ok.currents
  obtain ⟨dWatchHigh, dWarnHigh, dAlarmHigh, dFallHigh⟩ := ok.delays
  obtain ⟨tauHeatLow, tauHeatHigh, tauCoolLow, tauCoolHigh⟩ := ok.constants
  obtain ⟨tWarnLow, warnBelow, tAlarmHigh, tHysHigh⟩ := ok.thermal
  obtain ⟨aLow, aHigh, bLow, bHigh⟩ := ok.coefficients
  obtain ⟨wAbsLow, wAbsHigh, wPctHigh⟩ := ok.band
  obtain ⟨preHigh, postLow, postHigh⟩ := ok.capture
  have enabled : yesOf (u8 c.bytes 0) = c.enabled := yesOf_u8 ((c.u8_head (by decide)).trans rfl)
  have learning : yesOf (u8 c.bytes 5) = c.learning := yesOf_u8 ((c.u8_head (by decide)).trans rfl)
  have latched : yesOf (u8 c.bytes 76) = c.latched := yesOf_u8 ((c.u8_tail 22).trans rfl)
  have check : checkModeOf (u8 c.bytes 64) = c.checkMode := by
    rw [Settings.u8_field (k := 10) rfl c.checkMode.code_lt, checkModeOf_code]
  have level : captureLevelOf (u8 c.bytes 77) = c.captureLevel := by
    rw [Settings.u8_field (k := 23) rfl c.captureLevel.code_lt, captureLevelOf_code]
  have gain : clampNat 1 65535 (u16 c.bytes 1) = c.gain := Settings.clampNat_head rfl ok.gain.1 ok.gain.2
  have iWatch : clampNat 1 30000 (u16 c.bytes 6) = c.iWatch := Settings.clampNat_head rfl iWatchLow (by omega)
  have iWarn : clampNat 1 30000 (u16 c.bytes 8) = c.iWarn := Settings.clampNat_head rfl (by omega) (by omega)
  have iAlarm : clampNat 1 30000 (u16 c.bytes 10) = c.iAlarm := Settings.clampNat_head rfl (by omega) iAlarmHigh
  have hyst : clampNat 0 5000 (u16 c.bytes 12) = c.hyst := Settings.clampNat_head rfl (Nat.zero_le _) ok.hyst
  have dWatch : clampNat 0 600 (u16 c.bytes 14) = c.dWatch := Settings.clampNat_head rfl (Nat.zero_le _) dWatchHigh
  have dWarn : clampNat 0 600 (u16 c.bytes 16) = c.dWarn := Settings.clampNat_head rfl (Nat.zero_le _) dWarnHigh
  have dAlarm : clampNat 0 600 (u16 c.bytes 18) = c.dAlarm := Settings.clampNat_head rfl (Nat.zero_le _) dAlarmHigh
  have dFall : clampNat 0 3600 (u16 c.bytes 20) = c.dFall := Settings.clampNat_head rfl (Nat.zero_le _) dFallHigh
  have tauHeat : clampNat 10 7200 (u16 c.bytes 54) = c.tauHeat :=
    Settings.clampNat_tail (k := 0) rfl tauHeatLow tauHeatHigh
  have tauCool : clampNat 10 7200 (u16 c.bytes 56) = c.tauCool :=
    Settings.clampNat_tail (k := 2) rfl tauCoolLow tauCoolHigh
  have tWarn : clampNat 1 20000 (u16 c.bytes 58) = c.tWarn := Settings.clampNat_tail (k := 4) rfl tWarnLow (by omega)
  have tAlarm : clampNat 1 20000 (u16 c.bytes 60) = c.tAlarm :=
    Settings.clampNat_tail (k := 6) rfl (by omega) tAlarmHigh
  have tHys : clampNat 0 2000 (u16 c.bytes 62) = c.tHys :=
    Settings.clampNat_tail (k := 8) rfl (Nat.zero_le _) tHysHigh
  have wAbs : clampNat 1 30000 (u16 c.bytes 69) = c.wAbs := Settings.clampNat_tail (k := 15) rfl wAbsLow wAbsHigh
  have doubtD : clampNat 1 3600 (u16 c.bytes 72) = c.doubtD :=
    Settings.clampNat_tail (k := 18) rfl ok.doubtD.1 ok.doubtD.2
  have coefA : s16 c.bytes 65 = c.coefA := Settings.s16_tail (k := 11) rfl aLow aHigh
  have coefB : s16 c.bytes 67 = c.coefB := Settings.s16_tail (k := 13) rfl bLow bHigh
  have wPct : clampNat 0 100 (u8 c.bytes 71) = c.wPct :=
    Settings.clampNat_tail_byte (k := 17) rfl (Nat.zero_le _) wPctHigh
  have capturePre : clampNat 0 4 (u8 c.bytes 78) = c.capturePre :=
    Settings.clampNat_tail_byte (k := 24) rfl (Nat.zero_le _) preHigh
  have capturePost : clampNat 1 250 (u8 c.bytes 79) = c.capturePost :=
    Settings.clampNat_tail_byte (k := 25) rfl postLow postHigh
  rw [settingsOf, enabled, gain, ok.reads_offset, learning, iWatch, iWarn, iAlarm, hyst, dWatch, dWarn, dAlarm, dFall,
    ok.reads_points, tauHeat, tauCool, tWarn, tAlarm, tHys, check, coefA, coefB, wAbs, wPct, doubtD, ok.reads_reminder,
    latched, level, capturePre, capturePost]

/-- Thresholds and breakpoints of a settings part in its ranges are in order (R2). -/
theorem SettingsOk.violation_eq_none : c.violation = none := by
  obtain ⟨-, watchWarn, warnAlarm, -⟩ := ok.currents
  obtain ⟨-, warnBelow, -, -⟩ := ok.thermal
  refine Settings.violation_none ⟨watchWarn, warnAlarm⟩ (fun k => ?_) warnBelow
  exact ok.rising ⟨k.val, by omega⟩ ⟨k.val + 1, by omega⟩ (Nat.lt_succ_self _)

end

/-! ### Device settings -/

/-- The fields of a device record after the fill modes, without the mask. -/
def DeviceSettings.tailBytes (d : DeviceSettings) : List Byte :=
  [beBytes 1 d.debounce, beBytes 3 d.quietTime, beBytes 2 d.eStart, beBytes 2 d.linkSilence, [flagByte d.panelLock],
    [flagByte d.ppsUse]].flatten

section
variable (d : DeviceSettings)

theorem DeviceSettings.writtenBytes_eq : d.writtenBytes =
    beBytes 1 d.mains.code ++ (d.fill.toList.map (fun m => byteOf m.code) ++ d.tailBytes) := by
  unfold DeviceSettings.writtenBytes DeviceSettings.tailBytes
  simp only [List.flatten_cons, List.flatten_nil, List.append_nil, List.append_assoc, List.cons_append, List.nil_append]

theorem DeviceSettings.u8_fill (k : Nat) (h : k < 4) : u8 d.writtenBytes (1 + k) = d.fill[k].code := by
  have past := u8_append_right (beBytes 1 d.mains.code) (d.fill.toList.map (fun m => byteOf m.code) ++ d.tailBytes) k
  have small : d.fill[k].code < 256 := by cases d.fill[k] <;> decide
  rw [length_beBytes] at past
  rw [DeviceSettings.writtenBytes_eq, past, u8_append_left (by simpa using h)]
  simp [u8, h, byteOf, Nat.mod_eq_of_lt small]

/-- The bytes before the tail, as one part. -/
theorem DeviceSettings.writtenBytes_eq_tail :
    ∃ before : List Byte, before.length = 5 ∧ d.writtenBytes = before ++ d.tailBytes :=
  ⟨beBytes 1 d.mains.code ++ d.fill.toList.map (fun m => byteOf m.code), by simp,
    by rw [List.append_assoc, d.writtenBytes_eq]⟩

theorem DeviceSettings.u8_tail (k : Nat) : u8 d.writtenBytes (5 + k) = u8 d.tailBytes k := by
  obtain ⟨before, length, split⟩ := d.writtenBytes_eq_tail
  rw [split, ← length, u8_append_right]

theorem DeviceSettings.u16_tail (k : Nat) : u16 d.writtenBytes (5 + k) = u16 d.tailBytes k := by
  simp only [u16, Nat.add_assoc, DeviceSettings.u8_tail]

theorem DeviceSettings.u24_tail (k : Nat) : u24 d.writtenBytes (5 + k) = u24 d.tailBytes k := by
  simp only [u24, Nat.add_assoc, DeviceSettings.u16_tail, DeviceSettings.u8_tail]

end

/-- Every device setting in its range is read from where it was written. -/
theorem DeviceOk.deviceOf_writtenBytes {d : DeviceSettings} (ok : DeviceOk d) :
    deviceOf d.writtenBytes d.noticeMask = d := by
  have mains : mainsOf (u8 d.writtenBytes 0) = d.mains := by
    have small : d.mains.code < 256 := by cases d.mains <;> decide
    rw [DeviceSettings.writtenBytes_eq, u8_append_left (by simp), u8_beBytes small, mainsOf_code]
  have fill : (Vector.ofFn fun c : Fin 4 => fillModeOf (u8 d.writtenBytes (1 + c.val))) = d.fill := by
    refine Vector.ext fun k hk => ?_
    rw [Vector.getElem_ofFn, DeviceSettings.u8_fill d k hk, fillModeOf_code]
  have debounce : clampNat 4 250 (u8 d.writtenBytes 5) = d.debounce :=
    clampNat_u8 ((d.u8_tail 0).trans (u8_of_drop rfl)) ok.debounce.1 ok.debounce.2
  have quietTime : clampNat 60 86400 (u24 d.writtenBytes 6) = d.quietTime := by
    have read : u24 d.writtenBytes 6 = d.quietTime :=
      ((d.u24_tail 1).trans rfl).trans (u24_beBytes (by have := ok.quietTime; omega))
    rw [read, clampNat_of_mem ok.quietTime.1 ok.quietTime.2]
  have eStart : clampNat 1 32767 (u16 d.writtenBytes 9) = d.eStart :=
    clampNat_u16 ((d.u16_tail 4).trans (u16_of_drop rfl)) ok.eStart.1 ok.eStart.2
  have linkSilence : linkSilenceOf (u16 d.writtenBytes 11) = d.linkSilence := by
    have read : u16 d.writtenBytes 11 = d.linkSilence := ((d.u16_tail 6).trans (u16_of_drop rfl)).trans
      (u16_beBytes (by rcases ok.linkSilence with off | ⟨-, high⟩ <;> omega))
    rcases ok.linkSilence with off | ⟨low, high⟩
    · rw [read, off]
      rfl
    · rw [read, linkSilenceOf, if_neg (by omega), clampNat_of_mem low high]
  have panelLock : yesOf (u8 d.writtenBytes 13) = d.panelLock := yesOf_u8 ((d.u8_tail 8).trans rfl)
  have ppsUse : yesOf (u8 d.writtenBytes 14) = d.ppsUse := yesOf_u8 ((d.u8_tail 9).trans rfl)
  rw [deviceOf, mains, fill, debounce, quietTime, eStart, linkSilence, panelLock, ppsUse]

/-! ### Contact maps -/

theorem ContactMap.mapOf_bytes {m : ContactMap} (h : m.minLevel ≠ .normal) : mapOf m.bytes = m := by
  have rank : m.minLevel.rank < 256 := by cases m.minLevel <;> decide
  have mode : m.mode.code < 256 := by cases m.mode <;> decide
  have sense : m.sense.code < 256 := by cases m.sense <;> decide
  have transformers : u16 m.bytes 0 = m.transformers.toNat := (u16_of_drop rfl).trans (u16_beBytes m.transformers.isLt)
  have minLevel : u8 m.bytes 2 = m.minLevel.rank := (u8_of_drop rfl).trans (u8_beBytes rank)
  have sources : u8 m.bytes 3 = m.sources.toNat := by
    have wide : u8 m.bytes 3 = (m.sources.setWidth 8).toNat := rfl
    rw [wide, BitVec.toNat_setWidth_of_le (by decide)]
  have modeRead : u8 m.bytes 4 = m.mode.code := (u8_of_drop rfl).trans (u8_beBytes mode)
  have senseRead : u8 m.bytes 5 = m.sense.code := (u8_of_drop rfl).trans (u8_beBytes sense)
  have test : yesOf (u8 m.bytes 6) = m.testEnable := yesOf_u8 rfl
  rw [mapOf, transformers, minLevel, sources, modeRead, senseRead, test, minLevelOf_rank h, contactModeOf_code,
    senseOf_code, BitVec.ofNat_toNat, BitVec.ofNat_toNat, BitVec.setWidth_eq, BitVec.setWidth_eq]

end Sys2Proof.Machine
end

section
/-! Lengths, codes and layouts of the records (R184), and the obligation about them. -/

namespace Sys2Proof.Machine

/-! ### Lengths -/

theorem DeviceSettings.length_bytes (d : DeviceSettings) : d.bytes.length = 16 := by
  rw [DeviceSettings.bytes, List.length_append, d.length_writtenBytes, List.length_singleton]

theorem ContactMap.length_bytes (m : ContactMap) : m.bytes.length = 7 := by simp [ContactMap.bytes]

theorem Transition.length_bytes (t : Transition) : t.bytes.length = 16 := by simp [Transition.bytes]

theorem Live.length_bytes (l : Live) : l.bytes.length = 29 := by simp [Live.bytes]

theorem CaptureRecord.length_bytes (r : CaptureRecord) : r.bytes.length = 24 := by simp [CaptureRecord.bytes]

theorem PendingEntry.length_bytes (e : PendingEntry) : e.bytes.length = 11 := by simp [PendingEntry.bytes]

theorem RateEntry.length_bytes (e : RateEntry) : e.bytes.length = 5 := by simp [RateEntry.bytes]

theorem Converter.length_bytes (c : Converter) : c.bytes.length = 3 := by simp [Converter.bytes]

/-- What the readers of a body give, from its bytes. -/
theorem readers_eq (b : List Byte) (k : Nat) : u8 b k = (b.getD k 0).toNat ∧ u16 b k = 256 * u8 b k + u8 b (k + 1) ∧
    u24 b k = 65536 * u8 b k + 256 * u8 b (k + 1) + u8 b (k + 2) ∧
    s16 b k = (if u16 b k < 32768 then (u16 b k : Int) else u16 b k - 65536) := by
  refine ⟨rfl, ?_, ?_, (signed_eq _).1⟩
  · rw [u16, Nat.mul_comm]
  · rw [u24, u16]
    omega

/-! ### Layouts -/

/-- The bytes of a stamp, and of an optional one. -/
theorem Stamp.bytes_eq (t : Stamp) : t.bytes = [BitVec.ofNat 8 (t.day / 256)] ++ [BitVec.ofNat 8 t.day]
    ++ ([BitVec.ofNat 8 (t.second / 65536)] ++ ([BitVec.ofNat 8 (t.second / 256)] ++ [BitVec.ofNat 8 t.second]))
    ++ [BitVec.ofNat 8 t.tenth] := by
  rw [Stamp.bytes, beBytes_two, beBytes_three, beBytes_one]

theorem CaptureRecord.length_eq (r : CaptureRecord) : r.length = 32 * (r.preCount + r.postStored) := rfl

/-- Settles O15: each record is read back field by field; each layout is the record's bytes with its multi-byte fields,
flags and packed bits written out. -/
theorem recordsReadBack : Obligations.RecordsReadBack := by
  unfold Obligations.RecordsReadBack
  refine ⟨fun c ok => ⟨c.length_bytes, ok.settingsOf_bytes, ?_⟩, ⟨fun d ok => ?_, fun m h => ?_⟩, ?_, ?_, ?_⟩
  · rw [ok.settingsOf_bytes, ok.violation_eq_none]
  · exact ⟨d.length_bytes, d.length_writtenBytes, ok.deviceOf_writtenBytes⟩
  · exact ⟨m.length_bytes, m.mapOf_bytes h⟩
  · exact ⟨Stamp.length_bytes, Transition.length_bytes, Live.length_bytes, CaptureRecord.length_bytes,
      PendingEntry.length_bytes, RateEntry.length_bytes, Converter.length_bytes, tapBytes_length, readers_eq⟩
  · refine ⟨by decide, rfl, rfl, rfl, rfl, rfl, rfl, rfl, rfl, rfl, rfl, rfl, rfl, rfl, fun _ => rfl, rfl, rfl, rfl, rfl, rfl,
      rfl, rfl, rfl⟩
  · dsimp only
    refine ⟨fun c => ?_, fun d => ⟨?_, ?_⟩, fun m => ?_, beBytes_two, fun taps => ?_, fun t => ?_, fun t => ?_, fun l => ?_,
      fun s => ?_, fun first count s => ?_, fun e s => ?_, fun i e => ?_, fun k s => ?_, fun c => ⟨?_, ?_, ?_⟩, fun v => ?_⟩
    · unfold Settings.bytes
      simp only [flagByte_eq, beBytes_one, beBytes_two, beInt_two]
    · simp only [DeviceSettings.bytes, setWidth_eight]
    · simp only [DeviceSettings.writtenBytes, flagByte_eq, beBytes_one, beBytes_two, beBytes_three, byteOf,
        List.map_eq_flatMap, List.append_assoc, List.cons_append, List.nil_append]
    · simp only [ContactMap.bytes, setWidth_eight, flagByte_eq, beBytes_one, beBytes_two]
    · simp only [tapBytes, beBytes_one, funext beInt_two, beBytes_two]
    · rw [Stamp.bytes_eq]
    · simp only [Transition.bytes, Stamp.bytes_eq, packBits_five, beBytes_one, beBytes_two]
      cases t.source <;> cases t.levels <;> rfl
    · unfold Live.bytes
      simp only [packBits_three, packBits_five, beBytes_one, beBytes_two, beInt_two]
    · simp only [State.clockBody, Stamp.bytes_eq, flagByte_eq, beBytes_one, beBytes_two, beBytes_three]
    · unfold State.fieldBody RateEntry.bytes
      simp only [FieldEstimator.marked_eq, State.converter, fieldConverter, optStamp, Stamp.bytes_eq, flagByte_eq,
        packBits_two, beBytes_one, beBytes_two, beBytes_three, beInt_two, beInt_three]
    · simp only [State.episodeBody, optStamp, Stamp.bytes_eq, toList_eq_finRange, List.flatMap_map, List.length_map,
        flagByte_eq, packBits_two, beBytes_one, beBytes_two, beBytes_three, pow_zero]
    · simp only [Episode.entryBody, optStamp, Stamp.bytes_eq, flagByte_eq, packBits_one, beBytes_one, beBytes_two,
        beBytes_four]
    · simp only [State.contactBody, packBits_five, beBytes_one, beBytes_two]
    · unfold CaptureUnit.listBytes CaptureRecord.bytes
      simp only [CaptureUnit.headBytes, CaptureRecord.length_eq, Stamp.bytes_eq, packBits_three, beBytes_one, beBytes_two]
    · unfold CaptureUnit.pendingBytes PendingEntry.bytes
      simp only [CaptureUnit.headBytes, Stamp.bytes_eq, beBytes_one, beBytes_two]
    · intro r offset count
      simp only [CaptureUnit.sampleBytes, CaptureRecord.length_eq, readCodes_eq, List.flatMap_map, flagByte_eq,
        beBytes_one, beBytes_two, beInt_two]
    · unfold Intake.bytes Converter.bytes
      simp only [toList_eq_finRange, List.flatMap_map, packBits_three, flagByte_eq, beBytes_one]

end Sys2Proof.Machine
end

section
/-! SUPPORT. One step of the block by its queue of commands: the front command is run on the rest, an empty queue idles
(assumption 5). -/

namespace Sys2Proof.Machine

theorem step_of_pending_cons {c : Instr} {rest : List Instr} {s : State} (waiting : s.pending = c :: rest) :
    step s = exec c { s with pending := rest } := by
  simp only [step, waiting]

theorem step_of_pending_nil {s : State} (idle : s.pending = []) : step s = .next s := by
  simp only [step, idle]

/-- Settles O1: a step looks at its queue, which holds a front command or is empty. -/
theorem stepRunsFrontCommand : Obligations.StepRunsFrontCommand :=
  ⟨fun _ _ _ waiting => step_of_pending_cons waiting, fun _ idle => step_of_pending_nil idle⟩

end Sys2Proof.Machine
end
